-- ==== Sys2Proof/Word.lean ====
section
/-! DEFINITION. The character of the cue line and the frame range: the two plainest data of the manual. -/

namespace Sys2Proof

/-- One character of the cue line, one byte of a message, a header record or the boot image (R190, R193). -/
abbrev Byte := BitVec 8

/-- The highest film frame index: frames run from 0 to 1,048,575 (Units, R2). -/
abbrev maxFrame : Nat := 1048575

end Sys2Proof
end

