-- ==== Sys2Proof/Syntax.lean ====
section
/-! DEFINITION. The steps (commands) of the part: one constructor per row of spec/opcode_table.json. The table gives
its rows no operands; an operand here is what the step takes from outside the part (a level, a sample, a character,
the bytes of the boot store, the bit times of quiet that have passed, the outcome of the store's checks). -/

namespace Sys2Proof

/-- The twelve bits of a character as the receiver reads them, less the start bit (R93). -/
structure RxChar where
  data   : Byte
  mark   : Bool
  parity : Bool
  stop   : Bool
  deriving DecidableEq, Repr

/-- A check word of a record body that fails: with two wrong bits (`double`) or with one, and the 8-bit pattern the
check gives for it (R168). -/
structure WordFault where
  double   : Bool
  syndrome : Byte
  deriving DecidableEq, Repr

/-- What the store's checks find within one step (R168, R173): for a record body, by the record's start frame, its
failing words in the order the store holds them; and the start frames of the index entries that fail parity. A body
or an entry not listed checks. -/
structure Checks where
  bodies : List (Nat × List WordFault)
  parity : List Nat
  deriving DecidableEq, Repr

/-- Every check is clean. -/
def Checks.clean : Checks := ⟨[], []⟩

/-- The steps of the part, in the order of spec/opcode_table.json. -/
inductive Instr where
  /-- Power-up or RST_N low (R185). -/
  | powerOnReset
  /-- RST_N goes high; `straps` are ADDR5 to ADDR0 as they stand (R181, R185). -/
  | leaveReset (straps : BitVec 6)
  /-- The boot read ends; `image` is what the boot store gave, from its first location (R182). -/
  | bootReadEnd (image : List Byte)
  /-- `waited` bit times of quiet line pass, then the receiver begins to look for start bits (R103). -/
  | receiverStart (waited : Nat)
  /-- `waited` bit times of quiet line pass, then the idle measure stands at 20 ms (R188). -/
  | joiningQuietExpiry (waited : Nat)
  /-- A frame pulse; `dirHigh` is the DIR level (R1). -/
  | frmPulse (dirHigh : Bool)
  /-- A field start; `chk` is what the checks of its scrub step find (R3, R175). -/
  | fieldStart (chk : Checks)
  /-- A field start at which a TALLY pulse ends (R164). -/
  | tallyPulseEnd
  /-- A field start at which the entry of the hold-back slot is handed over (R65). -/
  | holdbackExpiry
  /-- A field start at which the status countdown ends (R178). -/
  | statusCountdownExpiry
  | refLossExpiry
  /-- A valid sample triple on the SCAN port (R70). -/
  | pixel (r g b : BitVec 12)
  | lineEnd
  /-- A character whose taking is a receive error (R98). -/
  | receiveError (c : RxChar)
  /-- `waited` bit times of silence pass, then the gap watch expires (R99). -/
  | gapExpiry (waited : Nat)
  /-- A character that completes a message which checks (R96, R97, R103). -/
  | messageAccepted (c : RxChar)
  /-- The Position and Cadence Unit takes the POSITION handed over (R6). -/
  | position
  | mhTake
  | unknownKind
  | sceneSet (chk : Checks)
  | gradeSet (chk : Checks)
  | sceneMove (chk : Checks)
  | sceneDelete (chk : Checks)
  | rangeTrim
  | trimStep (chk : Checks)
  | listClear (chk : Checks)
  | queryStatus
  | queryScene (chk : Checks)
  | queryPunch
  | queryFetch
  | queryCapture
  | clear
  | setMode
  | resetSoft
  | resetList
  | punchArm
  | punchAbort
  | partnerCheck (chk : Checks)
  | fetchFrom
  | listQuery
  | responderStep (chk : Checks)
  | listRec
  | merge (chk : Checks)
  | listEnd
  | gapTimerExpiry
  | resolutionRead (chk : Checks)
  | fillingComplete
  /-- `waited` bit times of quiet line pass, then the part's wait ends (R108). -/
  | attemptStart (waited : Nat)
  | attemptComplete
  | collision
  /-- A character is taken at its stop bit (R94). -/
  | characterTaken (c : RxChar)
  | lineStartBit
  | stoppedCharacterEnd
  deriving DecidableEq, Repr

end Sys2Proof
end

