-- ==== Sys2Proof/Config.lean ====
section
/-! DEFINITION. The configuration of the part (R184, R198), the grade it shares with the scene list (R19), and the
model's free values: constants with no body, of which nothing can be proved. -/

namespace Sys2Proof.Machine

/-- A knot: input x, 0 to 4,095, and output y, 0 to 1,023 (R19). -/
structure Knot where
  x : Nat
  y : Nat
  deriving DecidableEq, Repr

/-- A curve: a preset of the configuration or a knot list (R19). -/
inductive Curve where
  | preset (i : Nat)
  | knots (ks : List Knot)
  deriving DecidableEq, Repr

/-- One value per channel. -/
structure Rgb where
  r : Int
  g : Int
  b : Int
  deriving DecidableEq, Repr

/-- A grade (R19). -/
structure Grade where
  black : Rgb
  gain  : Rgb
  lift  : Rgb
  sat   : Int
  curve : Curve
  deriving DecidableEq, Repr

/-- The unity grade (R19, R47). -/
def Grade.unity : Grade := ⟨⟨0, 0, 0⟩, ⟨1024, 1024, 1024⟩, ⟨0, 0, 0⟩, 1024, .preset 0⟩

inductive BitRate where
  | kbit250 | kbit500 | mbit1
  deriving DecidableEq, Repr

inductive CadenceMode where
  | unity | pulldown
  deriving DecidableEq, Repr

inductive LegalRange where
  | narrow | full
  deriving DecidableEq, Repr

inductive TallyMode where
  | off | pulse | toggle
  deriving DecidableEq, Repr

inductive AmarkMode where
  | off | phase0
  deriving DecidableEq, Repr

/-- The configured items (R184, R198). A station or report address that is none is `none`. -/
structure Config where
  groups        : BitVec 64
  broadcast     : Bool
  report        : Option Byte
  partner       : Option Byte
  transport     : Option Byte
  recorder      : Option Byte
  bitRate       : BitRate
  cadenceMode   : CadenceMode
  legalRange    : LegalRange
  baseGrade     : Grade
  presets       : List (List Knot)
  enableMask    : BitVec 15
  faultMask     : BitVec 15
  /-- in units of 16 fields, 0 for off (R178) -/
  statusInterval : Nat
  holdback      : Nat
  tallyMode     : TallyMode
  tallyLength   : Nat
  amarkMode     : AmarkMode
  invertGate    : Bool
  invertTally   : Bool
  invertAmark   : Bool
  autoFetchStart    : Bool
  autoFetchMismatch : Bool
  deriving DecidableEq, Repr

/-- Preset 0 of the default configuration, the straight line (R47, R184). -/
def straightLine : List Knot := [⟨0, 0⟩, ⟨4095, 1023⟩]

/-- The default configuration (R184). The fault mask holds STORE_UE (bit 5) and INDEX_FAULT (bit 6). -/
def Config.default : Config where
  groups := 0
  broadcast := true
  report := none
  partner := none
  transport := none
  recorder := none
  bitRate := .kbit500
  cadenceMode := .pulldown
  legalRange := .narrow
  baseGrade := Grade.unity
  presets := List.replicate 8 straightLine
  enableMask := 0
  faultMask := 0b000000001100000
  statusInterval := 0
  holdback := 2
  tallyMode := .pulse
  tallyLength := 4
  amarkMode := .phase0
  invertGate := false
  invertTally := false
  invertAmark := false
  autoFetchStart := false
  autoFetchMismatch := false

/-- FREE VALUE (notes/assumptions/8.md): whether a character with both a framing and a parity fault, of these data
bits and this mark, is counted as FRAMING (else as PARITY). R94 and R98 give one error for it and do not say which. -/
opaque Config.framingBeforeParity : Byte → Bool → Bool

end Sys2Proof.Machine
end

