-- ==== Sys2Proof/Machine/State.lean ====
section
/-! DEFINITION. The state of the part, block by block (00_scope.md, Blocks), as plain data, and the state after a
power-on reset. Each field's rule and reset value stand in INVENTORY.md. -/

namespace Sys2Proof.Machine

/-! ## Start-up (10_configuration_and_start_up.md) -/

/-- The start-up states (R185). -/
inductive PartState where
  | reset | loading | joining | running
  deriving DecidableEq, Repr

/-- Where the configuration came from (R182). -/
inductive ConfigSource where
  | boot | defaults
  deriving DecidableEq, Repr

/-! ## Position and Cadence Unit (01_film_position_and_field_cadence.md) -/

inductive PositionState where
  | unplaced | placed | suspect
  deriving DecidableEq, Repr

inductive Direction where
  | fwd | rev
  deriving DecidableEq, Repr

inductive SpeedClass where
  | still | jog | sound | shuttle
  deriving DecidableEq, Repr

inductive CadenceState where
  | free | locked | broken
  deriving DecidableEq, Repr

/-- A POSITION in the pending slot (R9); `phase` is none where the field is absent. -/
structure HeldPosition where
  frame : Nat
  seq   : BitVec 8
  speed : SpeedClass
  phase : Option (BitVec 2)
  deriving DecidableEq, Repr

/-- The field snapshot (R4). -/
structure Snapshot where
  fieldCount    : BitVec 24
  parity        : Bool
  gateFrame     : Nat
  fieldIndex    : Nat
  cadencePhase  : Option (BitVec 2)
  cadenceState  : CadenceState
  positionState : PositionState
  speedClass    : SpeedClass
  direction     : Direction
  rangeClamp    : Bool
  deriving DecidableEq, Repr

/-- The Position and Cadence Unit. -/
@[ext]
structure Pcu where
  gateFrame     : Nat
  rangeClamp    : Bool
  positionState : PositionState
  pulseSeq      : BitVec 8
  direction     : Direction
  speedClass    : SpeedClass
  held          : Option HeldPosition
  fieldCount    : BitVec 24
  fieldParity   : Bool
  fieldsInFrame : Nat
  cadenceState  : CadenceState
  cadencePhase  : Option (BitVec 2)
  snapshot      : Snapshot
  slips         : Nat
  breaks        : Nat
  refTimerRunning : Bool
  lossInProgress  : Bool
  deriving DecidableEq, Repr

/-- The snapshot after a reset (R17). -/
def Snapshot.reset : Snapshot := ⟨0, false, 0, 0, none, .free, .unplaced, .still, .fwd, false⟩

/-- The unit after a power-on reset (R17). -/
def Pcu.reset : Pcu where
  gateFrame := 0
  rangeClamp := false
  positionState := .unplaced
  pulseSeq := 0
  direction := .fwd
  speedClass := .still
  held := none
  fieldCount := 0
  fieldParity := false
  fieldsInFrame := 0
  cadenceState := .free
  cadencePhase := none
  snapshot := Snapshot.reset
  slips := 0
  breaks := 0
  refTimerRunning := false
  lossInProgress := false

/-! ## Scene Store (02_the_scene_list.md, 09_store_integrity_faults_and_event_reports.md) -/

/-- A record body (R20). A grade that is none makes the record ungraded. -/
structure Body where
  sceneId       : Nat
  transitionLen : Nat
  omitted       : Bool
  grade         : Option Grade
  deriving DecidableEq, Repr

/-- An index entry with its body (R19, R20) and the two marks (R19, R173). -/
structure Entry where
  start     : Nat
  revision  : Nat
  knotCount : Nat
  faulty    : Bool
  damaged   : Bool
  body      : Body
  deriving DecidableEq, Repr

/-- The scene list, the knot pool, the frozen flag and the scrub cursor. -/
@[ext]
structure Store where
  index       : List Entry
  freeKnots   : Nat
  frozen      : Bool
  scrubCursor : Nat
  deriving DecidableEq, Repr

/-- The knots of the pool (R22). -/
abbrev poolSize : Nat := 2048

/-- The records the list holds at most (R21). -/
abbrev listLimit : Nat := 1024

/-- The store after a power-on reset (R44), and the emptied store of R39 and R46. -/
def Store.empty : Store := ⟨[], poolSize, false, 0⟩

/-- The clients of the store (R41). -/
inductive Client where
  | resolver | handler | responder | scrubber
  deriving DecidableEq, Repr

/-- The store arbiter: its holder and the clients waiting. -/
@[ext]
structure Arbiter where
  holder         : Option Client
  resolverWaits  : Bool
  handlerWaits   : Bool
  responderWaits : Bool
  deriving DecidableEq, Repr

/-- No holder, no client waiting (R44). -/
def Arbiter.idle : Arbiter := ⟨none, false, false, false⟩

/-! ## Grade Resolver (03_grade_resolution_and_transitions.md) -/

inductive CompareMode where
  | off | bypass | split
  deriving DecidableEq, Repr

/-- The mode setting (R60). -/
structure ModeSetting where
  compare : CompareMode
  split   : Nat
  deriving DecidableEq, Repr

/-- A SCENE_ENTERED entry (R66). -/
structure SceneEntry where
  frame      : Nat
  start      : Option Nat
  sceneId    : Nat
  revision   : Nat
  fieldCount : BitVec 24
  deriving DecidableEq, Repr

/-- The scene descriptor of a bank (R54). -/
structure SceneDesc where
  start     : Option Nat
  sceneId   : Nat
  revision  : Nat
  omitted   : Bool
  damaged   : Bool
  spanFirst : Nat
  spanLast  : Nat
  deriving DecidableEq, Repr

/-- A parameter bank (R54). The mixing mark is set exactly where the from-curve is present. -/
structure Bank where
  resolvedFrame : Nat
  w             : Nat
  black         : Rgb
  gain          : Rgb
  lift          : Rgb
  sat           : Int
  toCurve       : Curve
  fromCurve     : Option Curve
  inherited     : Bool
  mode          : ModeSetting
  scene         : SceneDesc
  deriving DecidableEq, Repr

/-- What a reading takes from the store and the filling works from (R57, R58). The from-grade is present where a
transition applies. -/
structure Reading where
  frame     : Nat
  mode      : ModeSetting
  w         : Nat
  toGrade   : Grade
  fromGrade : Option Grade
  inherited : Bool
  scene     : SceneDesc
  deriving DecidableEq, Repr

/-- The pending bank (R58). -/
inductive PendingBank where
  | empty
  | filling (r : Reading)
  | ready (b : Bank)
  deriving DecidableEq, Repr

/-- What the resolver takes at the grant of its reading (R57). -/
structure Latch where
  frame : Nat
  mode  : ModeSetting
  deriving DecidableEq, Repr

/-- The Grade Resolver. `slot` and `countdown` are the hold-back (R65). -/
@[ext]
structure Resolver where
  inFlight  : Bool
  rerun     : Bool
  mode      : ModeSetting
  lastScene : Option Nat
  slot      : Option SceneEntry
  countdown : Nat
  late      : Nat
  latch     : Option Latch
  deriving DecidableEq, Repr

/-- OFF and split position 0 (R60). -/
def ModeSetting.off : ModeSetting := ⟨.off, 0⟩

/-- The resolver after a power-on reset (R68). -/
def Resolver.reset : Resolver := ⟨false, false, ModeSetting.off, none, none, 0, 0, none⟩

/-- The descriptor of no scene over the whole reel (R54, R67). -/
def SceneDesc.none : SceneDesc := ⟨.none, 0, 0, false, false, 0, maxFrame⟩

/-- A bank that holds a grade unblended, w 256, not mixing (R52, R67). -/
def Bank.ofGrade (g : Grade) (frame : Nat) (inherited : Bool) (mode : ModeSetting) (scene : SceneDesc) : Bank :=
  ⟨frame, 256, g.black, g.gain, g.lift, g.sat, g.curve, .none, inherited, mode, scene⟩

/-! ## Correction Pipeline (04_the_correction_pipeline.md) -/

inductive OutputMode where
  | black | grading
  deriving DecidableEq, Repr

/-- A word on PIC_R, PIC_G, PIC_B: a pixel (PIC_VLD) or a word of a header record (PIC_HDR) (R86, R197). -/
inductive PicWord where
  | pixel (r g b : BitVec 10)
  | header (r g b : BitVec 10)
  deriving DecidableEq, Repr

/-- The Correction Pipeline. `port` is what has left the PIC port since the power-on reset, first word first. -/
@[ext]
structure Pipeline where
  active         : Bank
  pendingBank    : PendingBank
  outputMode     : OutputMode
  clipInProgress : Nat
  clipLast       : Nat
  pixelIndex     : Nat
  lineOpen       : Bool
  port           : List PicWord
  deriving DecidableEq, Repr

/-- The pipeline after a power-on reset (R68, R91). Of the active bank R68 gives the grade, the weight, the scene and the
frame; its compare mode OFF, split position 0, inherited mark and span are chosen (DESIGN CHOICE, notes/assumptions/9.md). -/
def Pipeline.reset : Pipeline :=
  ⟨Bank.ofGrade Grade.unity 0 false ModeSetting.off SceneDesc.none, .empty, .black, 0, 0, 0, false, []⟩

/-! ## Records that are reported (06_station_messages.md, 07_scene_list_transfer.md, 08, 09) -/

/-- A scene record as a message carries it (R193). -/
structure Record where
  start         : Nat
  sceneId       : Nat
  revision      : Nat
  transitionLen : Nat
  omitted       : Bool
  damaged       : Bool
  grade         : Option Grade
  deriving DecidableEq, Repr

inductive PunchState where
  | idle | armed | recording | done | missed | aborted
  deriving DecidableEq, Repr

/-- The punch record (R153). -/
@[ext]
structure Punch where
  inFrame   : Nat
  outFrame  : Nat
  align     : Bool
  state     : PunchState
  inStamp   : BitVec 24
  outStamp  : BitVec 24
  unread    : Bool
  overwrite : Bool
  deriving DecidableEq, Repr

inductive FetchResult where
  | noResult | done | timeout | sequence | count | refused | aborted
  deriving DecidableEq, Repr

/-- The requester (R137) with its fetch status record (R146). `fetching` is fetch_state and the record's state, and
`tag` is the requester's tag and the record's: each pair is equal at every moment. -/
@[ext]
structure Requester where
  fetching   : Bool
  result     : FetchResult
  partner    : Option Byte
  tag        : BitVec 8
  first      : Nat
  last       : Nat
  received   : Nat
  inserted   : Nat
  replaced   : Nat
  keptLocal  : Nat
  refused    : Nat
  expected   : BitVec 16
  gapTimer   : Bool
  deriving DecidableEq, Repr

/-- The requester after a power-on reset (R137). -/
def Requester.reset : Requester := ⟨false, .noResult, none, 0, 0, 0, 0, 0, 0, 0, 0, 0, false⟩

inductive LineErrorKind where
  | framing | parity | length | crc | breakErr | gap
  deriving DecidableEq, Repr

/-- What the line error capture record holds when LOCKED (R100). -/
structure LineRecord where
  kind       : LineErrorKind
  header     : List Byte
  fieldCount : BitVec 24
  deriving DecidableEq, Repr

/-- The line error capture record: EMPTY where `record` is none (R100). -/
structure LineCapture where
  record : Option LineRecord
  lost   : Bool
  deriving DecidableEq, Repr

inductive StoreErrorKind where
  | corrected | uncorrectable
  deriving DecidableEq, Repr

/-- The operations a body read is labelled with (R168). -/
inductive StoreOp where
  | resolve | edit | send | scrub | merge
  deriving DecidableEq, Repr

/-- What the store capture record holds (R171). -/
structure StoreError where
  kind     : StoreErrorKind
  op       : StoreOp
  start    : Nat
  syndrome : Byte
  deriving DecidableEq, Repr

inductive StoreCaptureState where
  | empty
  | holding (e : StoreError)
  | locked (e : StoreError)
  deriving DecidableEq, Repr

structure StoreCapture where
  state : StoreCaptureState
  lost  : Bool
  deriving DecidableEq, Repr

/-- The status summary (R122). -/
structure StatusSummary where
  part          : PartState
  source        : ConfigSource
  station       : Byte
  flags         : BitVec 15
  kindFlags     : BitVec 6
  gateFrame     : Nat
  positionState : PositionState
  speedClass    : SpeedClass
  direction     : Direction
  cadenceState  : CadenceState
  cadencePhase  : Option (BitVec 2)
  fieldCount    : BitVec 24
  recordCount   : Nat
  freeKnots     : Nat
  frozen        : Bool
  punchState    : PunchState
  fetching      : Bool
  fetchResult   : FetchResult
  streaming     : Bool
  mode          : ModeSetting
  enable        : BitVec 15
  statusEnable  : Bool
  slips         : Nat
  breaks        : Nat
  late          : Nat
  lineErrors    : Nat
  rxDrops       : Nat
  txAbandons    : Nat
  ignored       : Nat
  clipLast      : Nat
  deriving DecidableEq, Repr

/-- The answer to QUERY CAPTURE (R125, R172). -/
structure CaptureAnswer where
  store     : StoreCapture
  corrected : Nat
  damaged   : Nat
  line      : LineCapture
  kindFlags : BitVec 6
  deriving DecidableEq, Repr

/-! ## Cue Line Controller (05_the_cue_line.md) -/

/-- How a message was addressed (R95). -/
inductive Addressing where
  | individual | group | broadcast
  deriving DecidableEq, Repr

/-- A routed message (R103); its length is the length of its payload. -/
structure Message where
  dest       : Byte
  addressing : Addressing
  source     : Byte
  kind       : Byte
  payload    : List Byte
  deriving DecidableEq, Repr

/-- A message being assembled: the characters received so far, the destination first, and whether it is one that the
part itself is sending (R94, R102). -/
structure Assembly where
  addressing : Addressing
  chars      : List Byte
  own        : Bool
  deriving DecidableEq, Repr

inductive Receiver where
  | idle
  | assembling (a : Assembly)
  | discarding
  deriving DecidableEq, Repr

/-- The results of a REPLY (R119). -/
inductive ReplyResult where
  | ok | noScene | duplicate | listFull | knotsFull | badField | storeFrozen | busy | unknownKind
  deriving DecidableEq, Repr

/-- The answer of a QUERY (R121 to R125); `nothing` where the REPLY carries no answer. -/
inductive Answer where
  | nothing
  | status (x : StatusSummary)
  | scene (x : Record)
  | punch (x : Punch)
  | fetch (x : Requester)
  | capture (x : CaptureAnswer)
  deriving DecidableEq, Repr

/-- What a REPLY carries after answered_kind and result (R119, R195). -/
inductive ReplyBody where
  | plain
  | edit (key revision count : Nat)
  | query (topic : Byte) (answer : Answer)
  deriving DecidableEq, Repr

/-- The contents of a message the part sends (R135, R119, R139, R148, R150). -/
inductive TxContent where
  | sceneEntered (e : SceneEntry)
  | eventReport (flags newFlags : BitVec 15) (fieldCount : BitVec 24)
  | status (x : StatusSummary)
  | reply (kind : Byte) (result : ReplyResult) (body : ReplyBody)
  | listQuery (tag : BitVec 8) (first last : Nat)
  | listRec (tag : BitVec 8) (index : BitVec 16) (x : Record)
  | listEnd (tag : BitVec 8) (busy : Bool) (total : BitVec 16)
  deriving DecidableEq, Repr

/-- An entry of the transmit queue: its destination code and its contents (R105). -/
structure TxMsg where
  dest    : Byte
  content : TxContent
  deriving DecidableEq, Repr

/-- The transmitter (R109 to R112): empty; waiting between attempts, with its failed attempts; in an attempt; or
finishing the character under way of a message that a line reset stopped. -/
inductive Transmitter where
  | empty
  | waiting (m : TxMsg) (attempts : Nat)
  | sending (m : TxMsg) (attempts : Nat)
  | stopping
  deriving DecidableEq, Repr

/-- The idle measure (R108): bit times of quiet line, and whether it runs. -/
structure IdleMeasure where
  running : Bool
  bits    : Nat
  deriving DecidableEq, Repr

@[ext]
structure CueLine where
  receiverOn : Bool
  rx         : Receiver
  kindFlags  : BitVec 6
  capture    : LineCapture
  lineErrors : Nat
  rxDrops    : Nat
  txAbandons : Nat
  inbound    : List Message
  txq        : List TxMsg
  tx         : Transmitter
  idle       : IdleMeasure
  yieldMark  : Bool
  /-- POSITION messages handed over and not yet taken: the model's own field (notes/assumptions/4.md). -/
  handover   : List Message
  deriving DecidableEq, Repr

/-- The controller after a power-on reset (R113). -/
def CueLine.reset : CueLine :=
  ⟨false, .idle, 0, ⟨none, false⟩, 0, 0, 0, [], [], .empty, ⟨false, 0⟩, false, []⟩

/-! ## Message Handler (06_station_messages.md, 07_scene_list_transfer.md) -/

/-- A RANGE_TRIM walk: the start visited at the step before, and the records changed so far (R35, R120). -/
structure Walk where
  cursor  : Option Nat
  changed : Nat
  deriving DecidableEq, Repr

/-- How far the message in hand is: to be carried out at once; at the store (waiting for the grant or granted); in a
trim walk; or in the merge of a LIST_REC taken under this tag. -/
inductive Phase where
  | carry
  | store
  | walk (w : Walk)
  | merging (tag : BitVec 8)
  deriving DecidableEq, Repr

inductive HandlerState where
  | idle
  | executing (m : Message) (p : Phase)
  deriving DecidableEq, Repr

@[ext]
structure Handler where
  state   : HandlerState
  ignored : Nat
  deriving DecidableEq, Repr

/-- A stream of the responder (R137). -/
structure Stream where
  station : Byte
  tag     : BitVec 8
  first   : Nat
  last    : Nat
  cursor  : Option Nat
  sent    : BitVec 16
  deriving DecidableEq, Repr

/-- The responder. `placeHeld` says that a shared place of the transmit queue is held for its step in progress (R149);
`unfinished` is the stream of a step that was in progress when a line reset ended it (R152). -/
@[ext]
structure Responder where
  streaming  : Bool
  stream     : Stream
  placeHeld  : Bool
  unfinished : Option Stream
  deriving DecidableEq, Repr

/-- The responder after a power-on reset (R137). -/
def Responder.reset : Responder := ⟨false, ⟨0, 0, 0, 0, none, 0⟩, false, none⟩

/-! ## Gate and Cue Output Unit (08_record_gate_and_cue_outputs.md) -/

@[ext]
structure GateUnit where
  punch    : Punch
  target   : Option Nat
  lastEval : Option Nat
  gate     : Bool
  tally    : Bool
  amark    : Bool
  tallyCountdown : Nat
  deriving DecidableEq, Repr

/-- The unit after a power-on reset and after a line reset (R167). -/
def GateUnit.reset : GateUnit :=
  ⟨⟨0, 0, false, .idle, 0, 0, false, false⟩, none, none, false, false, false, 0⟩

/-! ## Event Unit (09_store_integrity_faults_and_event_reports.md) -/

@[ext]
structure Events where
  flags        : BitVec 15
  enable       : BitVec 15
  statusEnable : Bool
  statusCountdown : Nat
  corrected    : Nat
  damaged      : Nat
  capture      : StoreCapture
  deriving DecidableEq, Repr

/-- The Event Unit after a power-on reset (R180). -/
def Events.reset : Events := ⟨0, 0, false, 0, 0, 0, ⟨.empty, false⟩⟩

/-! ## The part -/

/-- The whole part, and the queue of the steps that wait. -/
@[ext]
structure State where
  part         : PartState
  address      : BitVec 6
  config       : Config
  configSource : ConfigSource
  pcu          : Pcu
  store        : Store
  arbiter      : Arbiter
  resolver     : Resolver
  pipeline     : Pipeline
  cue          : CueLine
  handler      : Handler
  requester    : Requester
  responder    : Responder
  gate         : GateUnit
  events       : Events
  pending      : List Instr
  deriving DecidableEq, Repr

/-- The part in RESET after a power-on reset (R17, R44, R68, R91, R113, R136, R137, R167, R180, R185). The address, the
configuration and its source, which the part has only after it leaves RESET and LOADING, are DESIGN CHOICE
(notes/assumptions/9.md). -/
def State.reset : State where
  part := .reset
  address := 0
  config := Config.default
  configSource := .defaults
  pcu := Pcu.reset
  store := Store.empty
  arbiter := Arbiter.idle
  resolver := Resolver.reset
  pipeline := Pipeline.reset
  cue := CueLine.reset
  handler := ⟨.idle, 0⟩
  requester := Requester.reset
  responder := Responder.reset
  gate := GateUnit.reset
  events := Events.reset
  pending := []

/-- The part raises no fault that stops it: every step answers a next state, so there is no reason to list. -/
inductive Fault where
  deriving DecidableEq, Repr

/-- Why a step has no meaning. -/
inductive Refusal where
  /-- Raised by an arm of `exec` that has no meaning yet. Safe: the model stops. No arm raises it. -/
  | notModelled (mnemonic : String)
  deriving DecidableEq, Repr

/-- What a step answers. -/
abbrev Answers := Host.Outcome State Fault Refusal

end Sys2Proof.Machine
end

