-- ==== Sys2Proof/Machine/Flags.lean ====
section
/-! DEFINITION. Every flag word of the part: the fifteen event flags (R176, R190), the six line error kind flags (R190),
the fifteen header flags (R88), and FLT_N, which follows the event flags (R179). -/

namespace Sys2Proof.Machine

/-- The event flags, in the order of R176, which is the order of their bits (R190). -/
inductive EventFlag where
  | positionSlip | cadenceBreak | lateGrade | refLoss | storeCe | storeUe | indexFault | editRefused | lineError
  | rxDrop | txAbandon | partnerMismatch | fetchEnd | unexpectedReply | punchEvent
  deriving DecidableEq, Repr

/-- The bit of an event flag: bit 0 is POSITION_SLIP and bit 14 is PUNCH_EVENT (R190). -/
def EventFlag.index : EventFlag → Nat
  | .positionSlip => 0
  | .cadenceBreak => 1
  | .lateGrade => 2
  | .refLoss => 3
  | .storeCe => 4
  | .storeUe => 5
  | .indexFault => 6
  | .editRefused => 7
  | .lineError => 8
  | .rxDrop => 9
  | .txAbandon => 10
  | .partnerMismatch => 11
  | .fetchEnd => 12
  | .unexpectedReply => 13
  | .punchEvent => 14

/-- The mask of one event flag. -/
def EventFlag.mask (f : EventFlag) : BitVec 15 := BitVec.twoPow 15 f.index

/-- Whether an event flag is set in a mask. -/
def EventFlag.isIn (f : EventFlag) (m : BitVec 15) : Bool := m.getLsbD f.index

/-- The bit of a line error kind flag (R190), and its code in the capture record (R190). -/
def LineErrorKind.index : LineErrorKind → Nat
  | .framing => 0
  | .parity => 1
  | .length => 2
  | .crc => 3
  | .breakErr => 4
  | .gap => 5

/-- The mask of one line error kind flag. -/
def LineErrorKind.mask (k : LineErrorKind) : BitVec 6 := BitVec.twoPow 6 k.index

/-- The number whose bits are the given ones, bit 0 first. -/
def packBits : List Bool → Nat
  | [] => 0
  | b :: bs => (if b then 1 else 0) + 2 * packBits bs

/-- The flags of a field header record (R88), in the order of their bits: bit 0 NOT_READY to bit 14 GATE (R197). -/
structure HeaderFlags where
  notReady      : Bool
  late          : Bool
  omitted       : Bool
  bypass        : Bool
  split         : Bool
  rangeClamp    : Bool
  unplaced      : Bool
  suspect       : Bool
  cadenceFree   : Bool
  cadenceBroken : Bool
  storeFault    : Bool
  damaged       : Bool
  inherited     : Bool
  mixing        : Bool
  gate          : Bool
  deriving DecidableEq, Repr

/-- The flags as the header's 16-bit field (R197). -/
def HeaderFlags.word (h : HeaderFlags) : Nat :=
  packBits [h.notReady, h.late, h.omitted, h.bypass, h.split, h.rangeClamp, h.unplaced, h.suspect, h.cadenceFree,
    h.cadenceBroken, h.storeFault, h.damaged, h.inherited, h.mixing, h.gate]

/-- FLT_N is active: an event flag of the fault mask is set (R179). -/
def State.faultActive (s : State) : Bool := s.events.flags &&& s.config.faultMask != 0

end Sys2Proof.Machine
end

