-- ==== Sys2Proof/Machine/Operands.lean ====
section
/-! DEFINITION. What a message carries: the kinds (R190), the fields of a payload (R190 to R196), the lengths they need
(R191), the structural faults (R27) and the clamps (R26). -/

namespace Sys2Proof.Machine

/-! ## Ranges -/

/-- A value below the range becomes the lower bound and a value above it the upper bound (00_scope.md, Arithmetic). -/
def clamp (lo hi x : Int) : Int := if x < lo then lo else if hi < x then hi else x

/-- The count of a saturating counter after one more: it stops at 65,535 (00_scope.md, Terms). -/
def satInc (n : Nat) : Nat := if 65535 ≤ n then 65535 else n + 1

/-- A revision counted up: a count that would pass 255 stays at 255 (R28). -/
def nextRevision (n : Nat) : Nat := if 255 ≤ n then 255 else n + 1

/-! ## Fields of a payload (R190): most significant byte first -/

/-- Byte `i` of a payload. -/
def u8 (p : List Byte) (i : Nat) : Nat := (p.getD i 0).toNat

/-- The 2-byte unsigned field at byte `i`. -/
def u16 (p : List Byte) (i : Nat) : Nat := u8 p i * 256 + u8 p (i + 1)

/-- The 3-byte unsigned field at byte `i`. -/
def u24 (p : List Byte) (i : Nat) : Nat := u8 p i * 65536 + u8 p (i + 1) * 256 + u8 p (i + 2)

/-- The 2-byte two's complement field at byte `i` (R190, Signed fields). -/
def s16 (p : List Byte) (i : Nat) : Int :=
  if u16 p i < 32768 then (u16 p i : Int) else (u16 p i : Int) - 65536

/-- Bit `k` of byte `i`. -/
def bitAt (p : List Byte) (i k : Nat) : Bool := (p.getD i 0).getLsbD k

/-- A frame field that may be none: 0xFFFFFF is none (R190). -/
def optFrame (n : Nat) : Option Nat := if n = 0xFFFFFF then none else some n

/-! ## Kinds -/

/-- The message kinds the part knows (R190). -/
inductive MsgKind where
  | position | sceneSet | gradeSet | sceneMove | sceneDelete | rangeTrim | listClear | query | clear | setMode | reset
  | punchArm | punchAbort | fetchFrom | listQuery | listRec | listEnd | sceneEntered | eventReport | status | reply
  deriving DecidableEq, Repr

/-- The kind codes (R190). -/
def MsgKind.code : MsgKind → Byte
  | .position => 0x10
  | .sceneSet => 0x20
  | .gradeSet => 0x21
  | .sceneMove => 0x22
  | .sceneDelete => 0x23
  | .rangeTrim => 0x24
  | .listClear => 0x25
  | .query => 0x30
  | .clear => 0x31
  | .setMode => 0x32
  | .reset => 0x33
  | .punchArm => 0x40
  | .punchAbort => 0x41
  | .fetchFrom => 0x50
  | .listQuery => 0x51
  | .listRec => 0x52
  | .listEnd => 0x53
  | .sceneEntered => 0x60
  | .eventReport => 0x61
  | .status => 0x62
  | .reply => 0x70

/-- The kinds in the order of R190's table. -/
def MsgKind.all : List MsgKind :=
  [.position, .sceneSet, .gradeSet, .sceneMove, .sceneDelete, .rangeTrim, .listClear, .query, .clear, .setMode, .reset,
   .punchArm, .punchAbort, .fetchFrom, .listQuery, .listRec, .listEnd, .sceneEntered, .eventReport, .status, .reply]

/-- The kind of a code, none where the part does not know it (R190). -/
def MsgKind.ofCode (c : Byte) : Option MsgKind := MsgKind.all.find? (fun k => k.code = c)

/-- The kinds that edit the list (02_the_scene_list.md, Edits). -/
def MsgKind.isEdit : MsgKind → Bool
  | .sceneSet | .gradeSet | .sceneMove | .sceneDelete | .rangeTrim | .listClear => true
  | .position | .query | .clear | .setMode | .reset | .punchArm | .punchAbort | .fetchFrom | .listQuery | .listRec
  | .listEnd | .sceneEntered | .eventReport | .status | .reply => false

/-! ## Curves, grades and records (R193) -/

/-- The knot of a 24-bit value: x its upper 13 bits, y its lower 11 (R193). -/
def knotOf (v : Nat) : Knot := ⟨v / 2048, v % 2048⟩

/-- `n` knots from byte `i` on, 3 bytes each (R193). -/
def knotsAt (p : List Byte) (i : Nat) : Nat → List Knot
  | 0 => []
  | n + 1 => knotOf (u24 p i) :: knotsAt p (i + 3) n

/-- The curve whose curve byte is at `i`, as carried (R193). -/
def curveAt (p : List Byte) (i : Nat) : Curve :=
  if u8 p i < 128 then .preset (u8 p i) else .knots (knotsAt p (i + 1) (u8 p i - 128))

/-- Three unsigned 2-byte values, R, G, B. -/
def rgbAt (p : List Byte) (i : Nat) : Rgb := ⟨u16 p i, u16 p (i + 2), u16 p (i + 4)⟩

/-- Three signed 2-byte values, R, G, B. -/
def srgbAt (p : List Byte) (i : Nat) : Rgb := ⟨s16 p i, s16 p (i + 2), s16 p (i + 4)⟩

/-- The grade from byte `i` on, as carried: black 6, gain 6, lift 6, sat 2, curve byte, knots (R193). -/
def gradeAt (p : List Byte) (i : Nat) : Grade :=
  ⟨rgbAt p i, rgbAt p (i + 6), srgbAt p (i + 12), u16 p (i + 18), curveAt p (i + 20)⟩

/-- The scene record body from byte `i` on, as carried (R193). -/
def recordAt (p : List Byte) (i : Nat) : Record :=
  ⟨u24 p i, u16 p (i + 3), u8 p (i + 5), u8 p (i + 6), bitAt p (i + 7) 0, bitAt p (i + 7) 2,
    if bitAt p (i + 7) 1 then some (gradeAt p (i + 8)) else none⟩

/-- The bytes that the knots of the curve byte at `i` need: a count from 2 to 9 adds 3 bytes per knot, another count
adds nothing (R191). -/
def knotBytes (p : List Byte) (i : Nat) : Nat :=
  if 130 ≤ u8 p i ∧ u8 p i ≤ 137 then 3 * (u8 p i - 128) else 0

/-- The bytes a scene record body from byte `i` on needs (R191). -/
def recordBytes (p : List Byte) (i : Nat) : Nat :=
  8 + if bitAt p (i + 7) 1 then 21 + knotBytes p (i + 28) else 0

/-- The payload length a message of a known kind needs (R191, R192 to R196). -/
def requiredLength (k : MsgKind) (p : List Byte) : Nat :=
  match k with
  | .position => 6
  | .sceneSet => recordBytes p 0
  | .gradeSet => if bitAt p 3 1 then 25 + knotBytes p 24 else 4
  | .sceneMove => 6
  | .sceneDelete => 3
  | .rangeTrim => 26
  | .listClear => 6
  | .query => if u8 p 0 = 1 then 4 else 1
  | .clear => 3
  | .setMode => 6
  | .reset => 1
  | .punchArm => 7
  | .punchAbort => 0
  | .fetchFrom => 7
  | .listQuery => 7
  | .listRec => 3 + recordBytes p 3
  | .listEnd => 4
  | .sceneEntered => 12
  | .eventReport => 7
  | .status => 48
  | .reply => 2

/-! ## Structural faults (R27) and clamps (R26) -/

/-- The x values rise strictly. -/
def ascending : List Knot → Bool
  | [] => true
  | [_] => true
  | a :: b :: ks => decide (a.x < b.x) && ascending (b :: ks)

/-- A knot list with fewer than 2 or more than 9 knots, x values not strictly ascending, or an x above 4,095. -/
def knotsFault (ks : List Knot) : Bool :=
  decide (ks.length < 2) || decide (9 < ks.length) || !ascending ks || ks.any (fun k => decide (4095 < k.x))

/-- A structural fault of a curve (R27). -/
def Curve.fault : Curve → Bool
  | .preset i => decide (7 < i)
  | .knots ks => knotsFault ks

/-- A structural fault of a grade, which can only lie in its curve (R27). -/
def gradeFault : Option Grade → Bool
  | none => false
  | some g => g.curve.fault

/-- Clamped y values (R26). -/
def clampKnot (k : Knot) : Knot := ⟨k.x, if 1023 < k.y then 1023 else k.y⟩

def Curve.clamped : Curve → Curve
  | .preset i => .preset i
  | .knots ks => .knots (ks.map clampKnot)

def Rgb.clamped (lo hi : Int) (v : Rgb) : Rgb := ⟨clamp lo hi v.r, clamp lo hi v.g, clamp lo hi v.b⟩

/-- A grade with every value clamped to its range (R26). -/
def Grade.clamped (g : Grade) : Grade :=
  ⟨g.black.clamped 0 1023, g.gain.clamped 0 4095, g.lift.clamped (-256) 255, clamp 0 2047 g.sat, g.curve.clamped⟩

/-- A structural fault of a record as carried (R27). -/
def Record.fault (r : Record) : Bool := decide (maxFrame < r.start) || gradeFault r.grade

/-- The body a record is stored with: every value clamped (R26), scene_id as carried. -/
def Record.body (r : Record) : Body :=
  ⟨r.sceneId, if 63 < r.transitionLen then 63 else r.transitionLen, r.omitted, r.grade.map Grade.clamped⟩

/-- The knots a curve draws from the pool: none for a preset (R19, R22). -/
def Curve.knotCount : Curve → Nat
  | .preset _ => 0
  | .knots ks => ks.length

/-- The knots a body holds in the pool (R20, R22). -/
def Body.knotCount (b : Body) : Nat :=
  match b.grade with
  | none => 0
  | some g => g.curve.knotCount

/-- The body of a damaged record, as every client takes it: ungraded, transition_len 0, omit no, scene_id 0 (R24). -/
def Body.lost : Body := ⟨0, 0, false, none⟩

/-- The entry of a record written with fresh check bits: a revision, a body, no damaged mark (R29, R30, R143). -/
def Entry.fresh (start revision : Nat) (b : Body) : Entry := ⟨start, revision, b.knotCount, false, false, b⟩

/-! ## Coded settings -/

/-- The speed class codes (R190). -/
def speedOf (n : Nat) : Option SpeedClass :=
  match n with
  | 0 => some .still
  | 1 => some .jog
  | 2 => some .sound
  | 3 => some .shuttle
  | _ => none

/-- The compare mode codes (R190). -/
def compareOf (n : Nat) : Option CompareMode :=
  match n with
  | 0 => some .off
  | 1 => some .bypass
  | 2 => some .split
  | _ => none

/-- The deltas of a RANGE_TRIM, from byte 6: black, gain, lift, sat (R196). -/
structure Deltas where
  black : Rgb
  gain  : Rgb
  lift  : Rgb
  sat   : Int
  deriving DecidableEq, Repr

def deltasAt (p : List Byte) : Deltas := ⟨srgbAt p 6, srgbAt p 12, srgbAt p 18, s16 p 24⟩

def Rgb.add (a b : Rgb) : Rgb := ⟨a.r + b.r, a.g + b.g, a.b + b.b⟩

/-- The grade with the deltas added and each sum clamped to its range; the curve is not trimmed (R36). -/
def Grade.trimmed (g : Grade) (d : Deltas) : Grade :=
  ⟨(g.black.add d.black).clamped 0 1023, (g.gain.add d.gain).clamped 0 4095, (g.lift.add d.lift).clamped (-256) 255,
    clamp 0 2047 (g.sat + d.sat), g.curve⟩

end Sys2Proof.Machine
end

