-- ==== Sys2Proof/Machine/Formats.lean ====
section
/-! DEFINITION. How the part lays out what it sends: characters (R93), the message frame and its CRC (R97), payloads
(R190 to R196), the field header record (R197). -/

namespace Sys2Proof.Machine

/-! ## Bytes (R190) -/

def byteOf (n : Nat) : Byte := BitVec.ofNat 8 n

/-- A 2-byte field, most significant byte first. -/
def be2 (n : Nat) : List Byte := [byteOf (n / 256), byteOf n]

/-- A 3-byte field, most significant byte first. -/
def be3 (n : Nat) : List Byte := [byteOf (n / 65536), byteOf (n / 256), byteOf n]

/-- A signed 2-byte field, two's complement. -/
def be2s (i : Int) : List Byte := be2 (i % 65536).toNat

/-- A frame field that may be none (R190). -/
def be3opt : Option Nat → List Byte
  | none => be3 0xFFFFFF
  | some n => be3 n

/-- A single-bit field in a byte of its own (R190). -/
def flagByte (b : Bool) : Byte := if b then 1 else 0

/-- A station address field that may be none: 0xFF (R190). -/
def stationByte : Option Byte → Byte
  | none => 0xFF
  | some a => a

/-- cadence_phase outside the field header record: 0xFF for none (R190). -/
def phaseByte : Option (BitVec 2) → Byte
  | none => 0xFF
  | some p => p.setWidth 8

/-! ## Codes (R190): "every other state or mode" has its values in the order of the manual's table, from 0 -/

def PartState.code : PartState → Byte
  | .reset => 0 | .loading => 1 | .joining => 2 | .running => 3

def ConfigSource.code : ConfigSource → Byte
  | .boot => 0 | .defaults => 1

def PositionState.code : PositionState → Byte
  | .unplaced => 0 | .placed => 1 | .suspect => 2

def SpeedClass.code : SpeedClass → Byte
  | .still => 0 | .jog => 1 | .sound => 2 | .shuttle => 3

def Direction.code : Direction → Byte
  | .fwd => 0 | .rev => 1

def CadenceState.code : CadenceState → Byte
  | .free => 0 | .locked => 1 | .broken => 2

def CompareMode.code : CompareMode → Byte
  | .off => 0 | .bypass => 1 | .split => 2

def PunchState.code : PunchState → Byte
  | .idle => 0 | .armed => 1 | .recording => 2 | .done => 3 | .missed => 4 | .aborted => 5

def FetchResult.code : FetchResult → Byte
  | .noResult => 0 | .done => 1 | .timeout => 2 | .sequence => 3 | .count => 4 | .refused => 5 | .aborted => 6

def ReplyResult.code : ReplyResult → Byte
  | .ok => 0 | .noScene => 1 | .duplicate => 2 | .listFull => 3 | .knotsFull => 4 | .badField => 5
  | .storeFrozen => 6 | .busy => 7 | .unknownKind => 8

def StoreErrorKind.code : StoreErrorKind → Byte
  | .corrected => 0 | .uncorrectable => 1

def StoreOp.code : StoreOp → Byte
  | .resolve => 0 | .edit => 1 | .send => 2 | .scrub => 3 | .merge => 4

/-! ## Payloads -/

def Rgb.bytes (v : Rgb) : List Byte := be2s v.r ++ be2s v.g ++ be2s v.b

/-- A knot: x in the upper 13 bits, y in the lower 11 (R193). -/
def Knot.bytes (k : Knot) : List Byte := be3 (k.x * 2048 + k.y)

def Curve.bytes : Curve → List Byte
  | .preset i => [byteOf i]
  | .knots ks => byteOf (128 + ks.length) :: ks.flatMap Knot.bytes

def Grade.bytes (g : Grade) : List Byte :=
  g.black.bytes ++ g.gain.bytes ++ g.lift.bytes ++ be2s g.sat ++ g.curve.bytes

/-- A scene record body (R193). -/
def Record.bytes (r : Record) : List Byte :=
  be3 r.start ++ be2 r.sceneId
    ++ [byteOf r.revision, byteOf r.transitionLen, byteOf (packBits [r.omitted, r.grade.isSome, r.damaged])]
    ++ match r.grade with
       | none => []
       | some g => g.bytes

/-- The status summary, 48 bytes in the order of R122 (R195). -/
def StatusSummary.bytes (x : StatusSummary) : List Byte :=
  [x.part.code, x.source.code, x.station] ++ be2 x.flags.toNat ++ [x.kindFlags.setWidth 8]
    ++ be3 x.gateFrame ++ [x.positionState.code, x.speedClass.code, x.direction.code, x.cadenceState.code, phaseByte x.cadencePhase]
    ++ be3 x.fieldCount.toNat ++ be2 x.recordCount ++ be2 x.freeKnots
    ++ [flagByte x.frozen, x.punchState.code, flagByte x.fetching, x.fetchResult.code, flagByte x.streaming, x.mode.compare.code]
    ++ be2 x.mode.split ++ be2 x.enable.toNat ++ [flagByte x.statusEnable]
    ++ be2 x.slips ++ be2 x.breaks ++ be2 x.late ++ be2 x.lineErrors ++ be2 x.rxDrops ++ be2 x.txAbandons
    ++ be2 x.ignored ++ be2 x.clipLast

/-- The punch record, 16 bytes in the order of R124 (R195). -/
def Punch.bytes (x : Punch) : List Byte :=
  be3 x.inFrame ++ be3 x.outFrame ++ [flagByte x.align, x.state.code] ++ be3 x.inStamp.toNat ++ be3 x.outStamp.toNat
    ++ [flagByte x.unread, flagByte x.overwrite]

/-- The fetch status record, 20 bytes in the order of R146 (R195). -/
def Requester.bytes (x : Requester) : List Byte :=
  [flagByte x.fetching, x.result.code, stationByte x.partner, x.tag] ++ be3 x.first ++ be3 x.last ++ be2 x.received
    ++ be2 x.inserted ++ be2 x.replaced ++ be2 x.keptLocal ++ be2 x.refused

def StoreError.bytes (e : StoreError) : List Byte := [e.kind.code, e.op.code] ++ be3 e.start ++ [e.syndrome]

/-- The store capture record in QUERY CAPTURE: its state, the four fields (0 when EMPTY), the lost mark (R172). -/
def StoreCapture.bytes (c : StoreCapture) : List Byte :=
  (match c.state with
   | .empty => [0, 0, 0, 0, 0, 0, 0]
   | .holding e => 1 :: e.bytes
   | .locked e => 2 :: e.bytes) ++ [flagByte c.lost]

/-- Up to four header characters, the unused bytes 0 (R195). -/
def headerBytes (cs : List Byte) : List Byte := (cs ++ [0, 0, 0, 0]).take 4

/-- The line error capture record in QUERY CAPTURE: state, kind, header characters, their count, field_count, lost mark
(R125). -/
def LineCapture.bytes (c : LineCapture) : List Byte :=
  (match c.record with
   | none => [0, 0, 0, 0, 0, 0, 0, 0, 0, 0]
   | some r => [1, byteOf r.kind.index] ++ headerBytes r.header ++ [byteOf r.header.length] ++ be3 r.fieldCount.toNat)
    ++ [flagByte c.lost]

/-- The answer to QUERY CAPTURE, 24 bytes (R195). -/
def CaptureAnswer.bytes (x : CaptureAnswer) : List Byte :=
  x.store.bytes ++ be2 x.corrected ++ be2 x.damaged ++ x.line.bytes ++ [x.kindFlags.setWidth 8]

def Answer.bytes : Answer → List Byte
  | .nothing => []
  | .status x => x.bytes
  | .scene x => x.bytes
  | .punch x => x.bytes
  | .fetch x => x.bytes
  | .capture x => x.bytes

def ReplyBody.bytes : ReplyBody → List Byte
  | .plain => []
  | .edit key revision count => be3 key ++ [byteOf revision] ++ be2 count
  | .query topic answer => topic :: answer.bytes

/-- The kind of a message the part sends. -/
def TxContent.kind : TxContent → MsgKind
  | .sceneEntered _ => .sceneEntered
  | .eventReport _ _ _ => .eventReport
  | .status _ => .status
  | .reply _ _ _ => .reply
  | .listQuery _ _ _ => .listQuery
  | .listRec _ _ _ => .listRec
  | .listEnd _ _ _ => .listEnd

/-- The payload of a message the part sends (R193 to R196). -/
def TxContent.payload : TxContent → List Byte
  | .sceneEntered e => be3 e.frame ++ be3opt e.start ++ be2 e.sceneId ++ [byteOf e.revision] ++ be3 e.fieldCount.toNat
  | .eventReport flags newFlags fieldCount => be2 flags.toNat ++ be2 newFlags.toNat ++ be3 fieldCount.toNat
  | .status x => x.bytes
  | .reply kind result body => [kind, result.code] ++ body.bytes
  | .listQuery tag first last => tag :: (be3 first ++ be3 last)
  | .listRec tag index x => tag :: (be2 index.toNat ++ x.bytes)
  | .listEnd tag busy total => [tag, flagByte busy] ++ be2 total.toNat

/-! ## CRC (R97, R182): generator x^16 + x^12 + x^5 + 1, register 0xFFFF, most significant bit first, not inverted -/

/-- One bit of the division. -/
def crcBit (c : BitVec 16) : BitVec 16 := if c.msb then (c <<< 1) ^^^ 0x1021 else c <<< 1

/-- One character. -/
def crcByte (c : BitVec 16) (b : Byte) : BitVec 16 := Nat.repeat crcBit 8 (c ^^^ (b.setWidth 16 <<< 8))

/-- The CRC over characters. -/
def crc (cs : List Byte) : BitVec 16 := cs.foldl crcByte 0xFFFF

/-! ## The message frame and its characters -/

/-- The characters a message is sent as, each with its mark: destination with mark 1, then source, kind, length, payload
and CRC with mark 0 (R109); the CRC covers source, kind, length and payload (R97). -/
def frameOf (station : Byte) (m : TxMsg) : List (Byte × Bool) :=
  let covered := station :: m.content.kind.code :: byteOf m.content.payload.length :: m.content.payload
  (m.dest, true) :: (covered ++ be2 (crc covered).toNat).map (fun c => (c, false))

/-- The parity bit of a character: data and mark together with parity hold an even number of ones (R93). -/
def parityOf (data : Byte) (mark : Bool) : Bool :=
  (List.range 8).foldl (fun p i => p != data.getLsbD i) mark

/-- The twelve bits of a character in the order sent: start 0, data least significant first, mark, parity, stop 1 (R93). -/
def charBits (data : Byte) (mark : Bool) : List Bool :=
  [false] ++ (List.range 8).map data.getLsbD ++ [mark, parityOf data mark, true]

/-! ## The field header record (R197) -/

/-- The fields of a header record (R87). -/
structure HeaderRecord where
  fieldCount : BitVec 24
  parity     : Bool
  frame      : Nat
  fieldIndex : Nat
  phase      : Option (BitVec 2)
  sceneStart : Option Nat
  sceneId    : Nat
  revision   : Nat
  w          : Nat
  clipLast   : Nat
  flags      : HeaderFlags
  deriving DecidableEq, Repr

/-- Phase in the header record: 7 for none (R197). -/
def headerPhase : Option (BitVec 2) → Nat
  | none => 7
  | some p => p.toNat

/-- The 21 bytes of a header record (R197). -/
def HeaderRecord.bytes (h : HeaderRecord) : List Byte :=
  be3 h.fieldCount.toNat
    ++ [byteOf ((if h.parity then 128 else 0) + h.fieldIndex * 8 + headerPhase h.phase)]
    ++ be3 h.frame ++ be3opt h.sceneStart ++ be2 h.sceneId ++ [byteOf h.revision] ++ be2 h.w ++ be2 h.clipLast
    ++ be2 h.flags.word ++ [0, 0]

/-- Bytes as header words, three to a word, each in bits 7 to 0 of its channel (R197). -/
def headerWords : List Byte → List PicWord
  | a :: b :: c :: rest => .header (a.setWidth 10) (b.setWidth 10) (c.setWidth 10) :: headerWords rest
  | _ => []

end Sys2Proof.Machine
end

