-- ==== Sys2Proof/Machine/Ops.lean ====
section
/-! DEFINITION. The operations blocks share: raising an event flag with its report (R176, R177), the transmit queue
(R105 to R107), the store arbiter (R41, R42), the resolution trigger (R55, R56), the abort of a punch (R161), the
replies and the ignored counter (R116, R118). -/

namespace Sys2Proof.Machine

/-! ## States of the part -/

/-- The part is in JOINING or RUNNING: the configuration is in force and every block works (R187, R189). -/
def State.up (s : State) : Bool := s.part = .joining || s.part = .running

/-- The station address as a character (R181). -/
def State.station (s : State) : Byte := s.address.setWidth 8

/-! ## The transmit queue -/

/-- The kinds with a reserved place (R105). -/
def TxContent.reserved : TxContent → Bool
  | .sceneEntered _ | .eventReport _ _ _ | .status _ => true
  | .reply _ _ _ | .listQuery _ _ _ | .listRec _ _ _ | .listEnd _ _ _ => false

/-- The entries of the five shared places (R105). -/
def sharedCount (q : List TxMsg) : Nat := (q.filter (fun m => !m.content.reserved)).length

/-- The LIST_REC of the queue (R105). -/
def listRecCount (q : List TxMsg) : Nat := (q.filter (fun m => m.content.kind = .listRec)).length

/-- Room for a LIST_REC: fewer than four of them and a shared place free (R107). -/
def offersRoom (q : List TxMsg) : Bool := decide (listRecCount q < 4) && decide (sharedCount q < 5)

/-- What a queued entry holds after a hand-over of the same kind: the new contents, an EVENT_REPORT with the new flags
of both (R106, R177). -/
def coalesced : TxContent → TxContent → TxContent
  | .eventReport _ n _, .eventReport f n' c => .eventReport f (n ||| n') c
  | _, new => new

/-- The queue after a hand-over of a kind with a reserved place: coalesced into the entry of the kind, which keeps its
place, or joined at the tail (R105, R106). -/
def joinReserved (m : TxMsg) (q : List TxMsg) : List TxMsg :=
  if q.any (fun e => e.content.kind = m.content.kind) then
    q.map (fun e => if e.content.kind = m.content.kind then ⟨m.dest, coalesced e.content m.content⟩ else e)
  else q ++ [m]

/-- A hand-over of SCENE_ENTERED, EVENT_REPORT or STATUS, addressed to the report address; with the report address none
it is discarded (R135). -/
def handReport (c : TxContent) (s : State) : State :=
  match s.config.report with
  | none => s
  | some dest => { s with cue.txq := joinReserved ⟨dest, c⟩ s.cue.txq }

/-! ## Event flags -/

/-- A raise: in RESET and LOADING no block raises a flag; a flag already set stays set; a clear-to-set change of an
enabled flag builds an EVENT_REPORT (R176, R177). -/
def raise (f : EventFlag) (s : State) : State :=
  if s.up && !f.isIn s.events.flags then
    let s := { s with events.flags := s.events.flags ||| f.mask }
    if f.isIn s.events.enable then
      handReport (.eventReport s.events.flags f.mask s.pcu.snapshot.fieldCount) s
    else s
  else s

/-- The shared places that a hand-over finds taken: those of the queue, and the one held for a responder step in
progress (R105, R149). -/
def State.sharedTaken (s : State) : Nat := sharedCount s.cue.txq + if s.responder.placeHeld then 1 else 0

/-- A hand-over of REPLY, LIST_QUERY, LIST_REC or LIST_END: joins the tail if a shared place is free; otherwise it is
dropped, counted and raises TX_ABANDON (R105). Answers whether it joined. -/
def handShared (m : TxMsg) (s : State) : State × Bool :=
  if s.sharedTaken < 5 then ({ s with cue.txq := s.cue.txq ++ [m] }, true)
  else (raise .txAbandon { s with cue.txAbandons := satInc s.cue.txAbandons }, false)

/-! ## The store arbiter -/

/-- The grant of the store to a client. The resolver takes the gate frame and the mode setting at its grant (R57). For
the responder the room is checked at the grant, and where it is offered a shared place is held (R149). -/
def grant (c : Client) (s : State) : State :=
  match c with
  | .resolver => { s with arbiter.holder := some .resolver, resolver.latch := some ⟨s.pcu.gateFrame, s.resolver.mode⟩ }
  | .responder => { s with arbiter.holder := some .responder, responder.placeHeld := offersRoom s.cue.txq }
  | .handler => { s with arbiter.holder := some .handler }
  | .scrubber => { s with arbiter.holder := some .scrubber }

/-- A client that is to wait (R41). The scrubber does not wait (R43). -/
def Arbiter.wait (c : Client) (a : Arbiter) : Arbiter :=
  match c with
  | .resolver => { a with resolverWaits := true }
  | .handler => { a with handlerWaits := true }
  | .responder => { a with responderWaits := true }
  | .scrubber => a

/-- No client waits (R41, R43). -/
def Arbiter.noneWaits (a : Arbiter) : Bool := !a.resolverWaits && !a.handlerWaits && !a.responderWaits

/-- A request: granted at once if the store is free and no client waits, else it waits (R41). -/
def request (c : Client) (s : State) : State :=
  if s.arbiter.holder = none && s.arbiter.noneWaits then grant c s
  else { s with arbiter := s.arbiter.wait c }

/-- The release: the store goes to the first waiting client in the order Grade Resolver, Message Handler, responder, or
becomes free (R42). -/
def release (s : State) : State :=
  if s.arbiter.resolverWaits then grant .resolver { s with arbiter.resolverWaits := false }
  else if s.arbiter.handlerWaits then grant .handler { s with arbiter.handlerWaits := false }
  else if s.arbiter.responderWaits then grant .responder { s with arbiter.responderWaits := false }
  else { s with arbiter.holder := none }

/-! ## The resolution trigger -/

/-- A trigger: starts a resolution, which requests the store, or asks for a rerun. In RESET and LOADING the resolver
takes no triggers (R55, R56). -/
def trigger (s : State) : State :=
  if s.up then
    if s.resolver.inFlight then { s with resolver.rerun := true }
    else request .resolver { s with resolver.inFlight := true }
  else s

/-- The trigger of an event that triggers only where `b` holds. -/
def triggerIf (b : Bool) (s : State) : State := if b then trigger s else s

/-- The end of a step at the store: the signal to the resolver, where the step changed the list, is made at the release
and takes part in its grant (R25, R42, R55; notes/assumptions/12.md). -/
def releaseSignal (changed : Bool) (s : State) : State := release (triggerIf changed s)

/-- The responder requests the store: STREAMING, no request outstanding, room offered (R149). -/
def pokeResponder (s : State) : State :=
  if s.responder.streaming && s.arbiter.holder != some .responder && !s.arbiter.responderWaits && offersRoom s.cue.txq
  then request .responder s else s

/-! ## The punch abort -/

/-- An abort event: a RECORDING punch drops GATE, becomes ABORTED and takes its out stamp; any other punch is left as
it is (R161). -/
def abortPunch (s : State) : State :=
  if s.gate.punch.state = .recording then
    raise .punchEvent { s with
      gate.gate := false,
      gate.punch := { s.gate.punch with state := .aborted, outStamp := s.pcu.snapshot.fieldCount, unread := true } }
  else s

/-! ## The ends of a message -/

/-- One more ignored message (R116). -/
def ignore (s : State) : State := { s with handler.ignored := satInc s.handler.ignored }

/-- The handler drops the message in hand and becomes IDLE (R114). -/
def handlerIdle (s : State) : State := { s with handler.state := .idle }

/-- The REPLY to a message: to its source, where it was individually addressed and the source is not above 63 (R118).
Answers whether it joined the transmit queue. -/
def sendReply (m : Message) (result : ReplyResult) (body : ReplyBody) (s : State) : State × Bool :=
  if m.addressing = .individual ∧ m.source.toNat ≤ 63 then handShared ⟨m.source, .reply m.kind result body⟩ s
  else (s, false)

/-- The end of a message other than an edit: refused and not individually addressed it is counted as ignored (R118),
then the REPLY, then IDLE (R114). -/
def endPlain (m : Message) (result : ReplyResult) (body : ReplyBody) (s : State) : State :=
  handlerIdle
    (sendReply m result body (if result ≠ .ok ∧ m.addressing ≠ .individual then ignore s else s)).1

/-! ## What the handler has in hand -/

/-- The message in hand, where it is of kind `k` and in phase `p`. -/
def handOf (k : MsgKind) (p : Phase) (s : State) : Option Message :=
  match s.handler.state with
  | .idle => none
  | .executing m q => if MsgKind.ofCode m.kind = some k ∧ q = p then some m else none

/-- The message in hand to be carried out at once, where it is of kind `k`. -/
def inHand (k : MsgKind) (s : State) : Option Message := handOf k .carry s

/-- The message in hand that has been granted the store, where it is of kind `k` (R25, R41). -/
def atStore (k : MsgKind) (s : State) : Option Message :=
  if s.arbiter.holder = some .handler then handOf k .store s else none

/-! ## The status summary -/

/-- The status summary from the values as they stand (R122). -/
def State.summary (s : State) : StatusSummary where
  part := s.part
  source := s.configSource
  station := s.station
  flags := s.events.flags
  kindFlags := s.cue.kindFlags
  gateFrame := s.pcu.gateFrame
  positionState := s.pcu.positionState
  speedClass := s.pcu.speedClass
  direction := s.pcu.direction
  cadenceState := s.pcu.cadenceState
  cadencePhase := s.pcu.cadencePhase
  fieldCount := s.pcu.fieldCount
  recordCount := s.store.index.length
  freeKnots := s.store.freeKnots
  frozen := s.store.frozen
  punchState := s.gate.punch.state
  fetching := s.requester.fetching
  fetchResult := s.requester.result
  streaming := s.responder.streaming
  mode := s.resolver.mode
  enable := s.events.enable
  statusEnable := s.events.statusEnable
  slips := s.pcu.slips
  breaks := s.pcu.breaks
  late := s.resolver.late
  lineErrors := s.cue.lineErrors
  rxDrops := s.cue.rxDrops
  txAbandons := s.cue.txAbandons
  ignored := s.handler.ignored
  clipLast := s.pipeline.clipLast

end Sys2Proof.Machine
end

