-- ==== Sys2Proof/Machine/CueLine.lean ====
section
/-! DEFINITION. The Cue Line Controller (05_the_cue_line.md): the taking of a character and what it can be
(CHARACTER_TAKEN, RECEIVE_ERROR, MESSAGE_ACCEPTED), GAP_EXPIRY, RECEIVER_START, LINE_START_BIT, and contention
(ATTEMPT_START, ATTEMPT_COMPLETE, COLLISION, STOPPED_CHARACTER_END). -/

namespace Sys2Proof.Machine

/-! ## Characters (R93) -/

/-- The stop bit reads 0. -/
def framingFault (c : RxChar) : Bool := !c.stop

/-- The number of ones in data, mark and parity is odd. -/
def parityFault (c : RxChar) : Bool := parityOf c.data c.mark != c.parity

/-- The fault of a character (R93); which of the two where it has both is free (notes/assumptions/8.md). -/
def charFault (c : RxChar) : Option LineErrorKind :=
  match framingFault c, parityFault c with
  | false, false => none
  | true, false => some .framing
  | false, true => some .parity
  | true, true => if Config.framingBeforeParity c.data c.mark then some .framing else some .parity

/-! ## The receive filter (R95) -/

/-- How a destination code is accepted, none where it is not. -/
def accepts (s : State) (dest : Byte) : Option Addressing :=
  if dest.toNat ≤ 0x3F then (if dest = s.station then some .individual else none)
  else if dest.toNat ≤ 0x7F then (if s.config.groups.getLsbD (dest.toNat - 0x40) then some .group else none)
  else if dest = 0xFF then (if s.config.broadcast then some .broadcast else none)
  else none

/-! ## What taking a character comes to (R94, R96, R97, R102) -/

/-- What the taking of a character comes to. -/
inductive RxOutcome where
  /-- passed over -/
  | passed
  /-- the filter is applied; `broke` where the character broke off a message (BREAK) -/
  | filter (broke : Option Assembly)
  /-- a receive error, with the characters of the message received before it -/
  | error (k : LineErrorKind) (chars : List Byte)
  /-- added to the message, which goes on -/
  | added (a : Assembly)
  /-- the last character of a message of the part's own: the message is discarded (R102) -/
  | ownDone
  /-- the last character of a message that checks -/
  | accepted (m : Message)
  deriving DecidableEq, Repr

/-- A complete message as it is routed (R103): source, kind, length and payload follow the destination. -/
def messageOf (a : Assembly) (chars : List Byte) : Message :=
  ⟨chars.getD 0 0, a.addressing, chars.getD 1 0, chars.getD 2 0, (chars.drop 4).take (u8 chars 3)⟩

/-- The CRC of a complete message checks (R97): over source, kind, length and payload. -/
def crcChecks (chars : List Byte) : Bool :=
  let n := u8 chars 3
  (crc ((chars.drop 1).take (3 + n))).toNat = u16 chars (4 + n)

/-- A fault-free mark-0 character added to a message (R96). -/
def addChar (a : Assembly) (data : Byte) : RxOutcome :=
  let chars := a.chars ++ [data]
  if chars.length = 4 ∧ 64 < data.toNat then .error .length chars
  else if 6 ≤ chars.length ∧ chars.length = 6 + u8 chars 3 then
    if a.own then .ownDone
    else if crcChecks chars then .accepted (messageOf a chars)
    else .error .crc chars
  else .added { a with chars := chars }

/-- The table of R94. -/
def rxOutcome (rx : Receiver) (c : RxChar) : RxOutcome :=
  match rx with
  | .idle | .discarding =>
    match charFault c, c.mark with
    | none, true => .filter none
    | none, false => .passed
    | some _, _ => .passed
  | .assembling a =>
    match charFault c, c.mark with
    | some k, _ => .error k a.chars
    | none, true => .filter (some a)
    | none, false => addChar a c.data

/-- The outcome is a receive error (R98). -/
def RxOutcome.isError : RxOutcome → Bool
  | .error _ _ => true
  | .filter (some _) => true
  | .filter none | .passed | .added _ | .ownDone | .accepted _ => false

/-- The outcome is an accepted message (R96). -/
def RxOutcome.isAccepted : RxOutcome → Bool
  | .accepted _ => true
  | .error _ _ | .filter _ | .passed | .added _ | .ownDone => false

/-! ## Receive errors (R98, R100) -/

/-- The line error capture record after an error (R100). -/
def LineCapture.load (c : LineCapture) (r : LineRecord) : LineCapture :=
  match c.record with
  | none => ⟨some r, c.lost⟩
  | some old => ⟨some old, true⟩

/-- A receive error, the steps of R98: the message is discarded and the receiver becomes DISCARDING. -/
def receiveError (k : LineErrorKind) (chars : List Byte) (s : State) : State :=
  raise .lineError { s with
    cue.rx := .discarding,
    cue.kindFlags := s.cue.kindFlags ||| k.mask,
    cue.lineErrors := satInc s.cue.lineErrors,
    cue.capture := s.cue.capture.load ⟨k, chars.take 4, s.pcu.snapshot.fieldCount⟩ }

/-! ## Routing (R103, R104) -/

/-- The places of the inbound queue. -/
abbrev inboundLimit : Nat := 8

/-- An accepted message is handed to the Position and Cadence Unit, or offered to the inbound queue, which drops it when
it holds 8 (R103, R104). -/
def route (m : Message) (s : State) : State :=
  if MsgKind.ofCode m.kind = some .position then { s with cue.handover := s.cue.handover ++ [m] }
  else if s.cue.inbound.length < inboundLimit then { s with cue.inbound := s.cue.inbound ++ [m] }
  else raise .rxDrop { s with cue.rxDrops := satInc s.cue.rxDrops }

/-- The part is sending a character: in an attempt, or finishing one. -/
def State.driving (s : State) : Bool :=
  match s.cue.tx with
  | .sending _ _ | .stopping => true
  | .empty | .waiting _ _ => false

/-- The filter applied to a destination character (R95). -/
def applyFilter (dest : Byte) (s : State) : State :=
  match accepts s dest with
  | none => { s with cue.rx := .discarding }
  | some how => { s with cue.rx := .assembling ⟨how, [dest], s.driving⟩ }

/-- What the outcome does. After a BREAK the old message is discarded and counted before the new one begins (R98). -/
def applyOutcome (c : RxChar) (o : RxOutcome) (s : State) : State :=
  match o with
  | .passed => s
  | .filter none => applyFilter c.data s
  | .filter (some a) => applyFilter c.data (receiveError .breakErr a.chars s)
  | .error k chars => receiveError k chars s
  | .added a => { s with cue.rx := .assembling a }
  | .ownDone => { s with cue.rx := .idle }
  | .accepted m => route m { s with cue.rx := .idle }

/-- The idle measure starts from 0 at the end of a stop bit (R108). -/
def restartIdle (s : State) : State := { s with cue.idle := ⟨true, 0⟩ }

/-- A character taken (R94): the idle measure restarts, and the receiver, when it is on, takes it. -/
def takeCharacter (c : RxChar) (s : State) : State :=
  if s.up then
    if s.cue.receiverOn then applyOutcome c (rxOutcome s.cue.rx c) (restartIdle s) else restartIdle s
  else s

/-- The outcome the receiver would come to, `passed` while it is off. -/
def State.rxWould (s : State) (c : RxChar) : RxOutcome :=
  if s.up && s.cue.receiverOn then rxOutcome s.cue.rx c else .passed

/-- CHARACTER_TAKEN (R94). -/
def execCharacterTaken (c : RxChar) (s : State) : Answers := .next (takeCharacter c s)

/-- RECEIVE_ERROR (R98): the taking of a character that is a receive error. -/
def execReceiveError (c : RxChar) (s : State) : Answers :=
  if (s.rxWould c).isError then .next (takeCharacter c s) else .next s

/-- MESSAGE_ACCEPTED (R103): the taking of the character that completes a message which checks. -/
def execMessageAccepted (c : RxChar) (s : State) : Answers :=
  if (s.rxWould c).isAccepted then .next (takeCharacter c s) else .next s

/-! ## Quiet line -/

/-- The idle measure after `waited` more bit times of quiet line. -/
def State.quiet (s : State) (waited : Nat) : Nat := s.cue.idle.bits + waited

/-- GAP_EXPIRY (R99): more than 12 bit times of silence within a message. -/
def execGapExpiry (waited : Nat) (s : State) : Answers :=
  match s.cue.rx with
  | .assembling a =>
    if s.cue.idle.running && decide (12 < s.quiet waited) then
      .next (receiveError .gap a.chars { s with cue.idle := ⟨true, s.quiet waited⟩ })
    else .next s
  | .idle | .discarding => .next s

/-- RECEIVER_START (R103): after 12 bit times of line at 1 the receiver looks for start bits. -/
def execReceiverStart (waited : Nat) (s : State) : Answers :=
  if s.up && !s.cue.receiverOn && s.cue.idle.running && decide (12 ≤ s.quiet waited) then
    .next { s with cue.receiverOn := true, cue.idle := ⟨true, s.quiet waited⟩ }
  else .next s

/-- LINE_START_BIT (R108): the idle measure stops and with it the gap watch (R99); the yield mark is cleared at another
station's character. -/
def execLineStartBit (s : State) : Answers :=
  if s.up then
    .next { s with cue.idle := { s.cue.idle with running := false }, cue.yieldMark := s.cue.yieldMark && s.driving }
  else .next s

/-! ## Contention -/

/-- The failed attempts of the message that would be sent next (R108). -/
def State.failedAttempts (s : State) : Nat :=
  match s.cue.tx with
  | .waiting _ n => n
  | .empty | .sending _ _ | .stopping => 0

/-- The wait before an attempt: quiet gap 24, address slot, back-off, yield (R108). -/
def State.waitBits (s : State) : Nat :=
  24 + 2 * s.address.toNat + 16 * s.failedAttempts + if s.cue.yieldMark then 64 else 0

/-- The message an attempt would send, with its failed attempts, and the queue without it (R109). -/
def State.nextMessage (s : State) : Option (TxMsg × Nat × List TxMsg) :=
  match s.cue.tx, s.cue.txq with
  | .waiting m n, q => some (m, n, q)
  | .empty, m :: q => some (m, 0, q)
  | .empty, [] => none
  | .sending _ _, _ => none
  | .stopping, _ => none

/-- ATTEMPT_START (R109): at a start opportunity (R108) the attempt begins. The head leaving the queue may give the
responder room (R107). -/
def execAttemptStart (waited : Nat) (s : State) : Answers :=
  match s.nextMessage with
  | none => .next s
  | some (m, n, q) =>
    if decide (s.part = .running) && s.cue.idle.running && decide (s.waitBits ≤ s.quiet waited) then
      .next (pokeResponder { s with
        cue.tx := .sending m n, cue.txq := q, cue.yieldMark := false, cue.idle := ⟨false, s.quiet waited⟩ })
    else .next s

/-- The receiver drops a message of the part's own (R102, R112). -/
def dropOwn (rx : Receiver) : Receiver :=
  match rx with
  | .assembling a => if a.own then .idle else .assembling a
  | .idle => .idle
  | .discarding => .discarding

/-- A message the receiver assembles is no longer the part's own: the line shows the winner's (R102). -/
def disown (rx : Receiver) : Receiver :=
  match rx with
  | .assembling a => .assembling { a with own := false }
  | .idle => .idle
  | .discarding => .discarding

/-- ATTEMPT_COMPLETE (R109): the message leaves as sent and the yield mark is set. -/
def execAttemptComplete (s : State) : Answers :=
  match s.cue.tx with
  | .sending _ _ =>
    .next (restartIdle { s with cue.tx := .empty, cue.yieldMark := true, cue.rx := dropOwn s.cue.rx })
  | .empty | .waiting _ _ | .stopping => .next s

/-- COLLISION (R110): the attempt ends; after the eighth the message is abandoned. A message that a line reset has
stopped is not counted (R112). -/
def execCollision (s : State) : Answers :=
  match s.cue.tx with
  | .sending m n =>
    if n + 1 < 8 then .next { s with cue.tx := .waiting m (n + 1), cue.rx := disown s.cue.rx }
    else .next (raise .txAbandon { s with
      cue.tx := .empty, cue.rx := disown s.cue.rx, cue.txAbandons := satInc s.cue.txAbandons })
  | .stopping => .next { s with cue.tx := .empty, cue.rx := disown s.cue.rx }
  | .empty | .waiting _ _ => .next s

/-- STOPPED_CHARACTER_END (R112): the character under way has ended, CUE_TXEN becomes inactive, and the receiver drops
the part's own stopped message. -/
def execStoppedCharacterEnd (s : State) : Answers :=
  match s.cue.tx with
  | .stopping => .next (restartIdle { s with cue.tx := .empty, cue.rx := dropOwn s.cue.rx })
  | .empty | .waiting _ _ | .sending _ _ => .next s

end Sys2Proof.Machine
end

