-- ==== Sys2Proof/Machine/StoreOps.lean ====
section
/-! DEFINITION. The Scene Store's own operations: the four lookups (R23), the parity check of the entries a lookup
examines (R173), the check of a body read (R168 to R171), and the edits of the ordered list (R21, R22). -/

namespace Sys2Proof.Machine

/-! ## Lookups (R23): over the entries without the faulty mark -/

/-- The governing record of frame `f`: the last record with start_frame ≤ f. -/
def governing (f : Nat) (idx : List Entry) : Option Entry :=
  (idx.filter (fun e => !e.faulty && decide (e.start ≤ f))).getLast?

/-- The record whose start_frame is `s`. -/
def recordAtStart (s : Nat) (idx : List Entry) : Option Entry :=
  idx.find? (fun e => !e.faulty && decide (e.start = s))

/-- The first record at or after `s`. -/
def firstFrom (s : Nat) (idx : List Entry) : Option Entry :=
  idx.find? (fun e => !e.faulty && decide (s ≤ e.start))

/-- The next record after `s`. -/
def nextAfter (s : Nat) (idx : List Entry) : Option Entry :=
  idx.find? (fun e => !e.faulty && decide (s < e.start))

/-- The records from the governing record of `f` back to the first, nearest first (R47, R48). -/
def backFrom (f : Nat) (idx : List Entry) : List Entry :=
  (idx.filter (fun e => !e.faulty && decide (e.start ≤ f))).reverse

/-! ## The parity check of a lookup (R173) -/

/-- The index after a lookup that stops at the first sound entry whose start satisfies `stop`: every entry up to it
that fails parity (its start is in `bad`) and had no faulty mark gets one. Also answers whether there was such an
entry. -/
def examine (stop : Nat → Bool) (bad : List Nat) : List Entry → List Entry × Bool
  | [] => ([], false)
  | e :: es =>
    if e.faulty then (e :: (examine stop bad es).1, (examine stop bad es).2)
    else if bad.contains e.start then ({ e with faulty := true } :: (examine stop bad es).1, true)
    else if stop e.start then (e :: es, false)
    else (e :: (examine stop bad es).1, (examine stop bad es).2)

/-- The check of a lookup within a step: a new faulty entry freezes the store and raises INDEX_FAULT (R173). Also
answers whether there was one. -/
def examineStore (stop : Nat → Bool) (chk : Checks) (s : State) : State × Bool :=
  let r := examine stop chk.parity s.store.index
  if r.2 then (raise .indexFault { s with store.index := r.1, store.frozen := true }, true) else (s, false)

/-! ## Body reads (R168) -/

/-- The outcome of a body read (R168). -/
inductive ReadOutcome where
  | clean
  | correctable (syndrome : Byte)
  | uncorrectable (syndrome : Byte)
  deriving DecidableEq, Repr

/-- The outcome from the failing words in the order the store holds them: uncorrectable if one holds two wrong bits,
with the syndrome of the first such word; else correctable with the syndrome of the first (R168). -/
def outcomeOf (ws : List WordFault) : ReadOutcome :=
  match ws.find? WordFault.double with
  | some w => .uncorrectable w.syndrome
  | none =>
    match ws with
    | [] => .clean
    | w :: _ => .correctable w.syndrome

/-- What the check of the body of the record at `start` finds. -/
def bodyOutcome (chk : Checks) (start : Nat) : ReadOutcome :=
  match chk.bodies.find? (fun b => b.1 = start) with
  | none => .clean
  | some b => outcomeOf b.2

/-- The store capture record after a read that is not clean (R171). -/
def StoreCapture.load (c : StoreCapture) (e : StoreError) : StoreCapture :=
  match c.state, e.kind with
  | .empty, .corrected => ⟨.holding e, c.lost⟩
  | .empty, .uncorrectable => ⟨.locked e, c.lost⟩
  | .holding _, .uncorrectable => ⟨.locked e, c.lost⟩
  | .holding h, .corrected => ⟨.holding h, true⟩
  | .locked l, _ => ⟨.locked l, true⟩

/-- Apply `f` to the sound entry at `start`. -/
def updateEntry (start : Nat) (f : Entry → Entry) (idx : List Entry) : List Entry :=
  idx.map (fun e => if !e.faulty && decide (e.start = start) then f e else e)

/-- What a client takes a record as: whether it is damaged, and its body (R24). -/
structure BodyView where
  damaged : Bool
  body    : Body
  deriving DecidableEq, Repr

/-- What a body read answers: the state, what the client takes, and whether the body was corrected or found
uncorrectable. -/
structure BodyRead where
  state   : State
  view    : BodyView
  changed : Bool

/-- The view of a damaged record (R24). -/
def BodyView.lost : BodyView := ⟨true, Body.lost⟩

/-- A read of the body of `e`, labelled `op`. A damaged body is not read (R168). A correctable body is corrected and
written back, so the list does not change, counted and raises STORE_CE (R169). An uncorrectable one gets the damaged
mark, is counted and raises STORE_UE (R170). Both load the store capture record (R171). -/
def readBody (op : StoreOp) (chk : Checks) (e : Entry) (s : State) : BodyRead :=
  if e.damaged then ⟨s, BodyView.lost, false⟩
  else
    match bodyOutcome chk e.start with
    | .clean => ⟨s, ⟨false, e.body⟩, false⟩
    | .correctable syn =>
      ⟨raise .storeCe { s with
          events.corrected := satInc s.events.corrected,
          events.capture := s.events.capture.load ⟨.corrected, op, e.start, syn⟩ },
        ⟨false, e.body⟩, true⟩
    | .uncorrectable syn =>
      ⟨raise .storeUe { s with
          store.index := updateEntry e.start (fun e => { e with damaged := true }) s.store.index,
          events.damaged := satInc s.events.damaged,
          events.capture := s.events.capture.load ⟨.uncorrectable, op, e.start, syn⟩ },
        BodyView.lost, true⟩

/-- The record as it is reported: a damaged record with revision 0 (R24). -/
def Entry.record (e : Entry) (v : BodyView) : Record :=
  ⟨e.start, v.body.sceneId, if v.damaged then 0 else e.revision, v.body.transitionLen, v.body.omitted, v.damaged,
    v.body.grade⟩

/-! ## The ordered list (R21) -/

/-- Insert a record at its place by start frame (R21). -/
def insertEntry (n : Entry) : List Entry → List Entry
  | [] => [n]
  | e :: es => if !e.faulty && decide (n.start < e.start) then n :: e :: es else e :: insertEntry n es

/-- Remove the record at a start; a faulty entry is the record of no edit (R173). -/
def removeEntry (start : Nat) (idx : List Entry) : List Entry :=
  idx.filter (fun e => e.faulty || decide (e.start ≠ start))

/-- Whether a record lies in the range of a LIST_CLEAR (R38). -/
def inRange (first last : Nat) (e : Entry) : Bool := !e.faulty && decide (first ≤ e.start) && decide (e.start ≤ last)

/-- The knots that entries hold (R22). -/
def heldKnots (idx : List Entry) : Nat := (idx.map Entry.knotCount).sum

end Sys2Proof.Machine
end

