-- ==== Sys2Proof/Machine/Transfer.lean ====
section
/-! DEFINITION. Scene list transfer (07_scene_list_transfer.md): FETCH_FROM, LIST_REC, MERGE, LIST_END,
GAP_TIMER_EXPIRY, LIST_QUERY, RESPONDER_STEP. -/

namespace Sys2Proof.Machine

/-! ## The requester -/

/-- The start of a fetch, the steps of R139. -/
def startFetch (station : Byte) (first last : Nat) (s : State) : State :=
  let tag := s.requester.tag + 1
  (handShared ⟨station, .listQuery tag first last⟩ { s with
    requester := ⟨true, .noResult, some station, tag, first, last, 0, 0, 0, 0, 0, 0, true⟩ }).1

/-- A configured partner, none where it is not configured or is the part's own address (R133, R183). -/
def partnerOf (own : Byte) : Option Byte → Option Byte
  | none => none
  | some p => if p = own then none else some p

/-- The partner of the part. -/
def State.partner (s : State) : Option Byte := partnerOf s.station s.config.partner

/-- The end of a fetch with a result other than ABORTED (R146). -/
def endFetch (result : FetchResult) (s : State) : State :=
  raise .fetchEnd { s with requester.fetching := false, requester.gapTimer := false, requester.result := result }

/-- The checks of a FETCH_FROM (R138). -/
def fetchResultOf (p : List Byte) (s : State) : ReplyResult :=
  if 63 < u8 p 0 ∨ p.getD 0 0 = s.station ∨ maxFrame < u24 p 1 ∨ maxFrame < u24 p 4 ∨ u24 p 4 < u24 p 1 then .badField
  else if s.requester.fetching then .busy
  else .ok

/-- FETCH_FROM (R138), in JOINING as in RUNNING (R138, R139, R187). R147 says that after a power-on reset no fetch starts
until RUNNING; R138 and R187 are followed (DEDUCED, notes/assumptions/35.md). -/
def execFetchFrom (s : State) : Answers :=
  match inHand .fetchFrom s with
  | none => .next s
  | some m =>
    let r := fetchResultOf m.payload s
    let t := if r = .ok then startFetch (m.payload.getD 0 0) (u24 m.payload 1) (u24 m.payload 4) s else s
    .next (endPlain m r .plain t)

/-- A LIST_REC or LIST_END individually addressed matches the fetch in flight (R140). -/
def matchesFetch (m : Message) (s : State) : Bool :=
  s.requester.fetching && decide (s.requester.partner = some m.source) && decide (s.requester.tag = m.payload.getD 0 0)

/-- A LIST_REC or LIST_END that does not match: UNEXPECTED_REPLY, discarded (R140). -/
def unexpected (s : State) : State := handlerIdle (raise .unexpectedReply s)

/-- LIST_REC (R141): matched, the gap timer restarts and the index is compared; in sequence the record goes to its merge,
which requests the store. -/
def execListRec (s : State) : Answers :=
  match inHand .listRec s with
  | none => .next s
  | some m =>
    if matchesFetch m s then
      let s := { s with requester.gapTimer := true }
      if BitVec.ofNat 16 (u16 m.payload 1) = s.requester.expected then
        .next (request .handler { s with
          requester.received := satInc s.requester.received,
          requester.expected := s.requester.expected + 1,
          handler.state := .executing m (.merging s.requester.tag) })
      else .next (handlerIdle (endFetch .sequence s))
    else .next (unexpected s)

/-- What a merge comes to (R142). -/
inductive MergeOutcome where
  | inserted | replaced | keptLocal | refused
  deriving DecidableEq, Repr

/-- The table of R142, over the store as the lookup left it. -/
def mergeOutcome (r : Record) (st : Store) : MergeOutcome :=
  if st.frozen then .refused
  else if r.fault then .refused
  else if r.damaged then .refused
  else
    match recordAtStart r.start st.index with
    | none =>
      if listLimit ≤ st.index.length then .refused
      else if st.freeKnots < r.body.knotCount then .refused
      else .inserted
    | some e =>
      if e.revision < r.revision then
        if st.freeKnots + e.knotCount < r.body.knotCount then .refused else .replaced
      else .keptLocal

/-- The outcome counted in the record of the fetch that brought the LIST_REC (R142, R145). -/
def countMerge (tag : BitVec 8) (o : MergeOutcome) (s : State) : State :=
  if s.requester.tag = tag then
    match o with
    | .inserted => { s with requester.inserted := satInc s.requester.inserted }
    | .replaced => { s with requester.replaced := satInc s.requester.replaced }
    | .keptLocal => { s with requester.keptLocal := satInc s.requester.keptLocal }
    | .refused => { s with requester.refused := satInc s.requester.refused }
  else s

/-- A record inserted at its place, its knots taken from the pool (R21, R22, R29, R143). -/
def insertRecord (r : Record) (revision : Nat) (s : State) : State :=
  { s with
    store.index := insertEntry (Entry.fresh r.start revision r.body) s.store.index,
    store.freeKnots := s.store.freeKnots - r.body.knotCount }

/-- A record rewritten in its place: the old knots return to the pool and the new ones are taken in one step, and the
damaged mark is cleared (R22, R30, R143). `held` is the knot count of the old record. -/
def rewriteRecord (start revision held : Nat) (b : Body) (s : State) : State :=
  { s with
    store.index := updateEntry start (fun _ => Entry.fresh start revision b) s.store.index,
    store.freeKnots := s.store.freeKnots + held - b.knotCount }

/-- The merge of a record at the store (R142, R143): answers the outcome and whether the step changed the list. A merge
that replaces reads the local body first (R168). -/
def mergeRecord (chk : Checks) (r : Record) (s : State) : State × MergeOutcome × Bool :=
  let x := examineStore (fun n => decide (r.start ≤ n)) chk s
  let o := mergeOutcome r x.1.store
  match o, recordAtStart r.start x.1.store.index with
  | .inserted, _ => (insertRecord r r.revision x.1, o, true)
  | .replaced, some e => (rewriteRecord r.start r.revision e.knotCount r.body (readBody .merge chk e x.1).state, o, true)
  | _, _ => (x.1, o, x.2)

/-- MERGE (R142): at the grant, the record of the LIST_REC in hand. -/
def execMerge (chk : Checks) (s : State) : Answers :=
  match s.arbiter.holder, s.handler.state with
  | some .handler, .executing m (.merging tag) =>
    let r := mergeRecord chk (recordAt m.payload 3) s
    .next (handlerIdle (releaseSignal r.2.2 (countMerge tag r.2.1 r.1)))
  | _, _ => .next s

/-- The result a matching LIST_END gives (R144): the total against the count of the fetch status record, which stops at
65,535 (DESIGN CHOICE, notes/assumptions/38.md). -/
def listEndResult (p : List Byte) (received : Nat) : FetchResult :=
  if u8 p 1 = 1 then .refused
  else if u16 p 2 ≠ received % 65536 then .count
  else .done

/-- LIST_END (R144). -/
def execListEnd (s : State) : Answers :=
  match inHand .listEnd s with
  | none => .next s
  | some m =>
    if matchesFetch m s then .next (handlerIdle (endFetch (listEndResult m.payload s.requester.received) s))
    else .next (unexpected s)

/-- GAP_TIMER_EXPIRY (R145). -/
def execGapTimerExpiry (s : State) : Answers :=
  if s.requester.fetching && s.requester.gapTimer then .next (endFetch .timeout s) else .next s

/-! ## The responder -/

/-- LIST_QUERY (R148): starts a stream, or is answered BUSY; from a source above 63 it is counted as ignored. -/
def execListQuery (s : State) : Answers :=
  match inHand .listQuery s with
  | none => .next s
  | some m =>
    let tag := m.payload.getD 0 0
    if 63 < m.source.toNat then .next (handlerIdle (ignore s))
    else if s.responder.streaming then
      .next (handlerIdle (handShared ⟨m.source, .listEnd tag true 0⟩ s).1)
    else
      .next (handlerIdle (pokeResponder { s with
        responder.streaming := true,
        responder.stream := ⟨m.source, tag, u24 m.payload 1, u24 m.payload 4, none, 0⟩ }))

/-- The next record of a stream: the first at or after its first, or the next after the cursor (R149). -/
def streamNext (c : Stream) (idx : List Entry) : Option Entry :=
  match c.cursor with
  | none => firstFrom c.first idx
  | some n => nextAfter n idx

/-- Where the lookup of a stream step stops (R173). -/
def streamStop (c : Stream) (n : Nat) : Bool :=
  match c.cursor with
  | none => decide (c.first ≤ n)
  | some k => decide (k < n)

/-- A step of a stream at the store (R149 steps 2 to 4, R150): answers the state, whether the list changed, and the
record sent (none: a LIST_END was handed over). -/
def streamStep (chk : Checks) (c : Stream) (s : State) : State × Bool × Option Nat :=
  let x := examineStore (streamStop c) chk s
  match streamNext c x.1.store.index with
  | some e =>
    if e.start ≤ c.last then
      let r := readBody .send chk e x.1
      ((handShared ⟨c.station, .listRec c.tag c.sent (e.record r.view)⟩ r.state).1, x.2 || r.changed, some e.start)
    else ((handShared ⟨c.station, .listEnd c.tag false c.sent⟩ x.1).1, x.2, none)
  | none => ((handShared ⟨c.station, .listEnd c.tag false c.sent⟩ x.1).1, x.2, none)

/-- What the stream becomes after a step (R149). -/
def advanceStream (sent : Option Nat) (s : State) : State :=
  match sent with
  | some n => { s with responder.stream := { s.responder.stream with cursor := some n, sent := s.responder.stream.sent + 1 } }
  | none => { s with responder.streaming := false }

/-- The responder's step (R149), with the place held at its grant; without one it builds nothing. A step whose stream a
line reset has ended completes and changes nothing in the stream (R152). -/
def responderStep (chk : Checks) (s : State) : State :=
  let t := { s with responder.placeHeld := false, responder.unfinished := none }
  if s.responder.placeHeld then
    match s.responder.unfinished with
    | some c =>
      let r := streamStep chk c t
      pokeResponder (releaseSignal r.2.1 r.1)
    | none =>
      if s.responder.streaming then
        let r := streamStep chk s.responder.stream t
        pokeResponder (releaseSignal r.2.1 (advanceStream r.2.2 r.1))
      else release t
  else pokeResponder (release t)

/-- RESPONDER_STEP (R149): takes place where the responder holds the store. -/
def execResponderStep (chk : Checks) (s : State) : Answers :=
  if s.arbiter.holder = some .responder then .next (responderStep chk s) else .next s

end Sys2Proof.Machine
end

