-- ==== Sys2Proof/Machine/Edits.lean ====
section
/-! DEFINITION. The edits of the scene list (02_the_scene_list.md, R120): SCENE_SET, GRADE_SET, SCENE_MOVE,
SCENE_DELETE, RANGE_TRIM, TRIM_STEP, LIST_CLEAR. Each takes place where the Message Handler holds the store with the
edit in hand (R25, R41). -/

namespace Sys2Proof.Machine

/-! ## The end of an edit -/

/-- What an edit comes to: the state, the result, what the REPLY reports (R120), and whether the step changed the list
(R55). -/
structure EditEnd where
  state    : State
  result   : ReplyResult
  key      : Nat
  revision : Nat
  count    : Nat
  changed  : Bool

/-- A refused edit: the key it named, revision 0, count 0 (R120). -/
def EditEnd.refuse (s : State) (r : ReplyResult) (key : Nat) (changed : Bool) : EditEnd := ⟨s, r, key, 0, 0, changed⟩

/-- An edit ends: a refusal raises EDIT_REFUSED, the store is released with its signal, the REPLY is handed over, and
the handler becomes IDLE (R25, R114, R120). -/
def endEdit (m : Message) (e : EditEnd) : State :=
  let s := if e.result = .ok then e.state else raise .editRefused e.state
  handlerIdle (sendReply m e.result (.edit e.key e.revision e.count) (releaseSignal e.changed s)).1

/-! ## SCENE_SET (R29, R30) -/

/-- The edit, in the order of the checks of R25. -/
def sceneSet (chk : Checks) (r : Record) (s : State) : EditEnd :=
  if s.store.frozen then .refuse s .storeFrozen r.start false
  else if r.fault then .refuse s .badField r.start false
  else
    let x := examineStore (fun n => decide (r.start ≤ n)) chk s
    match recordAtStart r.start x.1.store.index with
    | none =>
      if listLimit ≤ x.1.store.index.length then .refuse x.1 .listFull r.start x.2
      else if x.1.store.freeKnots < r.body.knotCount then .refuse x.1 .knotsFull r.start x.2
      else ⟨insertRecord r 1 x.1, .ok, r.start, 1, 0, true⟩
    | some e =>
      if x.1.store.freeKnots + e.knotCount < r.body.knotCount then .refuse x.1 .knotsFull r.start x.2
      else
        ⟨rewriteRecord r.start (nextRevision e.revision) e.knotCount r.body x.1, .ok, r.start, nextRevision e.revision,
          0, true⟩

/-- SCENE_SET (R29, R30). -/
def execSceneSet (chk : Checks) (s : State) : Answers :=
  match atStore .sceneSet s with
  | none => .next s
  | some m => .next (endEdit m (sceneSet chk (recordAt m.payload 0) s))

/-! ## GRADE_SET (R31, R32) -/

/-- The grade a GRADE_SET carries, none where it clears (R196). -/
def gradeSetGrade (p : List Byte) : Option Grade := if bitAt p 3 1 then some (gradeAt p 4) else none

/-- The edit: the body is read first, for the fields it keeps (R31, R32, R168; notes/assumptions/13.md). -/
def gradeSet (chk : Checks) (start : Nat) (grade : Option Grade) (s : State) : EditEnd :=
  if s.store.frozen then .refuse s .storeFrozen start false
  else if decide (maxFrame < start) || gradeFault grade then .refuse s .badField start false
  else
    let x := examineStore (fun n => decide (start ≤ n)) chk s
    match recordAtStart start x.1.store.index with
    | none => .refuse x.1 .noScene start x.2
    | some e =>
      let r := readBody .edit chk e x.1
      let b := { r.view.body with grade := grade.map Grade.clamped }
      if r.state.store.freeKnots + e.knotCount < b.knotCount then .refuse r.state .knotsFull start (x.2 || r.changed)
      else
        ⟨rewriteRecord start (nextRevision e.revision) e.knotCount b r.state, .ok, start, nextRevision e.revision, 0, true⟩

/-- GRADE_SET (R31). -/
def execGradeSet (chk : Checks) (s : State) : Answers :=
  match atStore .gradeSet s with
  | none => .next s
  | some m => .next (endEdit m (gradeSet chk (u24 m.payload 0) (gradeSetGrade m.payload) s))

/-! ## SCENE_MOVE (R33) -/

/-- The record re-keyed: it leaves its old place and takes its place by the new start, its revision counted up, its
body, knots and damaged mark unchanged (R33). -/
def moveEntry (e : Entry) (dest : Nat) (idx : List Entry) : List Entry :=
  insertEntry { e with start := dest, revision := nextRevision e.revision } (removeEntry e.start idx)

/-- The edit, in the order of the checks of R25. -/
def sceneMove (chk : Checks) (src dest : Nat) (s : State) : EditEnd :=
  if s.store.frozen then .refuse s .storeFrozen dest false
  else if maxFrame < src ∨ maxFrame < dest then .refuse s .badField dest false
  else
    let x := examineStore (fun n => decide (src ≤ n)) chk s
    match recordAtStart src x.1.store.index with
    | none => .refuse x.1 .noScene dest x.2
    | some e =>
      if dest = src then
        ⟨{ x.1 with store.index := updateEntry src (fun e => { e with revision := nextRevision e.revision }) x.1.store.index },
          .ok, dest, nextRevision e.revision, 0, true⟩
      else
        let y := examineStore (fun n => decide (dest ≤ n)) chk x.1
        match recordAtStart src y.1.store.index, recordAtStart dest y.1.store.index with
        | none, _ => .refuse y.1 .noScene dest (x.2 || y.2)
        | some _, some _ => .refuse y.1 .duplicate dest (x.2 || y.2)
        | some e, none =>
          ⟨{ y.1 with store.index := moveEntry e dest y.1.store.index }, .ok, dest, nextRevision e.revision, 0, true⟩

/-- SCENE_MOVE (R33). -/
def execSceneMove (chk : Checks) (s : State) : Answers :=
  match atStore .sceneMove s with
  | none => .next s
  | some m => .next (endEdit m (sceneMove chk (u24 m.payload 0) (u24 m.payload 3) s))

/-! ## SCENE_DELETE (R34) -/

/-- The edit: the knots returned are the count held in the index. -/
def sceneDelete (chk : Checks) (start : Nat) (s : State) : EditEnd :=
  if s.store.frozen then .refuse s .storeFrozen start false
  else if maxFrame < start then .refuse s .badField start false
  else
    let x := examineStore (fun n => decide (start ≤ n)) chk s
    match recordAtStart start x.1.store.index with
    | none => .refuse x.1 .noScene start x.2
    | some e =>
      ⟨{ x.1 with
          store.index := removeEntry start x.1.store.index, store.freeKnots := x.1.store.freeKnots + e.knotCount },
        .ok, start, 0, 0, true⟩

/-- SCENE_DELETE (R34). -/
def execSceneDelete (chk : Checks) (s : State) : Answers :=
  match atStore .sceneDelete s with
  | none => .next s
  | some m => .next (endEdit m (sceneDelete chk (u24 m.payload 0) s))

/-! ## LIST_CLEAR (R38, R39) -/

/-- The edit. A full-range clear empties the store, faulty entries included, and unfreezes it; a smaller range deletes
the records its lookups find. The count is the records deleted (R120). -/
def listClear (chk : Checks) (first last : Nat) (s : State) : EditEnd :=
  if maxFrame < first ∨ maxFrame < last ∨ last < first then .refuse s .badField first false
  else if first = 0 ∧ last = maxFrame then ⟨{ s with store := Store.empty }, .ok, first, 0, s.store.index.length, true⟩
  else
    let x := examineStore (fun n => decide (last < n)) chk s
    let idx := x.1.store.index
    let gone := idx.filter (inRange first last)
    ⟨{ x.1 with
        store.index := idx.filter (fun e => !inRange first last e),
        store.freeKnots := x.1.store.freeKnots + heldKnots gone },
      .ok, first, 0, gone.length, true⟩

/-- LIST_CLEAR (R38). -/
def execListClear (chk : Checks) (s : State) : Answers :=
  match atStore .listClear s with
  | none => .next s
  | some m => .next (endEdit m (listClear chk (u24 m.payload 0) (u24 m.payload 3) s))

/-! ## RANGE_TRIM (R35 to R37) -/

/-- RANGE_TRIM (R35): at its first grant the trim is checked (R25, R27); accepted, its walk begins and its first step is
made under the same grant. -/
def execRangeTrim (s : State) : Answers :=
  match atStore .rangeTrim s with
  | none => .next s
  | some m =>
    let first := u24 m.payload 0
    let last := u24 m.payload 3
    if s.store.frozen then .next (endEdit m (.refuse s .storeFrozen first false))
    else if maxFrame < first ∨ maxFrame < last ∨ last < first then .next (endEdit m (.refuse s .badField first false))
    else .next { s with handler.state := .executing m (.walk ⟨none, 0⟩) }

/-- The end of a walk: the result and the count of the records changed (R35, R37, R120). -/
def endWalk (m : Message) (r : ReplyResult) (n : Nat) (changed : Bool) (s : State) : State :=
  endEdit m ⟨s, r, u24 m.payload 0, 0, n, changed⟩

/-- The next record of a walk (R35 step 2). -/
def walkNext (first : Nat) (w : Walk) (idx : List Entry) : Option Entry :=
  match w.cursor with
  | none => firstFrom first idx
  | some c => nextAfter c idx

/-- Where the lookup of a walk stops (R173). -/
def walkStop (first : Nat) (w : Walk) (n : Nat) : Bool :=
  match w.cursor with
  | none => decide (first ≤ n)
  | some c => decide (c < n)

/-- An entry of a record trimmed: its revision counted up, its body written with fresh check bits (R36). -/
def Entry.trimmed (b : Body) (e : Entry) : Entry := { e with revision := nextRevision e.revision, body := b }

/-- The trim of one record (R36): graded and not damaged, a record of which a value differs is written. Answers whether
it changed. -/
def trimRecord (d : Deltas) (e : Entry) (v : BodyView) (s : State) : State × Bool :=
  match v.body.grade with
  | none => (s, false)
  | some g =>
    if g.trimmed d = g then (s, false)
    else
      let b := { v.body with grade := some (g.trimmed d) }
      ({ s with store.index := updateEntry e.start (Entry.trimmed b) s.store.index }, true)

/-- One step of a walk (R35 to R37), made where the store is held. A step that does not end the walk releases the store
and asks for nothing: between two steps the store is free. A step whose own lookup finds a new faulty entry completes,
and the walk then ends with STORE_FROZEN. -/
def trimStep (chk : Checks) (m : Message) (w : Walk) (s : State) : State :=
  let first := u24 m.payload 0
  if s.store.frozen then endWalk m .storeFrozen w.changed false s
  else
    let x := examineStore (walkStop first w) chk s
    match (walkNext first w x.1.store.index).filter (fun e => decide (e.start ≤ u24 m.payload 3)) with
    | none => endWalk m (if x.2 then .storeFrozen else .ok) w.changed x.2 x.1
    | some e =>
      let r := readBody .edit chk e x.1
      let t := trimRecord (deltasAt m.payload) e r.view r.state
      let n := if t.2 then w.changed + 1 else w.changed
      if x.2 then endWalk m .storeFrozen n true t.1
      else
        releaseSignal (r.changed || t.2) { t.1 with handler.state := .executing m (.walk ⟨some e.start, n⟩) }

/-- The request for a step of a walk, where the handler neither holds the store nor waits for it (R35, R41). -/
def askForStep (s : State) : State :=
  if s.arbiter.holder = some .handler || s.arbiter.handlerWaits then s else request .handler s

/-- TRIM_STEP (R35, R36): the handler asks for the store if it has not yet (notes/assumptions/37.md), and makes the step
where it is granted. -/
def execTrimStep (chk : Checks) (s : State) : Answers :=
  match s.handler.state with
  | .executing m (.walk w) =>
    if (askForStep s).arbiter.holder = some .handler then .next (trimStep chk m w (askForStep s)) else .next (askForStep s)
  | .idle => .next s
  | .executing _ .carry => .next s
  | .executing _ .store => .next s
  | .executing _ (.merging _) => .next s

end Sys2Proof.Machine
end

