-- ==== Sys2Proof/Machine/FieldStart.lean ====
section
/-! DEFINITION. The field start and the expiries that fall at one: FIELD_START, HOLDBACK_EXPIRY, TALLY_PULSE_END,
STATUS_COUNTDOWN_EXPIRY. Every block's part of a field start is one definition; `fieldStart` puts them in order. -/

namespace Sys2Proof.Machine

/-! ## Position and Cadence Unit -/

/-- The unit's part: counts, parity, the snapshot; the loss timer restarts and a loss ends (R3, R4). -/
def countField (s : State) : State :=
  let p := s.pcu
  let count := p.fieldCount + 1
  let odd := count.getLsbD 0
  { s with
    pcu.fieldCount := count,
    pcu.fieldParity := odd,
    pcu.fieldsInFrame := if 15 ≤ p.fieldsInFrame then 15 else p.fieldsInFrame + 1,
    pcu.snapshot := ⟨count, odd, p.gateFrame, p.fieldsInFrame, p.cadencePhase, p.cadenceState, p.positionState,
      p.speedClass, p.direction, p.rangeClamp⟩,
    pcu.refTimerRunning := true,
    pcu.lossInProgress := false }

/-! ## Grade Resolver -/

/-- The swap decision (R61). -/
def swapBank (s : State) : State :=
  match s.pipeline.pendingBank with
  | .ready b => { s with pipeline.active := b, pipeline.pendingBank := .empty }
  | .empty | .filling _ => s

/-- The field is late: the active bank was resolved for another frame (R62). -/
def State.lateField (s : State) : Bool := s.pipeline.active.resolvedFrame ≠ s.pcu.snapshot.gateFrame

/-- The LATE check (R62). -/
def checkLate (s : State) : State :=
  if s.lateField then raise .lateGrade { s with resolver.late := satInc s.resolver.late } else s

/-- The omit of the field: the bank's, or yes where the field's scene is unknown (R63). -/
def State.fieldOmitted (s : State) : Bool :=
  let scene := s.pipeline.active.scene
  let g := s.pcu.snapshot.gateFrame
  if s.lateField && !(decide (scene.spanFirst ≤ g) && decide (g ≤ scene.spanLast)) then true else scene.omitted

/-- The field enters a scene (R64). -/
def State.entersScene (s : State) : Bool := s.pipeline.active.scene.start ≠ s.resolver.lastScene

/-- The SCENE_ENTERED entry of an entering field (R66). -/
def State.sceneEntry (s : State) : SceneEntry :=
  let b := s.pipeline.active
  ⟨b.resolvedFrame, b.scene.start, b.scene.sceneId, b.scene.revision, s.pcu.snapshot.fieldCount⟩

/-- The hold-back countdown of a field start: it decreases, and at 0 the entry is handed to the transmit queue
(R65 step 1). -/
def countHoldback (s : State) : State :=
  match s.resolver.slot with
  | none => s
  | some e =>
    if s.resolver.countdown ≤ 1 then
      handReport (.sceneEntered e) { s with resolver.slot := none, resolver.countdown := 0 }
    else { s with resolver.countdown := s.resolver.countdown - 1 }

/-- Scene entry: the entry is loaded into the hold-back slot, or with hold-back 0 handed over at once (R64, R65). -/
def enterScene (s : State) : State :=
  if s.entersScene then
    let t := { s with resolver.lastScene := s.pipeline.active.scene.start }
    if s.config.holdback = 0 then handReport (.sceneEntered s.sceneEntry) t
    else { t with resolver.slot := some s.sceneEntry, resolver.countdown := s.config.holdback }
  else s

/-! ## Correction Pipeline -/

/-- The clip count is closed and the line in progress ends (R70, R81). -/
def closeClip (s : State) : State :=
  { s with pipeline.clipLast := s.pipeline.clipInProgress, pipeline.clipInProgress := 0, pipeline.lineOpen := false }

/-- The output mode becomes GRADING at the first field start in RUNNING (R85). -/
def startGrading (s : State) : State :=
  if s.part = .running then { s with pipeline.outputMode := .grading } else s

/-! ## Gate and Cue Output Unit -/

/-- TALLY for the field (R164). -/
def updateTally (entered : Bool) (s : State) : State :=
  match s.config.tallyMode with
  | .off => { s with gate.tally := false }
  | .pulse =>
    let n := if entered then s.config.tallyLength else s.gate.tallyCountdown - 1
    { s with gate.tallyCountdown := n, gate.tally := decide (0 < n) }
  | .toggle => if entered then { s with gate.tally := !s.gate.tally } else s

/-- AMARK for the field (R165). -/
def updateAmark (s : State) : State :=
  match s.config.amarkMode with
  | .off => { s with gate.amark := false }
  | .phase0 =>
    { s with gate.amark :=
        decide (s.pcu.snapshot.cadenceState = .locked) && decide (s.pcu.snapshot.cadencePhase = some 0) }

/-- The target of an armed punch (R157). -/
def punchTarget (s : State) : Option Nat :=
  let n := s.pcu.snapshot
  if s.gate.punch.align then
    match n.cadenceState, n.cadencePhase with
    | .locked, some p =>
      some (s.gate.punch.inFrame + (((n.gateFrame : Int) - p.toNat - s.gate.punch.inFrame) % 4).toNat)
    | _, _ => s.gate.target
  else s.gate.target

/-- An armed punch fires at this field (R158); one whose target lies above out_frame cannot fire (R157). -/
def punchFires (s : State) : Bool :=
  let n := s.pcu.snapshot
  decide (s.part = .running) && decide (s.gate.target = some n.gateFrame)
    && decide (n.gateFrame ≤ s.gate.punch.outFrame) && decide (n.fieldIndex = 0)
    && decide (n.positionState = .placed) && decide (n.speedClass = .sound) && decide (n.direction = .fwd)
    && (!s.gate.punch.align || decide (n.cadenceState = .locked))

/-- The film passes a frame at this field start (R159). -/
def passes (lastEval : Option Nat) (g x : Nat) : Bool :=
  match lastEval with
  | none => false
  | some e => decide (e ≤ x) && decide (x < g)

/-- The film passes the target, with the target not none, or out_frame (R159). -/
def punchMissed (s : State) : Bool :=
  let g := s.pcu.snapshot.gateFrame
  (match s.gate.target with
   | none => false
   | some t => passes s.gate.lastEval g t) || passes s.gate.lastEval g s.gate.punch.outFrame

/-- An armed punch at a field start: firing, else passing (R158, R159). The target is already worked out. -/
def evalArmed (omitted : Bool) (s : State) : State :=
  let n := s.pcu.snapshot
  if punchFires s then
    raise .punchEvent { s with
      gate.gate := !omitted,
      gate.punch := { s.gate.punch with
        state := .recording, overwrite := s.gate.punch.unread, inStamp := n.fieldCount, outStamp := 0, unread := true } }
  else if punchMissed s then
    raise .punchEvent { s with
      gate.target := none, gate.lastEval := none, gate.punch := { s.gate.punch with state := .missed } }
  else { s with gate.lastEval := some n.gateFrame }

/-- A recording punch at a field start (R160). The frame at which it fired is its target. -/
def evalRecording (omitted : Bool) (s : State) : State :=
  let n := s.pcu.snapshot
  if s.gate.punch.outFrame < n.gateFrame then
    raise .punchEvent { s with
      gate.gate := false,
      gate.punch := { s.gate.punch with state := .done, outStamp := n.fieldCount, unread := true } }
  else
    match s.gate.target with
    | none => { s with gate.gate := false }
    | some t => { s with gate.gate := decide (t ≤ n.gateFrame) && !omitted }

/-- The punch at a field start, by its state (R156). -/
def evalPunch (omitted : Bool) (s : State) : State :=
  match s.gate.punch.state with
  | .armed => evalArmed omitted { s with gate.target := punchTarget s }
  | .recording => evalRecording omitted s
  | .idle | .done | .missed | .aborted => s

/-! ## The header -/

/-- The header record of a field start in JOINING or RUNNING (R86 to R88). -/
def State.header (late omitted : Bool) (s : State) : HeaderRecord :=
  let n := s.pcu.snapshot
  let b := s.pipeline.active
  { fieldCount := n.fieldCount, parity := n.parity, frame := n.gateFrame, fieldIndex := n.fieldIndex,
    phase := n.cadencePhase, sceneStart := b.scene.start, sceneId := b.scene.sceneId, revision := b.scene.revision,
    w := b.w, clipLast := s.pipeline.clipLast,
    flags :=
      { notReady := s.part ≠ .running, late := late, omitted := omitted,
        bypass := b.mode.compare = .bypass, split := b.mode.compare = .split, rangeClamp := n.rangeClamp,
        unplaced := n.positionState = .unplaced, suspect := n.positionState = .suspect,
        cadenceFree := n.cadenceState = .free, cadenceBroken := n.cadenceState = .broken,
        storeFault := s.store.frozen, damaged := b.scene.damaged, inherited := b.inherited,
        mixing := b.fromCurve.isSome, gate := s.gate.gate } }

/-- The header record of a field start in LOADING (R89). -/
def State.loadingHeader (s : State) : HeaderRecord :=
  let n := s.pcu.snapshot
  { fieldCount := n.fieldCount, parity := n.parity, frame := n.gateFrame, fieldIndex := n.fieldIndex,
    phase := n.cadencePhase, sceneStart := none, sceneId := 0, revision := 0, w := 256, clipLast := 0,
    flags :=
      { notReady := true, late := false, omitted := false, bypass := false, split := false, rangeClamp := n.rangeClamp,
        unplaced := n.positionState = .unplaced, suspect := n.positionState = .suspect,
        cadenceFree := n.cadenceState = .free, cadenceBroken := n.cadenceState = .broken,
        storeFault := false, damaged := false, inherited := false, mixing := false, gate := false } }

/-- A header record leaves the PIC port, after every pixel taken before it (R71, R86, R197). -/
def emitHeader (h : HeaderRecord) (s : State) : State :=
  { s with pipeline.port := s.pipeline.port ++ headerWords h.bytes }

/-! ## Event Unit -/

/-- The status countdown runs (R178). -/
def State.statusRuns (s : State) : Bool := s.events.statusEnable && decide (0 < s.config.statusInterval)

/-- The countdown has reached 0: a STATUS is built and handed over, and the countdown starts again (R178). -/
def sendStatus (s : State) : State :=
  let t := { s with events.statusCountdown := 16 * s.config.statusInterval }
  handReport (.status s.summary) t

/-- The status countdown of a field start (R178). -/
def countStatus (s : State) : State :=
  if s.statusRuns then
    if s.events.statusCountdown ≤ 1 then sendStatus s
    else { s with events.statusCountdown := s.events.statusCountdown - 1 }
  else s

/-! ## The scrubber -/

/-- The scrub step on the record found (R175 steps 3 to 5): answers whether the list changed. -/
def scrubRecord (chk : Checks) (e : Entry) (s : State) : State × Bool :=
  let r := readBody .scrub chk e s
  let x := examineStore (fun n => decide (e.start < n)) chk r.state
  ({ x.1 with store.scrubCursor := ((nextAfter e.start x.1.store.index).map Entry.start).getD 0 }, r.changed || x.2)

/-- One scrub step, if the store is free and no client waits (R43, R175). -/
def scrub (chk : Checks) (s : State) : State :=
  if s.arbiter.holder = none && s.arbiter.noneWaits then
    let c := s.store.scrubCursor
    let x := examineStore (fun n => decide (c ≤ n)) chk s
    match firstFrom c x.1.store.index with
    | some e =>
      let r := scrubRecord chk e x.1
      triggerIf (x.2 || r.2) r.1
    | none =>
      let y := examineStore (fun _ => true) chk x.1
      match firstFrom 0 y.1.store.index with
      | some e =>
        let r := scrubRecord chk e y.1
        triggerIf (x.2 || y.2 || r.2) r.1
      | none => triggerIf (x.2 || y.2) { y.1 with store.scrubCursor := 0 }
  else s

/-! ## The field start -/

/-- A field start in LOADING: the unit counts, and the header of R89 leaves (R86, R186). -/
def loadingField (s : State) : State :=
  let s := closeClip (countField s)
  emitHeader s.loadingHeader s

/-- What the unit, the resolver and the pipeline make of a field start, up to the field's scene (R3, R61, R62). -/
def openField (s : State) : State := checkLate (swapBank (countField s))

/-- A field start in JOINING or RUNNING: the snapshot, the swap and the LATE check (R3, R61, R62), the field's scene and
scene entry with its hold-back (R63 to R65), the clip count (R81), the cue outputs and the punch (R156), the output mode
(R85), the header (R86), the status countdown (R178) and the scrub step (R175). -/
def upField (chk : Checks) (s : State) : State :=
  let s := openField s
  let late := s.lateField
  let omitted := s.fieldOmitted
  let entered := s.entersScene
  let s := closeClip (enterScene (countHoldback s))
  let s := evalPunch omitted (updateAmark (updateTally entered s))
  let s := startGrading s
  let s := emitHeader (s.header late omitted) s
  scrub chk (countStatus s)

/-- A field start, by the state of the part (R16, R186, R187, R189). -/
def fieldStart (chk : Checks) (s : State) : State :=
  match s.part with
  | .reset => s
  | .loading => loadingField s
  | .joining => upField chk s
  | .running => upField chk s

/-- FIELD_START (R3). -/
def execFieldStart (chk : Checks) (s : State) : Answers := .next (fieldStart chk s)

/-! ## The expiries of a field start, under the names of their outcomes (notes/assumptions/6.md) -/

/-- A field start commanded under the name of an outcome: where the field that starts has it, that field start whole,
with a scrub step that finds every check clean; and no other field start. -/
def fieldStartIf (outcome : Bool) (s : State) : State := if outcome then fieldStart Checks.clean s else s

/-- The field that starts hands over the entry of the hold-back slot: the countdown stands at 1 (R65). -/
def State.holdbackEnds (s : State) : Bool :=
  s.up && s.resolver.slot.isSome && decide (s.resolver.countdown = 1)

/-- HOLDBACK_EXPIRY (R65): the countdown of the hold-back slot goes from 1 to 0 and the entry is handed over, or
discarded where there is no report address (R135). It does so at field starts only. -/
def execHoldbackExpiry (s : State) : Answers := .next (fieldStartIf s.holdbackEnds s)

/-- The field that starts ends a TALLY pulse: the countdown stands at 1 and the field enters no scene (R164). -/
def State.tallyEnds (s : State) : Bool :=
  s.up && decide (s.config.tallyMode = .pulse) && decide (s.gate.tallyCountdown = 1) && !(openField s).entersScene

/-- TALLY_PULSE_END (R164): the countdown goes from 1 to 0 and TALLY becomes inactive. TALLY changes at field starts only
and the countdown does not run in a reference loss. -/
def execTallyPulseEnd (s : State) : Answers := .next (fieldStartIf s.tallyEnds s)

/-- The field that starts brings the status countdown from 1 to 0 (R178). -/
def State.statusEnds (s : State) : Bool := s.up && s.statusRuns && decide (s.events.statusCountdown = 1)

/-- STATUS_COUNTDOWN_EXPIRY (R178): the countdown goes from 1 to 0, a STATUS is built and queued, and the countdown
starts again. It decreases at field starts only and stands in a reference loss. -/
def execStatusCountdownExpiry (s : State) : Answers := .next (fieldStartIf s.statusEnds s)

end Sys2Proof.Machine
end

