-- ==== Sys2Proof/Machine/Position.lean ====
section
/-! DEFINITION. The Position and Cadence Unit (01_film_position_and_field_cadence.md): FRM_PULSE, POSITION,
REF_LOSS_EXPIRY. -/

namespace Sys2Proof.Machine

/-! ## Frames and phases -/

/-- The projection of a frame by `d` steps in a direction, clamped, and whether it was clamped (R6). -/
def project (dir : Direction) (d f : Nat) : Nat × Bool :=
  match dir with
  | .fwd => if maxFrame < f + d then (maxFrame, true) else (f + d, false)
  | .rev => if f < d then (0, true) else (f - d, false)

/-- The step of R2: by one frame, clamped. -/
def stepFrame (dir : Direction) (f : Nat) : Nat × Bool := project dir 1 f

/-- A phase moved by `d` pulses: forward for FWD, back for REV, modulo 4 (R6, R13). -/
def movePhase (dir : Direction) (d : Nat) (p : BitVec 2) : BitVec 2 :=
  match dir with
  | .fwd => p + BitVec.ofNat 2 d
  | .rev => p - BitVec.ofNat 2 d

/-- The fields a frame of a phase is expected to occupy: 2, 3, 2, 3 (Field cadence). -/
def phaseFields (p : BitVec 2) : Nat := if p.getLsbD 0 then 3 else 2

/-- The expected count of R13: 2 in UNITY, and in PULLDOWN by the phase held. -/
def expectedFields (mode : CadenceMode) (p : Option (BitVec 2)) : Nat :=
  match mode, p with
  | .unity, _ => 2
  | .pulldown, none => 2
  | .pulldown, some p => phaseFields p

/-- The phase after a pulse: it advances in PULLDOWN where it is known (R13). -/
def advancedPhase (mode : CadenceMode) (dir : Direction) (p : Option (BitVec 2)) : Option (BitVec 2) :=
  match mode with
  | .unity => p
  | .pulldown => p.map (movePhase dir 1)

/-! ## Frame pulse -/

/-- The cadence check made at a pulse on the frame just completed, with the direction sampled at the pulse (R13). -/
def cadenceCheck (s : State) : State :=
  let mode := s.config.cadenceMode
  let phase := advancedPhase mode s.pcu.direction s.pcu.cadencePhase
  match s.pcu.cadenceState with
  | .free => s
  | .locked =>
    if s.pcu.fieldsInFrame = expectedFields mode s.pcu.cadencePhase then { s with pcu.cadencePhase := phase }
    else raise .cadenceBreak { s with
      pcu.cadenceState := .broken, pcu.cadencePhase := phase, pcu.breaks := satInc s.pcu.breaks }
  | .broken =>
    match mode with
    | .pulldown => { s with pcu.cadencePhase := phase }
    | .unity => if s.pcu.fieldsInFrame = 2 then { s with pcu.cadenceState := .locked } else s

/-- The cadence state that an applied POSITION sets from its speed class and the phase it is taken with (R12). -/
def cadenceOf (mode : CadenceMode) (speed : SpeedClass) (phase : Option (BitVec 2))
    (old : CadenceState × Option (BitVec 2)) : CadenceState × Option (BitVec 2) :=
  match speed with
  | .still | .jog | .shuttle => (.free, none)
  | .sound =>
    match mode, phase with
    | .pulldown, some p => (.locked, some p)
    | .pulldown, none => if old.1 = .free then (.broken, none) else old
    | .unity, _ => if old.1 = .free then (.locked, none) else old

/-- The phase field is used if the class is SOUND and the cadence mode is PULLDOWN (R6). -/
def usedPhase (mode : CadenceMode) (speed : SpeedClass) (phase : Option (BitVec 2)) : Option (BitVec 2) :=
  if speed = .sound ∧ mode = .pulldown then phase else none

/-- The speed class and cadence follow an applied POSITION; a class other than SOUND aborts a RECORDING punch
(R11, R12). -/
def followPosition (speed : SpeedClass) (phase : Option (BitVec 2)) (s : State) : State :=
  let mode := s.config.cadenceMode
  let c := cadenceOf mode speed (usedPhase mode speed phase) (s.pcu.cadenceState, s.pcu.cadencePhase)
  let s := { s with pcu.speedClass := speed, pcu.cadenceState := c.1, pcu.cadencePhase := c.2 }
  if speed = .sound then s else abortPunch s

/-- A slip (R8, R9). -/
def slip (s : State) : State :=
  raise .positionSlip { s with pcu.positionState := .suspect, pcu.slips := satInc s.pcu.slips }

/-- The held POSITION applied at its pulse in place of the step (R9). -/
def applyHeld (h : HeldPosition) (s : State) : State :=
  let loc := (stepFrame s.pcu.direction s.pcu.gateFrame).1
  let agrees := decide (s.pcu.positionState = .unplaced) || decide (h.frame = loc)
  let s := { s with pcu.gateFrame := h.frame, pcu.rangeClamp := false, pcu.held := none }
  let s := if agrees then { s with pcu.positionState := .placed } else slip s
  followPosition h.speed h.phase s

/-- The gate frame moved to the frame now entering the gate (R1 step 5). -/
def moveGate (s : State) : State :=
  let stepped := stepFrame s.pcu.direction s.pcu.gateFrame
  let plain := { s with pcu.gateFrame := stepped.1, pcu.rangeClamp := stepped.2 }
  match s.pcu.held with
  | none => plain
  | some h => if h.seq = s.pcu.pulseSeq then applyHeld h s else plain

/-- A frame pulse, the steps of R1 in their order; a pulse sampled REV aborts a RECORDING punch (R161). The spec gives the
abort no place among the steps of R1; here it comes before the cadence check (DESIGN CHOICE, notes/assumptions/36.md). -/
def framePulse (dirHigh : Bool) (s : State) : State :=
  let dir : Direction := if dirHigh then .fwd else .rev
  let s := { s with pcu.pulseSeq := s.pcu.pulseSeq + 1, pcu.direction := dir }
  let s := if dir = .rev then abortPunch s else s
  let s := cadenceCheck s
  let s := { s with pcu.fieldsInFrame := 0 }
  trigger (moveGate s)

/-- FRM_PULSE (R1). In RESET the unit takes no pulse (R16). -/
def execFrmPulse (dirHigh : Bool) (s : State) : Answers :=
  if s.part = .reset then .next s else .next (framePulse dirHigh s)

/-! ## POSITION -/

/-- The phase byte: none for 0xFF, else a phase field present (R192); `some none` is an absent field and `none` a
value above 3. -/
def phaseField (n : Nat) : Option (Option (BitVec 2)) :=
  if n = 255 then some none else if n ≤ 3 then some (some (BitVec.ofNat 2 n)) else none

/-- A POSITION that the unit does not discard (R6, R191, R192). -/
def positionOf (p : List Byte) : Option HeldPosition :=
  if p.length < requiredLength .position p then none
  else if maxFrame < u24 p 0 then none
  else
    match speedOf (u8 p 4), phaseField (u8 p 5) with
    | some sp, some ph => some ⟨u24 p 0, p.getD 3 0, sp, ph⟩
    | _, _ => none

/-- The source may send this message: it is the configured address, or none is configured (R117). -/
def sourceAllowed (configured : Option Byte) (source : Byte) : Bool :=
  match configured with
  | none => true
  | some a => a = source

/-- A POSITION that is not held is reconciled: the frame it gives, whether its projection was clamped, and its phase
projected with it (R6 to R8). `d` is the sequence distance. -/
def reconcile (h : HeldPosition) (d : Nat) (s : State) : State :=
  let dir := s.pcu.direction
  let near := decide (d ≤ 4)
  let target := if near then project dir d h.frame else (h.frame, false)
  let phase := if near then h.phase.map (movePhase dir d) else h.phase
  let before := s.pcu.gateFrame
  let agrees := decide (s.pcu.positionState = .unplaced) || (near && decide (target.1 = before))
  let s := { s with pcu.gateFrame := target.1, pcu.rangeClamp := target.2, pcu.held := none }
  let s := if agrees then { s with pcu.positionState := .placed } else slip s
  triggerIf (decide (target.1 ≠ before)) (followPosition h.speed phase s)

/-- A POSITION taken by the unit: held when early, else reconciled (R6 to R9). -/
def takePosition (h : HeldPosition) (s : State) : State :=
  let d := (s.pcu.pulseSeq - h.seq).toNat
  if 252 ≤ d then { s with pcu.held := some h } else reconcile h d s

/-- The hand-over of a POSITION message: source check (R117), length and field checks (R191, R6), then the unit takes
it. A message discarded is counted as ignored (R116). -/
def handPosition (m : Message) (s : State) : State :=
  if sourceAllowed s.config.transport m.source then
    match positionOf m.payload with
    | none => ignore s
    | some h => takePosition h s
  else ignore s

/-- POSITION (R8): the message handed over is taken. Where none is handed over the step does not take place. -/
def execPosition (s : State) : Answers :=
  match s.cue.handover with
  | [] => .next s
  | m :: rest => .next (handPosition m { s with cue.handover := rest })

/-! ## Field reference loss -/

/-- REF_LOSS_EXPIRY (R15): the loss begins, REF_LOSS is raised, and a RECORDING punch is aborted. -/
def execRefLossExpiry (s : State) : Answers :=
  if s.part ≠ .reset ∧ s.pcu.refTimerRunning then
    .next (abortPunch (raise .refLoss { s with pcu.refTimerRunning := false, pcu.lossInProgress := true }))
  else .next s

end Sys2Proof.Machine
end

