-- ==== Sys2Proof/Machine/Handler.lean ====
section
/-! DEFINITION. The Message Handler takes a message (R114 to R117, R130, R133, R191): MH_TAKE and UNKNOWN_KIND. -/

namespace Sys2Proof.Machine

/-! ## What a message taken comes to -/

/-- What becomes of a message the handler takes: not carried out and counted (R116); carried out at once; carried out
as a step at the store (R41); or refused at the take, with what its REPLY carries. -/
inductive Verdict where
  | ignored
  | atOnce
  | store
  | refused (result : ReplyResult) (body : ReplyBody)
  deriving DecidableEq, Repr

/-- The addressing a kind is carried out under (R115, R140). POSITION does not reach the handler; EVENT_REPORT, STATUS
and REPLY are never carried out (R116). -/
def MsgKind.carriedUnder (k : MsgKind) (a : Addressing) : Bool :=
  match k with
  | .sceneSet | .gradeSet | .sceneMove | .sceneDelete | .rangeTrim | .listClear | .clear | .setMode | .punchArm
  | .punchAbort | .sceneEntered | .fetchFrom => true
  | .query | .listQuery | .listRec | .listEnd => a = .individual
  | .reset => a ≠ .broadcast
  | .position | .eventReport | .status | .reply => false

/-- The conditions of the partner check (R133): the source is the partner, the frame a frame, the start a frame or
none. -/
def takesPartner (m : Message) (s : State) : Bool :=
  decide (s.partner = some m.source) && decide (u24 m.payload 0 ≤ maxFrame)
    && (decide (optFrame (u24 m.payload 3) = none) || decide (u24 m.payload 3 ≤ maxFrame))

/-- A QUERY by its topic (R121, R190): a topic above 4, or SCENE with a frame above the reel, is refused with the topic
as received and no answer. SCENE is a step at the store. -/
def judgeQuery (p : List Byte) : Verdict :=
  if 4 < u8 p 0 ∨ (u8 p 0 = 1 ∧ maxFrame < u24 p 1) then .refused .badField (.query (p.getD 0 0) .nothing)
  else if u8 p 0 = 1 then .store
  else .atOnce

/-- A RESET by its scope (R130, R190): SOFT is carried out at once, LIST as a step at the store (R132). -/
def judgeReset (p : List Byte) : Verdict :=
  match u8 p 0 with
  | 0 => .atOnce
  | 1 => .store
  | _ => .refused .badField .plain

/-- A message of a known kind, of sufficient length and addressed as its kind allows, by its kind. -/
def judgeKind (k : MsgKind) (m : Message) (s : State) : Verdict :=
  match k with
  | .sceneSet | .gradeSet | .sceneMove | .sceneDelete | .rangeTrim | .listClear => .store
  | .query => judgeQuery m.payload
  | .reset => judgeReset m.payload
  | .sceneEntered => if takesPartner m s then .store else .ignored
  | .punchArm | .punchAbort => if sourceAllowed s.config.recorder m.source then .atOnce else .ignored
  | .clear | .setMode | .fetchFrom | .listQuery | .listRec | .listEnd => .atOnce
  | .position | .eventReport | .status | .reply => .ignored

/-- The judgement of a message at its take: its kind (R116), its payload length (R191), its addressing (R115), and what
its kind asks for (R117, R121, R130, R133). -/
def judge (m : Message) (s : State) : Verdict :=
  match MsgKind.ofCode m.kind with
  | none => if m.addressing = .individual then .atOnce else .ignored
  | some k =>
    if m.payload.length < requiredLength k m.payload then .ignored
    else if k.carriedUnder m.addressing then judgeKind k m s
    else .ignored

/-! ## The steps -/

/-- The handler holds a message in a phase. -/
def hold (m : Message) (p : Phase) (s : State) : State := { s with handler.state := .executing m p }

/-- What the judgement does: an ignored message leaves the handler IDLE and a refused one ends; a message for the store
requests it (R41). -/
def applyVerdict (m : Message) (v : Verdict) (s : State) : State :=
  match v with
  | .ignored => ignore s
  | .atOnce => hold m .carry s
  | .store => request .handler (hold m .store s)
  | .refused result body => endPlain m result body s

/-- MH_TAKE (R114): in JOINING or RUNNING the IDLE handler takes the head of the inbound queue. -/
def execMhTake (s : State) : Answers :=
  match s.handler.state, s.cue.inbound with
  | .idle, m :: rest => if s.up then .next (applyVerdict m (judge m s) { s with cue.inbound := rest }) else .next s
  | _, _ => .next s

/-- UNKNOWN_KIND (R116, R118): an individually addressed message of a kind the part does not know is answered. -/
def execUnknownKind (s : State) : Answers :=
  match s.handler.state with
  | .executing m .carry =>
    if MsgKind.ofCode m.kind = none then .next (endPlain m .unknownKind .plain s) else .next s
  | _ => .next s

end Sys2Proof.Machine
end

