-- ==== Sys2Proof/Machine/Pipeline.lean ====
section
/-! DEFINITION. The Correction Pipeline (04_the_correction_pipeline.md): PIXEL, LINE_END and the arithmetic of the five
stages. Every division is a floor division (`/` on `Int` with a positive divisor). -/

namespace Sys2Proof.Machine

/-! ## Legal range (R79) -/

/-- Legal black. -/
def LegalRange.lower : LegalRange → Int
  | .narrow => 64
  | .full => 4

def LegalRange.upper : LegalRange → Int
  | .narrow => 940
  | .full => 1019

/-! ## The stages -/

/-- Stage 1 (R72). -/
def stageBlack (x black : Int) : Int := if x - black < 0 then 0 else x - black

/-- Stage 2 (R73). -/
def stageGain (v gain : Int) : Int := if 4095 < (v * gain + 512) / 1024 then 4095 else (v * gain + 512) / 1024

/-- The value on the segment from knot `a` to knot `b` (R74). -/
def onSegment (a b : Knot) (v : Int) : Int :=
  let width : Int := (b.x : Int) - a.x
  a.y + ((v - a.x) * ((b.y : Int) - a.y) + width / 2) / width

/-- The curve at or above knot `a`, with the knots that follow it (R74). -/
def evalFrom (v : Int) (a : Knot) : List Knot → Int
  | [] => a.y
  | b :: ks => if v < b.x then onSegment a b v else evalFrom v b ks

/-- A knot list evaluated (R74): flat outside its knots. -/
def evalKnots (ks : List Knot) (v : Int) : Int :=
  match ks with
  | [] => 0
  | a :: rest => if v ≤ a.x then a.y else evalFrom v a rest

/-- The knots of a curve: its own, or those of the preset in the configuration (R75). -/
def curveKnots (cfg : Config) : Curve → List Knot
  | .preset i => cfg.presets.getD i []
  | .knots ks => ks

/-- Stage 3: the to-curve, or in a mixing bank the blend of both curves (R75, R76). -/
def stageCurve (cfg : Config) (bank : Bank) (v : Int) : Int :=
  let own := evalKnots (curveKnots cfg bank.toCurve) v
  match bank.fromCurve with
  | none => own
  | some c =>
    let a := evalKnots (curveKnots cfg c) v
    a + ((own - a) * bank.w + 128) / 256

/-- Stage 4 (R77). -/
def stageLift (v lift : Int) : Int := clamp 0 1023 (v + lift)

/-- The luma of stage 5 (R78). -/
def luma (v : Rgb) : Int := (306 * v.r + 601 * v.g + 117 * v.b + 512) / 1024

/-- Stage 5 before the clamp (R78). -/
def stageSat (y v sat : Int) : Int := y + ((v - y) * sat + 512) / 1024

/-- Stages 1 to 4 of one channel. -/
def toLifted (cfg : Config) (bank : Bank) (x black gain lift : Int) : Int :=
  stageLift (stageCurve cfg bank (stageGain (stageBlack x black) gain)) lift

/-- The five stages, less the final clamp (R72 to R78). -/
def correct (cfg : Config) (bank : Bank) (x : Rgb) : Rgb :=
  let v : Rgb := ⟨toLifted cfg bank x.r bank.black.r bank.gain.r bank.lift.r,
    toLifted cfg bank x.g bank.black.g bank.gain.g bank.lift.g,
    toLifted cfg bank x.b bank.black.b bank.gain.b bank.lift.b⟩
  ⟨stageSat (luma v) v.r bank.sat, stageSat (luma v) v.g bank.sat, stageSat (luma v) v.b bank.sat⟩

/-- A bypassed pixel, less the final clamp: the two lowest bits dropped (R82). -/
def bypass (x : Rgb) : Rgb := ⟨x.r / 4, x.g / 4, x.b / 4⟩

/-- Whether a pixel of this index is bypassed (R82, R83). -/
def bypassed (mode : ModeSetting) (index : Nat) : Bool :=
  match mode.compare with
  | .off => false
  | .bypass => true
  | .split => decide (index < mode.split)

/-- The final clamp (R79). -/
def legal (range : LegalRange) (x : Int) : Int := clamp range.lower range.upper x

/-- Whether the final clamp changes a value (R80). -/
def clips (range : LegalRange) (x : Int) : Nat := if legal range x = x then 0 else 1

/-- The clip count after `n` more: it stops at 65,535 (R80). -/
def addClips (count n : Nat) : Nat := if 65535 ≤ count + n then 65535 else count + n

def pixelWord (v : Rgb) : PicWord := .pixel (BitVec.ofInt 10 v.r) (BitVec.ofInt 10 v.g) (BitVec.ofInt 10 v.b)

/-- Legal black before GRADING: 64 in LOADING, else the lower bound of the configured range (R85). -/
def State.blackLevel (s : State) : Int := if s.part = .loading then 64 else s.config.legalRange.lower

/-- A pixel as it leaves, and how many of its values the final clamp changed (R79, R80, R85). -/
def pixelOut (s : State) (index : Nat) (x : Rgb) : PicWord × Nat :=
  match s.pipeline.outputMode with
  | .black => (pixelWord ⟨s.blackLevel, s.blackLevel, s.blackLevel⟩, 0)
  | .grading =>
    let range := s.config.legalRange
    let v := if bypassed s.pipeline.active.mode index then bypass x else correct s.config s.pipeline.active x
    (pixelWord ⟨legal range v.r, legal range v.g, legal range v.b⟩, clips range v.r + clips range v.g + clips range v.b)

/-- The index of the next pixel: 0 opens a line (R70). -/
def State.nextIndex (s : State) : Nat := if s.pipeline.lineOpen then s.pipeline.pixelIndex else 0

/-- PIXEL (R71): the pixel gets its index (R70), leaves corrected, bypassed or black, and is counted. In RESET no pixel
is taken. -/
def execPixel (r g b : BitVec 12) (s : State) : Answers :=
  if s.part = .reset then .next s
  else
    let index := s.nextIndex
    let out := pixelOut s index ⟨r.toNat, g.toNat, b.toNat⟩
    .next { s with
      pipeline.lineOpen := true,
      pipeline.pixelIndex := if index < 2047 then index + 1 else 2047,
      pipeline.clipInProgress := addClips s.pipeline.clipInProgress out.2,
      pipeline.port := s.pipeline.port ++ [out.1] }

/-- LINE_END (R70): the line in progress ends. -/
def execLineEnd (s : State) : Answers := .next { s with pipeline.lineOpen := false }

end Sys2Proof.Machine
end

