-- ==== Sys2Proof/Machine/Punch.lean ====
section
/-! DEFINITION. Arming and aborting a punch (R154, R155): PUNCH_ARM, PUNCH_ABORT. -/

namespace Sys2Proof.Machine

/-- The checks of a PUNCH_ARM, in their order (R154). -/
def armResult (inFrame outFrame : Nat) (align : Bool) (s : State) : ReplyResult :=
  if maxFrame < inFrame ∨ maxFrame < outFrame ∨ outFrame < inFrame ∨ (align ∧ s.config.cadenceMode = .unity) then .badField
  else if s.gate.punch.state = .recording then .busy
  else .ok

/-- An accepted PUNCH_ARM: the stamps and the marks keep their values (R154). -/
def armPunch (inFrame outFrame : Nat) (align : Bool) (s : State) : State :=
  { s with
    gate.punch := { s.gate.punch with inFrame := inFrame, outFrame := outFrame, align := align, state := .armed },
    gate.target := if align then none else some inFrame,
    gate.lastEval := none }

/-- PUNCH_ARM (R154). -/
def execPunchArm (s : State) : Answers :=
  match inHand .punchArm s with
  | none => .next s
  | some m =>
    let i := u24 m.payload 0
    let o := u24 m.payload 3
    let align := bitAt m.payload 6 0
    let r := armResult i o align s
    .next (endPlain m r .plain (if r = .ok then armPunch i o align s else s))

/-- What a PUNCH_ABORT does to the punch (R155): ARMED is cancelled, RECORDING is aborted (R161). -/
def cancelPunch (s : State) : State :=
  match s.gate.punch.state with
  | .armed =>
    { s with gate.punch := { s.gate.punch with state := .idle }, gate.target := none, gate.lastEval := none }
  | .recording => abortPunch s
  | .idle | .done | .missed | .aborted => s

/-- PUNCH_ABORT (R155): its result is OK in every state. -/
def execPunchAbort (s : State) : Answers :=
  match inHand .punchAbort s with
  | none => .next s
  | some m => .next (endPlain m .ok .plain (cancelPunch s))

end Sys2Proof.Machine
end

