-- ==== Sys2Proof/Machine/Queries.lean ====
section
/-! DEFINITION. The queries, the settings and the partner check (06_station_messages.md): QUERY_STATUS, QUERY_SCENE,
QUERY_PUNCH, QUERY_FETCH, QUERY_CAPTURE, CLEAR, SET_MODE, PARTNER_CHECK. -/

namespace Sys2Proof.Machine

/-! ## Queries (R121 to R125) -/

/-- The QUERY in hand of a topic that is read without the store (R121). -/
def queryOf (topic : Nat) (s : State) : Option Message :=
  match inHand .query s with
  | none => none
  | some m => if u8 m.payload 0 = topic then some m else none

/-- A QUERY answered with OK: the topic, then the answer (R121, R195). -/
def answerQuery (m : Message) (a : Answer) (s : State) : State := endPlain m .ok (.query (m.payload.getD 0 0) a) s

/-- QUERY_STATUS (R122): topic 0. -/
def execQueryStatus (s : State) : Answers :=
  match queryOf 0 s with
  | none => .next s
  | some m => .next (answerQuery m (.status s.summary) s)

/-- QUERY_PUNCH (R124): topic 2. The unread mark is cleared where the REPLY joins the transmit queue. -/
def execQueryPunch (s : State) : Answers :=
  match queryOf 2 s with
  | none => .next s
  | some m =>
    let r := sendReply m .ok (.query (m.payload.getD 0 0) (.punch s.gate.punch)) s
    .next (handlerIdle (if r.2 then { r.1 with gate.punch := { r.1.gate.punch with unread := false } } else r.1))

/-- QUERY_FETCH (R125): topic 3. -/
def execQueryFetch (s : State) : Answers :=
  match queryOf 3 s with
  | none => .next s
  | some m => .next (answerQuery m (.fetch s.requester) s)

/-- What QUERY CAPTURE answers (R125, R172). -/
def State.captures (s : State) : CaptureAnswer :=
  ⟨s.events.capture, s.events.corrected, s.events.damaged, s.cue.capture, s.cue.kindFlags⟩

/-- QUERY_CAPTURE (R125): topic 4. -/
def execQueryCapture (s : State) : Answers :=
  match queryOf 4 s with
  | none => .next s
  | some m => .next (answerQuery m (.capture s.captures) s)

/-- What a QUERY SCENE comes to at the store (R123): the state, the result, the answer, and whether the list changed. -/
structure SceneAnswer where
  state   : State
  result  : ReplyResult
  answer  : Answer
  changed : Bool

/-- The reading of a QUERY SCENE at frame `f`: the governing record of `f` (R123, R168). R23 says instead that the handler
uses the record at a start for QUERY SCENE; R123 is followed (DEDUCED, notes/assumptions/34.md). -/
def queryScene (chk : Checks) (f : Nat) (s : State) : SceneAnswer :=
  let x := examineStore (fun n => decide (f < n)) chk s
  match governing f x.1.store.index with
  | none => ⟨x.1, .noScene, .nothing, x.2⟩
  | some e =>
    let r := readBody .edit chk e x.1
    ⟨r.state, .ok, .scene (e.record r.view), x.2 || r.changed⟩

/-- QUERY_SCENE (R123): topic 1, at the grant of the store. -/
def execQueryScene (chk : Checks) (s : State) : Answers :=
  match atStore .query s with
  | none => .next s
  | some m =>
    let a := queryScene chk (u24 m.payload 1) s
    .next (handlerIdle
      (sendReply m a.result (.query (m.payload.getD 0 0) a.answer) (releaseSignal a.changed a.state)).1)

/-! ## CLEAR (R126) -/

/-- The mask of fifteen event flags in the 2-byte field at byte `i` (R190). -/
def maskAt (p : List Byte) (i : Nat) : BitVec 15 := BitVec.ofNat 15 (u16 p i)

/-- Steps 1 and 2: the flags of the mask are cleared, and where LINE_ERROR is cleared so are the kind flags (R101). -/
def clearFlags (mask : BitVec 15) (s : State) : State :=
  { s with
    events.flags := s.events.flags &&& ~~~mask,
    cue.kindFlags :=
      if EventFlag.lineError.isIn mask && EventFlag.lineError.isIn s.events.flags then 0 else s.cue.kindFlags }

/-- Steps 3 and 4: the capture records selected are emptied (R100, R172). -/
def clearCaptures (store line : Bool) (s : State) : State :=
  { s with
    events.capture := if store then ⟨.empty, false⟩ else s.events.capture,
    cue.capture := if line then ⟨none, false⟩ else s.cue.capture }

/-- CLEAR (R126). -/
def execClear (s : State) : Answers :=
  match inHand .clear s with
  | none => .next s
  | some m =>
    let p := m.payload
    .next (endPlain m .ok .plain (clearCaptures (bitAt p 2 0) (bitAt p 2 1) (clearFlags (maskAt p 0) s)))

/-! ## SET_MODE (R128, R129) -/

/-- The mode setting a SET_MODE carries: the split position clamped to 2,047 (R128). -/
def splitSetting (compare : CompareMode) (split : Nat) : ModeSetting := ⟨compare, if 2047 < split then 2047 else split⟩

/-- The compare mode and split position written: a change triggers a resolution (R60, R129). -/
def writeMode (mode : ModeSetting) (s : State) : State :=
  triggerIf (decide (mode ≠ s.resolver.mode)) { s with resolver.mode := mode }

/-- status_enable written: turned on from off it starts the countdown from the full interval; turned off the countdown
stands (R129, R178). -/
def writeStatusEnable (on : Bool) (s : State) : State :=
  if on && !s.events.statusEnable then
    { s with
      events.statusEnable := true, events.statusCountdown := 16 * s.config.statusInterval }
  else { s with events.statusEnable := on }

/-- The four settings written (R129). -/
def writeSettings (mode : ModeSetting) (mask : BitVec 15) (on : Bool) (s : State) : State :=
  let t := writeMode mode s
  writeStatusEnable on { t with events.enable := mask }

/-- SET_MODE (R128): a compare mode outside the three refuses it, and nothing is written. -/
def execSetMode (s : State) : Answers :=
  match inHand .setMode s with
  | none => .next s
  | some m =>
    let p := m.payload
    match compareOf (u8 p 0) with
    | none => .next (endPlain m .badField .plain s)
    | some c => .next (endPlain m .ok .plain (writeSettings (splitSetting c (u16 p 1)) (maskAt p 3) (bitAt p 5 0) s))

/-! ## The partner check (R133, R134) -/

/-- A mismatch: PARTNER_MISMATCH, and where it is configured and no fetch is in flight a fetch of the full range from
the partner (R134, R138). -/
def partnerMismatch (partner : Byte) (s : State) : State :=
  let t := raise .partnerMismatch s
  if t.config.autoFetchMismatch && !t.requester.fetching then startFetch partner 0 maxFrame t else t

/-- PARTNER_CHECK (R134): at the grant, the start carried against the part's own governing start of the frame. No REPLY
is sent. -/
def execPartnerCheck (chk : Checks) (s : State) : Answers :=
  match atStore .sceneEntered s with
  | none => .next s
  | some m =>
    let f := u24 m.payload 0
    let x := examineStore (fun n => decide (f < n)) chk s
    let t := releaseSignal x.2 x.1
    .next (handlerIdle
      (if (governing f x.1.store.index).map Entry.start = optFrame (u24 m.payload 3) then t
       else partnerMismatch m.source t))

end Sys2Proof.Machine
end

