-- ==== Sys2Proof/Machine/Resets.lean ====
section
/-! DEFINITION. The line resets (R131, R132): RESET_SOFT, RESET_LIST, and what a line reset does in each block. -/

namespace Sys2Proof.Machine

/-! ## Block by block -/

/-- Position and Cadence Unit: the state of a power-on reset, the loss timer restarts and a loss ends (R18). -/
def resetPosition (s : State) : State := { s with pcu := { Pcu.reset with refTimerRunning := true } }

/-- Grade Resolver: last scene none, hold-back emptied, late counter 0, mode OFF; a resolution in flight goes on (R69). -/
def Resolver.lineReset (r : Resolver) : Resolver :=
  { r with lastScene := none, slot := none, countdown := 0, late := 0, mode := ModeSetting.off }

/-- Correction Pipeline: the clip counts become 0 (R92). -/
def Pipeline.lineReset (p : Pipeline) : Pipeline := { p with clipInProgress := 0, clipLast := 0 }

/-- The transmitter: a message in an attempt is stopped after its character, one that waits leaves at once (R112). -/
def Transmitter.stopped : Transmitter → Transmitter
  | .empty => .empty
  | .waiting _ _ => .empty
  | .sending _ _ => .stopping
  | .stopping => .stopping

/-- Cue Line Controller: both queues emptied, the transmitter stopped, kind flags, counters and yield mark cleared; the
receiver, the line capture and the idle measure go on (R112). -/
def CueLine.lineReset (c : CueLine) : CueLine :=
  { c with
    inbound := [], txq := [], tx := c.tx.stopped, kindFlags := 0, lineErrors := 0, rxDrops := 0, txAbandons := 0,
    yieldMark := false }

/-- The requester: a fetch in flight ends with ABORTED and its record is kept; the tag is kept (R147). -/
def Requester.lineReset (r : Requester) : Requester :=
  if r.fetching then { r with fetching := false, gapTimer := false, result := .aborted } else r

/-- The responder: the stream ends, its cursor none; the stream of a step in progress is kept for the step to complete
(R152). -/
def Responder.lineReset (atStore : Bool) (r : Responder) : Responder :=
  { r with
    streaming := false,
    stream := { r.stream with cursor := none },
    unfinished :=
      match r.unfinished with
      | some c => some c
      | none => if atStore && r.streaming then some r.stream else none }

/-- Event Unit: flags and counters cleared, the mask and status_enable as configured, the countdown restarted if it is
on; the store capture is kept (R136, R178, R180). -/
def Events.lineReset (c : Config) (e : Events) : Events :=
  let on := decide (0 < c.statusInterval)
  { e with
    flags := 0, corrected := 0, damaged := 0, enable := c.enableMask, statusEnable := on,
    statusCountdown := if on then 16 * c.statusInterval else e.statusCountdown }

/-- The effects of a SOFT line reset on every block (R131): a waiting request of the responder is withdrawn (R45, R152),
the ignored counter becomes 0 (R136), the punch and the cue outputs are as after a power-on reset (R167). -/
def lineReset (s : State) : State :=
  { resetPosition s with
    arbiter.responderWaits := false,
    resolver := s.resolver.lineReset,
    pipeline := s.pipeline.lineReset,
    cue := s.cue.lineReset,
    handler.ignored := 0,
    requester := s.requester.lineReset,
    responder := s.responder.lineReset (decide (s.arbiter.holder = some .responder)),
    gate := GateUnit.reset,
    events := s.events.lineReset s.config }

/-! ## The steps -/

/-- RESET_SOFT (R131): the effects on every block, the trigger of R69, then the REPLY. -/
def execResetSoft (s : State) : Answers :=
  match inHand .reset s with
  | none => .next s
  | some m => .next (endPlain m .ok .plain (trigger (lineReset s)))

/-- RESET_LIST (R132, R46): at the grant, the SOFT effects and the emptying of the store together; the release is the
trigger, then the REPLY. -/
def execResetList (s : State) : Answers :=
  match atStore .reset s with
  | none => .next s
  | some m => .next (endPlain m .ok .plain (releaseSignal true { lineReset s with store := Store.empty }))

end Sys2Proof.Machine
end

