-- ==== Sys2Proof/Machine/Resolution.lean ====
section
/-! DEFINITION. The run of a resolution (03_grade_resolution_and_transitions.md): RESOLUTION_READ, FILLING_COMPLETE. -/

namespace Sys2Proof.Machine

/-- The mix weight of frame offset `j` in a transition of length `len` (R49). -/
def mixWeight (len j : Nat) : Nat := (j + 1) * 256 / (len + 1)

/-- The walk back through records, nearest first, to the first body that is graded and not damaged; the base grade
where there is none (R47, R48). -/
def walkBack (chk : Checks) : List Entry → State → State × Grade
  | [], s => (s, s.config.baseGrade)
  | e :: es, s =>
    let r := readBody .resolve chk e s
    match r.view.body.grade with
    | some g => (r.state, g)
    | none => walkBack chk es r.state

/-- One before the start of the next record, or the last frame of the reel where there is none (R54). -/
def spanEnd : Option Entry → Nat
  | none => maxFrame
  | some e => e.start - 1

/-- What the resolver reads for the frame and mode it took at the grant, from the index as its lookups leave it
(R47 to R54, R57). -/
def readGrade (chk : Checks) (l : Latch) (s : State) : State × Reading :=
  let next := nextAfter l.frame s.store.index
  match backFrom l.frame s.store.index with
  | [] => (s, ⟨l.frame, l.mode, 256, s.config.baseGrade, none, true, { SceneDesc.none with spanLast := spanEnd next }⟩)
  | g :: back =>
    let r := readBody .resolve chk g s
    let scene : SceneDesc := ⟨some g.start, r.view.body.sceneId, if r.view.damaged then 0 else g.revision,
      r.view.body.omitted, r.view.damaged, g.start, spanEnd next⟩
    match r.view.body.grade with
    | none =>
      let w := walkBack chk back r.state
      (w.1, ⟨l.frame, l.mode, 256, w.2, none, true, scene⟩)
    | some grade =>
      let len := r.view.body.transitionLen
      let j := l.frame - g.start
      if 1 ≤ len ∧ j < len then
        let w := walkBack chk back r.state
        (w.1, ⟨l.frame, l.mode, mixWeight len j, grade, some w.2, false, scene⟩)
      else (r.state, ⟨l.frame, l.mode, 256, grade, none, false, scene⟩)

/-- The reading of one resolution, then its filling begins and the store is released (R57, R58). A step of the resolver
triggers nothing (R55). -/
def resolve (chk : Checks) (l : Latch) (s : State) : State :=
  let s := (examineStore (fun x => decide (l.frame < x)) chk s).1
  let r := readGrade chk l s
  release { r.1 with pipeline.pendingBank := .filling r.2, resolver.latch := none }

/-- RESOLUTION_READ (R57): takes place where the resolver holds the store. -/
def execResolutionRead (chk : Checks) (s : State) : Answers :=
  match s.arbiter.holder, s.resolver.latch with
  | some .resolver, some l => .next (resolve chk l s)
  | _, _ => .next s

/-! ## The filling -/

/-- A blended value (R52). -/
def blend (w : Nat) (a b : Int) : Int := a + ((b - a) * w + 128) / 256

def Rgb.blend (w : Nat) (a b : Rgb) : Rgb := ⟨Machine.blend w a.r b.r, Machine.blend w a.g b.g, Machine.blend w a.b b.b⟩

/-- The bank a reading fills (R52 to R54): blended towards the to-grade where a transition applies, holding both curves
where they differ; unblended where none applies. -/
def fillBank (r : Reading) : Bank :=
  match r.fromGrade with
  | none => Bank.ofGrade r.toGrade r.frame r.inherited r.mode r.scene
  | some f =>
    ⟨r.frame, r.w, Rgb.blend r.w f.black r.toGrade.black, Rgb.blend r.w f.gain r.toGrade.gain,
      Rgb.blend r.w f.lift r.toGrade.lift, blend r.w f.sat r.toGrade.sat, r.toGrade.curve,
      if f.curve = r.toGrade.curve then none else some f.curve, r.inherited, r.mode, r.scene⟩

/-- FILLING_COMPLETE (R58): the bank is READY, the resolution completes, and a rerun asked for starts at once. -/
def execFillingComplete (s : State) : Answers :=
  match s.pipeline.pendingBank with
  | .filling r =>
    let t := { s with pipeline.pendingBank := .ready (fillBank r), resolver.inFlight := false, resolver.rerun := false }
    .next (triggerIf s.resolver.rerun t)
  | .empty | .ready _ => .next s

end Sys2Proof.Machine
end

