-- ==== Sys2Proof/Machine/Startup.lean ====
section
/-! DEFINITION. Start-up (10_configuration_and_start_up.md, R198, R199): POWER_ON_RESET, LEAVE_RESET, BOOT_READ_END with
the boot image, JOINING_QUIET_EXPIRY. -/

namespace Sys2Proof.Machine

/-! ## Reset -/

/-- POWER_ON_RESET (R185): every block takes its power-on state, and the configuration in force is discarded. -/
def execPowerOnReset (s : State) : Answers := .next { State.reset with pending := s.pending }

/-- LEAVE_RESET (R185): the address is sampled (R181), the part enters LOADING, and the loss timer starts (R16). -/
def execLeaveReset (straps : BitVec 6) (s : State) : Answers :=
  if s.part = .reset then .next { s with part := .loading, address := straps, pcu.refTimerRunning := true } else .next s

/-! ## The boot image (R182, R183, R198, R199) -/

/-- The configuration marker. -/
def bootMarker : List Byte := [0x47, 0x33]

/-- The limits of the length of the body (R199). -/
def lengthOk (n : Nat) : Bool := decide (104 ≤ n) && decide (n ≤ 272)

/-- The bit rate codes. -/
def bitRateOf : Nat → Option BitRate
  | 0 => some .kbit250
  | 1 => some .kbit500
  | 2 => some .mbit1
  | _ => none

def cadenceModeOf : Nat → Option CadenceMode
  | 0 => some .unity
  | 1 => some .pulldown
  | _ => none

def legalRangeOf : Nat → Option LegalRange
  | 0 => some .narrow
  | 1 => some .full
  | _ => none

def tallyModeOf : Nat → Option TallyMode
  | 0 => some .off
  | 1 => some .pulse
  | 2 => some .toggle
  | _ => none

def amarkModeOf : Nat → Option AmarkMode
  | 0 => some .off
  | 1 => some .phase0
  | _ => none

/-- A report address: a station or group code, 0xFF, or 0x80 for none; another value is a fault (R183). -/
def reportOf (b : Byte) : Option (Option Byte) :=
  if b = 0x80 then some none else if b.toNat ≤ 0x7F ∨ b = 0xFF then some (some b) else none

/-- A partner, transport or recorder address: a station, or 0xFF for none; the part's own address is taken as none;
another value is a fault (R183). -/
def stationOf (own : Byte) (b : Byte) : Option (Option Byte) :=
  if b = 0xFF then some none
  else if b.toNat ≤ 63 then some (if b = own then none else some b)
  else none

/-- The base grade at byte 16, clamped; a curve index above 7 is a fault (R183, R198). -/
def baseGradeOf (p : List Byte) : Option Grade :=
  if u8 p 36 ≤ 7 then
    some ⟨(rgbAt p 16).clamped 0 1023, (rgbAt p 22).clamped 0 4095, (srgbAt p 28).clamped (-256) 255,
      clamp 0 2047 (u16 p 34), .preset (u8 p 36)⟩
  else none

/-- `n` presets from byte `i` on, each a count byte and its knots, with the byte after the last; a knot list with a
fault is a fault, and y values are clamped (R183, R198, R199). -/
def presetsAt (p : List Byte) (i : Nat) : Nat → Option (List (List Knot) × Nat)
  | 0 => some ([], i)
  | n + 1 =>
    if knotsFault (knotsAt p (i + 1) (u8 p i)) then none
    else
      match presetsAt p (i + 1 + 3 * u8 p i) n with
      | none => none
      | some r => some ((knotsAt p (i + 1) (u8 p i)).map clampKnot :: r.1, r.2)

/-- The presets of a body: eight of them, whose total size is the length less 48 (R199). -/
def bodyPresets (p : List Byte) : Option (List (List Knot)) :=
  match presetsAt p 48 8 with
  | none => none
  | some r => if r.2 = p.length then some r.1 else none

/-- TALLY length clamped to 1 to 15 (R183). -/
def tallyLengthOf (n : Nat) : Nat := if n < 1 then 1 else if 15 < n then 15 else n

/-- The number of a field of several bytes, most significant first. -/
def beNat (p : List Byte) : Nat := p.foldl (fun n b => n * 256 + b.toNat) 0

/-- The configuration of a body, none where it holds a structural fault (R183, R198). -/
def configOf (own : Byte) (p : List Byte) : Option Config := do
  let report ← reportOf (p.getD 9 0)
  let partner ← stationOf own (p.getD 10 0)
  let transport ← stationOf own (p.getD 11 0)
  let recorder ← stationOf own (p.getD 12 0)
  let bitRate ← bitRateOf (u8 p 13)
  let cadenceMode ← cadenceModeOf (u8 p 14)
  let legalRange ← legalRangeOf (u8 p 15)
  let baseGrade ← baseGradeOf p
  let tallyMode ← tallyModeOf (u8 p 43)
  let amarkMode ← amarkModeOf (u8 p 45)
  let presets ← bodyPresets p
  pure {
    groups := BitVec.ofNat 64 (beNat (p.take 8))
    broadcast := bitAt p 8 0
    report := report
    partner := partner
    transport := transport
    recorder := recorder
    bitRate := bitRate
    cadenceMode := cadenceMode
    legalRange := legalRange
    baseGrade := baseGrade
    presets := presets
    enableMask := BitVec.ofNat 15 (u16 p 37)
    faultMask := BitVec.ofNat 15 (u16 p 39)
    statusInterval := u8 p 41
    holdback := if 7 < u8 p 42 then 7 else u8 p 42
    tallyMode := tallyMode
    tallyLength := tallyLengthOf (u8 p 44)
    amarkMode := amarkMode
    invertGate := bitAt p 46 0
    invertTally := bitAt p 46 1
    invertAmark := bitAt p 46 2
    autoFetchStart := bitAt p 47 0
    autoFetchMismatch := bitAt p 47 1 }

/-- The image a boot store gave, checked in the order of R182: marker, length, CRC over length and body, contents. None
at the first failure. -/
def readImage (own : Byte) (image : List Byte) : Option Config :=
  let n := u16 image 2
  let body := (image.drop 4).take n
  if image.take 2 ≠ bootMarker then none
  else if !lengthOk n then none
  else if image.length < 6 + n then none
  else if (crc ((image.drop 2).take (2 + n))).toNat ≠ u16 image (4 + n) then none
  else configOf own body

/-! ## The entry to JOINING -/

/-- The configuration comes into force, with where it came from (R182). -/
def takeConfig (image : List Byte) (s : State) : State :=
  match readImage s.station image with
  | none => { s with config := Config.default, configSource := .defaults }
  | some c => { s with config := c, configSource := .boot }

/-- The entry to JOINING (R187): the masks and the countdown (R136, R178, R180), the base grade as the active bank
(R67), the idle measure from 0 (R108), and the first resolution triggered. -/
def enterJoining (s : State) : State :=
  let on := decide (0 < s.config.statusInterval)
  trigger { s with
    part := .joining,
    events.enable := s.config.enableMask,
    events.statusEnable := on,
    events.statusCountdown := if on then 16 * s.config.statusInterval else s.events.statusCountdown,
    pipeline.active := Bank.ofGrade s.config.baseGrade s.pcu.gateFrame true ModeSetting.off SceneDesc.none,
    pipeline.pendingBank := .empty,
    cue.rx := .idle,
    cue.idle := ⟨true, 0⟩ }

/-- BOOT_READ_END (R182). -/
def execBootReadEnd (image : List Byte) (s : State) : Answers :=
  if s.part = .loading then .next (enterJoining (takeConfig image s)) else .next s

/-! ## The entry to RUNNING -/

/-- 20 ms of quiet line in bit times (R188). -/
def BitRate.quietBits : BitRate → Nat
  | .kbit250 => 5000
  | .kbit500 => 10000
  | .mbit1 => 20000

/-- Auto-fetch at start: of the full range from the partner, where both are configured and no fetch stands for it
(R189). -/
def autoFetch (s : State) : State :=
  match s.partner with
  | none => s
  | some p => if s.config.autoFetchStart && !s.requester.fetching then startFetch p 0 maxFrame s else s

/-- JOINING_QUIET_EXPIRY (R188, R189): the idle measure reaches 20 ms and the part enters RUNNING. -/
def execJoiningQuietExpiry (waited : Nat) (s : State) : Answers :=
  if decide (s.part = .joining) && s.cue.idle.running
      && decide (s.config.bitRate.quietBits ≤ s.cue.idle.bits + waited) then
    .next (autoFetch { s with
      part := .running, cue.receiverOn := true, cue.idle := ⟨true, s.cue.idle.bits + waited⟩, cue.yieldMark := false })
  else .next s

end Sys2Proof.Machine
end

