-- ==== Sys2Proof/Machine/Dispatch.lean ====
section
/-! DEFINITION. The step each command is: one arm per constructor of `Instr`, in the order of spec/opcode_table.json. -/

namespace Sys2Proof.Machine

def exec (i : Instr) (s : State) : Host.Outcome State Fault Refusal :=
  match i with
  | .powerOnReset => Sys2Proof.Machine.execPowerOnReset s
  | .leaveReset straps => Sys2Proof.Machine.execLeaveReset straps s
  | .bootReadEnd image => Sys2Proof.Machine.execBootReadEnd image s
  | .receiverStart waited => Sys2Proof.Machine.execReceiverStart waited s
  | .joiningQuietExpiry waited => Sys2Proof.Machine.execJoiningQuietExpiry waited s
  | .frmPulse dirHigh => Sys2Proof.Machine.execFrmPulse dirHigh s
  | .fieldStart chk => Sys2Proof.Machine.execFieldStart chk s
  | .tallyPulseEnd => Sys2Proof.Machine.execTallyPulseEnd s
  | .holdbackExpiry => Sys2Proof.Machine.execHoldbackExpiry s
  | .statusCountdownExpiry => Sys2Proof.Machine.execStatusCountdownExpiry s
  | .refLossExpiry => Sys2Proof.Machine.execRefLossExpiry s
  | .pixel r g b => Sys2Proof.Machine.execPixel r g b s
  | .lineEnd => Sys2Proof.Machine.execLineEnd s
  | .receiveError c => Sys2Proof.Machine.execReceiveError c s
  | .gapExpiry waited => Sys2Proof.Machine.execGapExpiry waited s
  | .messageAccepted c => Sys2Proof.Machine.execMessageAccepted c s
  | .position => Sys2Proof.Machine.execPosition s
  | .mhTake => Sys2Proof.Machine.execMhTake s
  | .unknownKind => Sys2Proof.Machine.execUnknownKind s
  | .sceneSet chk => Sys2Proof.Machine.execSceneSet chk s
  | .gradeSet chk => Sys2Proof.Machine.execGradeSet chk s
  | .sceneMove chk => Sys2Proof.Machine.execSceneMove chk s
  | .sceneDelete chk => Sys2Proof.Machine.execSceneDelete chk s
  | .rangeTrim => Sys2Proof.Machine.execRangeTrim s
  | .trimStep chk => Sys2Proof.Machine.execTrimStep chk s
  | .listClear chk => Sys2Proof.Machine.execListClear chk s
  | .queryStatus => Sys2Proof.Machine.execQueryStatus s
  | .queryScene chk => Sys2Proof.Machine.execQueryScene chk s
  | .queryPunch => Sys2Proof.Machine.execQueryPunch s
  | .queryFetch => Sys2Proof.Machine.execQueryFetch s
  | .queryCapture => Sys2Proof.Machine.execQueryCapture s
  | .clear => Sys2Proof.Machine.execClear s
  | .setMode => Sys2Proof.Machine.execSetMode s
  | .resetSoft => Sys2Proof.Machine.execResetSoft s
  | .resetList => Sys2Proof.Machine.execResetList s
  | .punchArm => Sys2Proof.Machine.execPunchArm s
  | .punchAbort => Sys2Proof.Machine.execPunchAbort s
  | .partnerCheck chk => Sys2Proof.Machine.execPartnerCheck chk s
  | .fetchFrom => Sys2Proof.Machine.execFetchFrom s
  | .listQuery => Sys2Proof.Machine.execListQuery s
  | .responderStep chk => Sys2Proof.Machine.execResponderStep chk s
  | .listRec => Sys2Proof.Machine.execListRec s
  | .merge chk => Sys2Proof.Machine.execMerge chk s
  | .listEnd => Sys2Proof.Machine.execListEnd s
  | .gapTimerExpiry => Sys2Proof.Machine.execGapTimerExpiry s
  | .resolutionRead chk => Sys2Proof.Machine.execResolutionRead chk s
  | .fillingComplete => Sys2Proof.Machine.execFillingComplete s
  | .attemptStart waited => Sys2Proof.Machine.execAttemptStart waited s
  | .attemptComplete => Sys2Proof.Machine.execAttemptComplete s
  | .collision => Sys2Proof.Machine.execCollision s
  | .characterTaken c => Sys2Proof.Machine.execCharacterTaken c s
  | .lineStartBit => Sys2Proof.Machine.execLineStartBit s
  | .stoppedCharacterEnd => Sys2Proof.Machine.execStoppedCharacterEnd s

end Sys2Proof.Machine
end

