-- ==== Sys2Proof/Machine/Pins.lean ====
section
/-! DEFINITION. What the part's output pins show (00_scope.md, Pins; R166, R179, R185), as functions of the state: GATE,
TALLY, AMARK, CUE_TXEN and what an attempt sends, BOOT_CS_N, FLT_N. What left PIC_R, PIC_G and PIC_B stands in
`pipeline.port`. -/

namespace Sys2Proof.Machine

/-- The level of a cue output: none where the line is not driven (R166). -/
def outputLevel (s : State) (inverted active : Bool) : Option Bool :=
  if s.up then some (active != inverted) else none

/-- GATE: none undriven, true high. -/
def State.gatePin (s : State) : Option Bool := outputLevel s s.config.invertGate s.gate.gate

/-- TALLY. -/
def State.tallyPin (s : State) : Option Bool := outputLevel s s.config.invertTally s.gate.tally

/-- AMARK. -/
def State.amarkPin (s : State) : Option Bool := outputLevel s s.config.invertAmark s.gate.amark

/-- CUE_TXEN is active: an attempt, or the last character of a stopped message (R109, R112). -/
def State.txEnable (s : State) : Bool :=
  match s.cue.tx with
  | .sending _ _ => true
  | .stopping => true
  | .empty => false
  | .waiting _ _ => false

/-- The bits an attempt sends on CUE_TXD, each character of the message in turn (R93, R109). -/
def State.txBits (s : State) : List Bool :=
  match s.cue.tx with
  | .sending m _ => (frameOf s.station m).flatMap (fun c => charBits c.1 c.2)
  | .empty | .waiting _ _ | .stopping => []

/-- BOOT_CS_N is active (low): a boot read is under way, from the entry to LOADING to its end (R182, R185). -/
def State.bootSelected (s : State) : Bool := decide (s.part = .loading)

/-- FLT_N: true where the pin is low (active), R179. -/
def State.faultPin (s : State) : Bool := s.faultActive

end Sys2Proof.Machine
end

