-- ==== Sys2Proof/Safety.lean ====
section
/-! DEFINITION. What a sound state of the part is: the ranges and the relations the spec gives its state, block by
block. Each is decidable on a state. -/

namespace Sys2Proof.Machine

/-! ## Grades and the scene list (R19 to R22, R26, R173) -/

/-- Each channel within a range. -/
abbrev Rgb.within (lo hi : Int) (v : Rgb) : Prop :=
  (lo ≤ v.r ∧ v.r ≤ hi) ∧ (lo ≤ v.g ∧ v.g ≤ hi) ∧ (lo ≤ v.b ∧ v.b ≤ hi)

/-- A knot list as the store and the configuration hold it: 2 to 9 knots, x ascending and at most 4,095, y at most
1,023. -/
abbrev knotsOk (ks : List Knot) : Prop := knotsFault ks = false ∧ ∀ k ∈ ks, k.y ≤ 1023

/-- The knots of a curve's own. -/
def Curve.ownKnots : Curve → List Knot
  | .preset _ => []
  | .knots ks => ks

/-- A curve as the store, the banks and the configuration hold it. -/
abbrev Curve.ok (c : Curve) : Prop := c.fault = false ∧ ∀ k ∈ c.ownKnots, k.y ≤ 1023

/-- A grade with every value in its range (R19). -/
abbrev Grade.ok (g : Grade) : Prop :=
  g.black.within 0 1023 ∧ g.gain.within 0 4095 ∧ g.lift.within (-256) 255 ∧ (0 ≤ g.sat ∧ g.sat ≤ 2047) ∧ g.curve.ok

/-- A record body with every value in its range (R20). -/
abbrev Body.ok (b : Body) : Prop :=
  b.sceneId ≤ 65535 ∧ b.transitionLen ≤ 63 ∧ ∀ g ∈ b.grade, g.ok

/-- An index entry with its body: the knot count is that of the body (R19, R22). -/
abbrev Entry.ok (e : Entry) : Prop :=
  e.start ≤ maxFrame ∧ e.revision ≤ 255 ∧ e.knotCount = e.body.knotCount ∧ e.body.ok

/-- The sound entries. -/
def soundEntries (idx : List Entry) : List Entry := idx.filter (fun e => !e.faulty)

/-- The scene list in its form: at most 1,024 records, sound entries strictly ascending by start (R21), knots held and
knots free the whole pool (R22), frozen exactly while an entry is faulty (R173, R174), the cursor a frame (R43). -/
abbrev Store.ok (st : Store) : Prop :=
  st.index.length ≤ listLimit ∧ (∀ e ∈ st.index, e.ok)
    ∧ (soundEntries st.index).Pairwise (fun a b => a.start < b.start)
    ∧ heldKnots st.index + st.freeKnots = poolSize ∧ st.frozen = st.index.any Entry.faulty
    ∧ st.scrubCursor ≤ maxFrame

/-! ## The configuration (R183, R184) -/

/-- A configuration in its ranges. -/
abbrev Config.ok (c : Config) : Prop :=
  c.baseGrade.ok ∧ c.presets.length = 8 ∧ (∀ ks ∈ c.presets, knotsOk ks) ∧ c.statusInterval ≤ 255 ∧ c.holdback ≤ 7
    ∧ (1 ≤ c.tallyLength ∧ c.tallyLength ≤ 15)

/-! ## Film position and cadence (R2, R3, R12, R13) -/

/-- Cadence as R12 and R13 leave it: FREE exactly where the class is not SOUND; FREE holds no phase; in UNITY no phase
is held; LOCKED in PULLDOWN holds one. -/
abbrev cadenceOk (mode : CadenceMode) (speed : SpeedClass) (st : CadenceState) (p : Option (BitVec 2)) : Prop :=
  (st = .free ↔ speed ≠ .sound) ∧ (st = .free → p = none) ∧ (mode = .unity → p = none)
    ∧ (st = .locked → mode = .pulldown → p ≠ none)

/-- The Position and Cadence Unit in its ranges, live values and snapshot. -/
abbrev Pcu.ok (mode : CadenceMode) (p : Pcu) : Prop :=
  p.gateFrame ≤ maxFrame ∧ p.snapshot.gateFrame ≤ maxFrame ∧ p.fieldsInFrame ≤ 15 ∧ p.snapshot.fieldIndex ≤ 15
    ∧ p.fieldParity = p.fieldCount.getLsbD 0
    ∧ (∀ h ∈ p.held, h.frame ≤ maxFrame)
    ∧ cadenceOk mode p.speedClass p.cadenceState p.cadencePhase
    ∧ cadenceOk mode p.snapshot.speedClass p.snapshot.cadenceState p.snapshot.cadencePhase

/-! ## The store arbiter and its clients (R41 to R43, R56 to R58, R149) -/

/-- A reading fills the pending bank. -/
def PendingBank.isFilling : PendingBank → Bool
  | .filling _ => true
  | .empty | .ready _ => false

/-- The message in hand is one at the store: waiting or granted, in a walk or a merge. -/
def HandlerState.usesStore : HandlerState → Bool
  | .idle => false
  | .executing _ .carry => false
  | .executing _ .store => true
  | .executing _ (.walk _) => true
  | .executing _ (.merging _) => true

/-- The message in hand is a walk between two of its steps (R37). -/
def HandlerState.betweenSteps : HandlerState → Bool
  | .idle => false
  | .executing _ .carry => false
  | .executing _ .store => false
  | .executing _ (.walk w) => w.cursor.isSome
  | .executing _ (.merging _) => false

/-- The arbiter and its clients: a free store has no waiting client and a holder does not wait (R41); the scrubber
holds the store only within a step (R43); the resolver reads, waits or fills exactly while a resolution is in flight,
one at a time (R56, R57, R58); the handler waits or holds exactly while its message is at the store, but for a walk
between two steps, which may leave the store free (R37); the responder's request is that of a stream. -/
abbrev State.arbiterOk (s : State) : Prop :=
  (s.arbiter.holder = none → s.arbiter.noneWaits = true)
    ∧ s.arbiter.holder ≠ some .scrubber
    ∧ s.resolver.inFlight =
        (s.arbiter.resolverWaits || decide (s.arbiter.holder = some .resolver) || s.pipeline.pendingBank.isFilling)
    ∧ (s.arbiter.resolverWaits = true → s.arbiter.holder ≠ some .resolver ∧ s.pipeline.pendingBank.isFilling = false)
    ∧ (s.arbiter.holder = some .resolver → s.pipeline.pendingBank.isFilling = false)
    ∧ s.resolver.latch.isSome = decide (s.arbiter.holder = some .resolver)
    ∧ (s.resolver.rerun = true → s.resolver.inFlight = true)
    ∧ (s.handler.state.betweenSteps = false →
        s.handler.state.usesStore = (s.arbiter.handlerWaits || decide (s.arbiter.holder = some .handler)))
    ∧ (s.arbiter.handlerWaits = true → s.arbiter.holder ≠ some .handler)
    ∧ (s.arbiter.responderWaits = true → s.arbiter.holder ≠ some .responder ∧ s.responder.streaming = true)
    ∧ (s.arbiter.holder = some .responder → s.responder.streaming = true ∨ s.responder.unfinished.isSome = true)
    ∧ (s.responder.unfinished.isSome = true → s.arbiter.holder = some .responder)
    ∧ (s.responder.placeHeld = true → s.arbiter.holder = some .responder)

/-! ## RESET and LOADING (R185, R186) -/

/-- Before JOINING every block but the Position and Cadence Unit and the picture path holds its power-on state, the
picture is black, and no POSITION has been taken. -/
abbrev State.quietOk (s : State) : Prop :=
  s.up = false →
    s.config = Config.default ∧ s.store = Store.empty ∧ s.arbiter = Arbiter.idle ∧ s.resolver = Resolver.reset
      ∧ s.pipeline.pendingBank = .empty ∧ s.pipeline.outputMode = .black ∧ s.cue = CueLine.reset
      ∧ s.handler = ⟨.idle, 0⟩ ∧ s.requester = Requester.reset ∧ s.responder = Responder.reset
      ∧ s.gate = GateUnit.reset ∧ s.events = Events.reset
      ∧ s.pcu.positionState = .unplaced ∧ s.pcu.speedClass = .still ∧ s.pcu.held = none
      ∧ s.pcu.cadenceState = .free ∧ s.pcu.cadencePhase = none
      ∧ s.pcu.snapshot.speedClass = .still ∧ s.pcu.snapshot.cadenceState = .free ∧ s.pcu.snapshot.cadencePhase = none

/-! ## The cue line (R96, R104, R105, R107, R110) -/

/-- The entries of one kind. -/
def kindCount (k : MsgKind) (q : List TxMsg) : Nat := (q.filter (fun m => m.content.kind = k)).length

/-- The message a receiver assembles. -/
def Receiver.assembly : Receiver → Option Assembly
  | .assembling a => some a
  | .idle | .discarding => none

/-- The failed attempts of the message in the transmitter. -/
def Transmitter.attempts : Transmitter → Nat
  | .waiting _ n => n
  | .sending _ n => n
  | .empty | .stopping => 0

/-- A message being assembled: within the length its fourth character gives (R96). -/
abbrev Assembly.ok (a : Assembly) : Prop :=
  1 ≤ a.chars.length ∧ (4 ≤ a.chars.length → u8 a.chars 3 ≤ 64 ∧ a.chars.length < 6 + u8 a.chars 3)

/-- The queues and the transmitter within their limits: 8 inbound messages of at most 64 payload bytes (R96, R104), five
shared places of which one may be held and four LIST_REC, one place for each reserved kind (R105, R107, R149), fewer
than eight failed attempts (R110). -/
abbrev State.queuesOk (s : State) : Prop :=
  s.cue.inbound.length ≤ inboundLimit ∧ (∀ m ∈ s.cue.inbound, m.payload.length ≤ 64)
    ∧ s.sharedTaken ≤ 5 ∧ listRecCount s.cue.txq + (if s.responder.placeHeld then 1 else 0) ≤ 4
    ∧ kindCount .sceneEntered s.cue.txq ≤ 1 ∧ kindCount .eventReport s.cue.txq ≤ 1 ∧ kindCount .status s.cue.txq ≤ 1
    ∧ (∀ a ∈ s.cue.rx.assembly, a.ok) ∧ s.cue.tx.attempts ≤ 7

/-! ## The gate (R154, R156, R157, R160) -/

/-- GATE is active only while RECORDING, a punch records only in RUNNING, its frames are in order within the reel, its
target lies from the in frame to three frames after it and, once fired, not above the out frame; and while GATE is active
the field's frame lies from the fired target to the out frame, and its scene is known and not omitted (R63, R160). -/
abbrev State.gateOk (s : State) : Prop :=
  (s.gate.gate = true → s.gate.punch.state = .recording)
    ∧ (s.gate.punch.state = .recording → s.part = .running ∧ s.gate.target.isSome = true)
    ∧ s.gate.punch.inFrame ≤ s.gate.punch.outFrame ∧ s.gate.punch.outFrame ≤ maxFrame
    ∧ (∀ t ∈ s.gate.target, s.gate.punch.inFrame ≤ t ∧ t ≤ s.gate.punch.inFrame + 3
        ∧ (s.gate.punch.state = .recording → t ≤ s.gate.punch.outFrame)
        ∧ (s.gate.gate = true → t ≤ s.pcu.snapshot.gateFrame ∧ s.pcu.snapshot.gateFrame ≤ s.gate.punch.outFrame))
    ∧ (s.gate.gate = true → s.pipeline.active.scene.omitted = false
        ∧ (s.pipeline.active.resolvedFrame = s.pcu.snapshot.gateFrame
          ∨ (s.pipeline.active.scene.spanFirst ≤ s.pcu.snapshot.gateFrame
            ∧ s.pcu.snapshot.gateFrame ≤ s.pipeline.active.scene.spanLast)))

/-! ## Counters -/

/-- Every saturating counter is at most 65,535 (R14, R62, R80, R101, R116, R141, R142, R169, R170). -/
abbrev State.countersOk (s : State) : Prop :=
  s.pcu.slips ≤ 65535 ∧ s.pcu.breaks ≤ 65535 ∧ s.resolver.late ≤ 65535 ∧ s.cue.lineErrors ≤ 65535
    ∧ s.cue.rxDrops ≤ 65535 ∧ s.cue.txAbandons ≤ 65535 ∧ s.handler.ignored ≤ 65535
    ∧ s.events.corrected ≤ 65535 ∧ s.events.damaged ≤ 65535
    ∧ s.requester.received ≤ 65535 ∧ s.requester.inserted ≤ 65535 ∧ s.requester.replaced ≤ 65535
    ∧ s.requester.keptLocal ≤ 65535 ∧ s.requester.refused ≤ 65535
    ∧ s.pipeline.clipInProgress ≤ 65535 ∧ s.pipeline.clipLast ≤ 65535 ∧ s.pipeline.pixelIndex ≤ 2047

/-- The countdowns within what the configuration sets them to (R65, R164, R178). -/
abbrev State.countdownsOk (s : State) : Prop :=
  s.resolver.countdown ≤ 7 ∧ s.gate.tallyCountdown ≤ 15 ∧ s.events.statusCountdown ≤ 4080

/-! ## The fetch status record (R141, R142, R146) -/

/-- The tag of the fetch a record in merge came with. -/
def HandlerState.mergeTag : HandlerState → Option (BitVec 8)
  | .executing _ (.merging tag) => some tag
  | .executing _ .carry => none
  | .executing _ .store => none
  | .executing _ (.walk _) => none
  | .idle => none

/-- received is inserted, replaced, kept_local and refused together, but for a record of the fetch whose merge is in
progress, and for a count that has stopped (R146). A merge in progress is of the last fetch, or of the one before it
where the auto-fetch at start came since. -/
abbrev State.fetchOk (s : State) : Prop :=
  (s.requester.received = 65535
      ∨ s.requester.inserted + s.requester.replaced + s.requester.keptLocal + s.requester.refused
          + (if s.handler.state.mergeTag = some s.requester.tag then 1 else 0) = s.requester.received)
    ∧ ∀ tag ∈ s.handler.state.mergeTag,
        tag = s.requester.tag ∨ (s.part = .running ∧ tag + 1 = s.requester.tag)

/-! ## Banks (R49, R54) -/

/-- A scene descriptor: a span of frames. -/
abbrev SceneDesc.ok (d : SceneDesc) : Prop := d.spanFirst ≤ d.spanLast ∧ d.spanLast ≤ maxFrame

/-- A mix weight: 256, or 4 to 252 within a transition (R49). -/
abbrev weightOk (w : Nat) : Prop := w = 256 ∨ (4 ≤ w ∧ w ≤ 252)

/-- A bank: its values in range, its frame within the span, mixing only within a transition (R54). -/
abbrev Bank.ok (b : Bank) : Prop :=
  weightOk b.w ∧ Grade.ok ⟨b.black, b.gain, b.lift, b.sat, b.toCurve⟩
    ∧ (∀ c ∈ b.fromCurve, c.ok ∧ b.w ≤ 252)
    ∧ b.scene.ok ∧ b.scene.spanFirst ≤ b.resolvedFrame ∧ b.resolvedFrame ≤ b.scene.spanLast

/-- A reading: what a bank is filled from. -/
abbrev Reading.ok (r : Reading) : Prop :=
  weightOk r.w ∧ r.toGrade.ok
    ∧ (∀ g ∈ r.fromGrade, g.ok ∧ r.w ≤ 252)
    ∧ r.scene.ok ∧ r.scene.spanFirst ≤ r.frame ∧ r.frame ≤ r.scene.spanLast

/-- The reading that fills a pending bank. -/
def PendingBank.reading : PendingBank → Option Reading
  | .filling r => some r
  | .empty | .ready _ => none

/-- The bank that is READY. -/
def PendingBank.bank : PendingBank → Option Bank
  | .ready b => some b
  | .empty | .filling _ => none

/-- The two banks, and the frame a reading was granted for. -/
abbrev State.banksOk (s : State) : Prop :=
  s.pipeline.active.ok ∧ (∀ r ∈ s.pipeline.pendingBank.reading, r.ok) ∧ (∀ b ∈ s.pipeline.pendingBank.bank, b.ok)
    ∧ (∀ l ∈ s.resolver.latch, l.frame ≤ maxFrame)

/-! ## What leaves the PIC port (R79, R85, R186) -/

/-- A value a pixel may leave with. -/
abbrev LegalRange.allows (r : LegalRange) (x : Nat) : Prop := r.lower ≤ (x : Int) ∧ (x : Int) ≤ r.upper

/-- The three values of a pixel. -/
def PicWord.pixels : PicWord → List Nat
  | .pixel r g b => [r.toNat, g.toNat, b.toNat]
  | .header _ _ _ => []

/-- The three values of a header word. -/
def PicWord.headers : PicWord → List Nat
  | .header r g b => [r.toNat, g.toNat, b.toNat]
  | .pixel _ _ _ => []

/-- A word that may leave: a pixel within the legal range; a header word with bits 9 and 8 clear (R79, R197). -/
abbrev PicWord.ok (range : LegalRange) (w : PicWord) : Prop :=
  (∀ x ∈ w.pixels, range.allows x) ∧ ∀ x ∈ w.headers, x < 256

/-- Every word that has left: within the configured legal range; before JOINING, legal black 64 or a header. -/
abbrev State.portOk (s : State) : Prop :=
  (∀ w ∈ s.pipeline.port, w.ok s.config.legalRange)
    ∧ (s.up = false → ∀ w ∈ s.pipeline.port, w.ok .full ∧ w.ok .narrow)

/-! ## All of it -/

/-- A sound state. -/
abbrev State.sound (s : State) : Prop :=
  s.quietOk ∧ s.config.ok ∧ s.store.ok ∧ s.pcu.ok s.config.cadenceMode ∧ s.arbiterOk ∧ s.queuesOk ∧ s.gateOk
    ∧ s.countersOk ∧ s.countdownsOk ∧ s.fetchOk ∧ s.banksOk ∧ s.portOk

/-! ## Terms the statements use -/

/-- The REPLY that a message gets, if it gets one (R118). -/
def replyTo (m : Message) (result : ReplyResult) (body : ReplyBody) : List TxMsg :=
  if m.addressing = .individual ∧ m.source.toNat ≤ 63 then [⟨m.source, .reply m.kind result body⟩] else []

/-- `t` differs from `s` in nothing but what a step of the handler at the store may touch: the store, the arbiter, the
resolver, the place held for the responder, the event flags and counters, the transmit queue with its drop counter; and
the handler is IDLE with its counter unchanged. -/
abbrev State.storeStep (s t : State) : Prop :=
  t = { s with
    store := t.store, arbiter := t.arbiter, resolver := t.resolver, events := t.events,
    responder := { s.responder with placeHeld := t.responder.placeHeld },
    handler := ⟨.idle, s.handler.ignored⟩,
    cue := { s.cue with txq := t.cue.txq } }

/-- The resolver after a step at the store that changed the list: a resolution is in flight; one that was already gets
its rerun, and a new one is granted the store at the release (R42, R55, R56, R57). -/
abbrev State.signalled (s t : State) : Prop :=
  t.resolver = { s.resolver with inFlight := true, rerun := t.resolver.rerun, latch := t.resolver.latch }
    ∧ (s.resolver.inFlight = true → t.resolver.rerun = true)
    ∧ (s.resolver.inFlight = false → t.resolver.rerun = s.resolver.rerun ∧ t.arbiter.holder = some .resolver
        ∧ t.resolver.latch = some ⟨s.pcu.gateFrame, s.resolver.mode⟩)

/-- The resolver after a scrub step that changed the list: the store was free, so a resolution started there is granted it
at once (R41, R55, R56). -/
abbrev State.scrubSignalled (s t : State) : Prop :=
  t.resolver.inFlight = true
    ∧ (s.resolver.inFlight = true → t.resolver.rerun = true ∧ t.arbiter = s.arbiter)
    ∧ (s.resolver.inFlight = false → t.resolver.rerun = s.resolver.rerun
        ∧ t.arbiter = { s.arbiter with holder := some .resolver }
        ∧ t.resolver.latch = some ⟨s.pcu.gateFrame, s.resolver.mode⟩)

/-- The resolver after a trigger away from the store: a rerun asked for, or a resolution started that is granted a free
store or waits (R41, R56). -/
abbrev State.resolutionAsked (s t : State) : Prop :=
  t.resolver = { s.resolver with inFlight := true, rerun := t.resolver.rerun, latch := t.resolver.latch }
    ∧ (s.resolver.inFlight = true →
        t.resolver.rerun = true ∧ t.resolver.latch = s.resolver.latch ∧ t.arbiter = s.arbiter)
    ∧ (s.resolver.inFlight = false → t.resolver.rerun = s.resolver.rerun
        ∧ if s.arbiter.holder = none ∧ s.arbiter.noneWaits = true then
            t.arbiter = { s.arbiter with holder := some .resolver }
              ∧ t.resolver.latch = some ⟨t.pcu.gateFrame, t.resolver.mode⟩
          else t.arbiter = { s.arbiter with resolverWaits := true } ∧ t.resolver.latch = s.resolver.latch)

/-- A refused edit (R25, R120): no record is written, EDIT_REFUSED is set, and the REPLY carries the result with the key
and zeros. -/
abbrev State.editRefused (s t : State) (m : Message) (result : ReplyResult) (key : Nat) : Prop :=
  s.storeStep t ∧ t.store = s.store ∧ t.resolver = { s.resolver with latch := t.resolver.latch }
    ∧ t.events = { s.events with flags := t.events.flags } ∧ EventFlag.editRefused.isIn t.events.flags = true
    ∧ (∃ q, t.cue.txq = q ++ replyTo m result (.edit key 0 0))

/-- A receive error of a kind with the characters received before it (R98, R100). -/
abbrev State.errorTaken (s t : State) (k : LineErrorKind) (chars : List Byte) : Prop :=
  t = { s with cue := t.cue, events := { s.events with flags := t.events.flags } }
    ∧ t.cue = { s.cue with
        rx := .discarding, kindFlags := s.cue.kindFlags ||| k.mask, lineErrors := min (s.cue.lineErrors + 1) 65535,
        idle := t.cue.idle, txq := t.cue.txq,
        capture := match s.cue.capture.record with
          | none => ⟨some ⟨k, chars.take 4, s.pcu.snapshot.fieldCount⟩, s.cue.capture.lost⟩
          | some old => ⟨some old, true⟩ }
    ∧ EventFlag.lineError.isIn t.events.flags = true

/-- What a line reset carried out by a message leaves (the table after R132): the unit that follows the film as after a
power-on reset with its loss timer restarted (R18); the resolver's record of scenes, hold-back, late counter and mode gone
and a resolution in flight (R69); the clip counts 0 and the rest of the pipeline kept (R92); the queues empty but for the
REPLY, the message in transmission stopped, kind flags, counters and yield mark cleared, the receiver, the line capture
and the idle measure kept (R112); the ignored counter 0 (R136); a fetch ABORTED with its record and tag kept (R147); the
stream ended (R152); the punch and the cue outputs as after a power-on reset (R167); flags and counters cleared, the
settings as configured, the store capture kept (R136, R178, R180). -/
abbrev State.lineResetTo (s t : State) (m : Message) : Prop :=
  t = { s with
      pcu := t.pcu, store := t.store, arbiter := t.arbiter, resolver := t.resolver, pipeline := t.pipeline, cue := t.cue,
      handler := ⟨.idle, 0⟩, requester := t.requester, responder := t.responder, gate := GateUnit.reset,
      events := t.events }
    ∧ t.pcu = { Pcu.reset with refTimerRunning := true }
    ∧ t.resolver.lastScene = none ∧ t.resolver.slot = none ∧ t.resolver.countdown = 0 ∧ t.resolver.late = 0
    ∧ t.resolver.mode = ⟨.off, 0⟩ ∧ t.resolver.inFlight = true
    ∧ (s.resolver.inFlight = true → t.resolver.rerun = true)
    ∧ t.pipeline = { s.pipeline with clipInProgress := 0, clipLast := 0 }
    ∧ t.cue = { s.cue with
        inbound := [], txq := replyTo m .ok .plain, kindFlags := 0, lineErrors := 0, rxDrops := 0, txAbandons := 0,
        yieldMark := false,
        tx := match s.cue.tx with
          | .sending _ _ => .stopping
          | .stopping => .stopping
          | .empty => .empty
          | .waiting _ _ => .empty }
    ∧ t.requester = (if s.requester.fetching then
        { s.requester with fetching := false, gapTimer := false, result := .aborted } else s.requester)
    ∧ t.responder.streaming = false ∧ t.responder.stream.cursor = none ∧ t.arbiter.responderWaits = false
    ∧ t.events = { s.events with
        flags := 0, corrected := 0, damaged := 0, enable := s.config.enableMask,
        statusEnable := decide (1 ≤ s.config.statusInterval),
        statusCountdown := if 1 ≤ s.config.statusInterval then 16 * s.config.statusInterval
          else s.events.statusCountdown }

/-- The body a client of the store takes of a record (R24, R170): lost where it is damaged or found uncorrectable. -/
def bodyTaken (chk : Checks) (e : Entry) : Body :=
  match e.damaged, bodyOutcome chk e.start with
  | true, _ => Body.lost
  | false, .uncorrectable _ => Body.lost
  | false, .clean => e.body
  | false, .correctable _ => e.body

/-- A preset as the boot image lays it out: its knot count, then its knots as in the record body (R198). -/
def presetBytes (ks : List Knot) : List Byte := byteOf ks.length :: ks.flatMap Knot.bytes

/-- The effective grade over the records from the governing one back, nearest first: the first that is graded and not
damaged, else the base grade (R47, R48). -/
def effectiveGrade (base : Grade) : List Entry → Grade
  | [] => base
  | e :: es =>
    match e.damaged, e.body.grade with
    | false, some g => g
    | false, none => effectiveGrade base es
    | true, _ => effectiveGrade base es

/-- The bank in force for a field that starts in JOINING or RUNNING (R61). -/
def State.bankAtField (s : State) : Bank :=
  match s.pipeline.pendingBank with
  | .ready b => b
  | .empty => s.pipeline.active
  | .filling _ => s.pipeline.active

/-- The characters of a frame as a receiver takes them, fault-free (R93). -/
def rxChars (cs : List (Byte × Bool)) : List RxChar := cs.map (fun c => ⟨c.1, c.2, parityOf c.1 c.2, true⟩)

/-- The state after a run of characters taken one after the other. -/
def takeAll (cs : List RxChar) (s : State) : State := cs.foldl (fun s c => takeCharacter c s) s

/-- A scene record as a message can carry it: every field within its width (R193), and the knot count of its curve one
that adds its knots to the length (R191). -/
abbrev Record.carried (r : Record) : Prop :=
  r.start < 16777216 ∧ r.sceneId < 65536 ∧ r.revision < 256 ∧ r.transitionLen < 256 ∧ ∀ g ∈ r.grade,
    g.black.within 0 65535 ∧ g.gain.within 0 65535 ∧ g.lift.within (-32768) 32767 ∧ (0 ≤ g.sat ∧ g.sat ≤ 65535)
      ∧ (match g.curve with
         | .preset i => i < 128
         | .knots ks => 2 ≤ ks.length ∧ ks.length ≤ 9 ∧ ∀ k ∈ ks, k.x < 8192 ∧ k.y < 2048)

end Sys2Proof.Machine
end

