-- ==== Sys2Proof/Certificates/Slice0/Obligations.lean ====
section
/-! DEFINITION. The statements for the provers. -/

open Sys2Proof Sys2Proof.Machine

/-! ## The queue and every command -/

/-- The command at the front of the queue is carried out on the state with the queue's rest; an empty queue idles. The
idle step is the model's choice (log 2). -/
def Obligations.StepRunsFrontCommand : Prop :=
  (∀ (c : Instr) (rest : List Instr) (s : State), s.pending = c :: rest → step s = exec c { s with pending := rest })
    ∧ ∀ s : State, s.pending = [] → step s = .next s

/-- Every command answers a next state, whatever the state, and leaves the queue alone: the part never stops. A
command whose conditions do not hold leaves the state as it is (log 1). -/
def Obligations.EveryCommandAnswersNext : Prop :=
  ∀ (c : Instr) (s : State), ∃ t, exec c s = .next t ∧ t.pending = s.pending

/-! ## Invariants every step keeps -/

/-- The state after reset is sound. -/
def Obligations.ResetStateIsSound : Prop := State.reset.sound

/-- The scene list keeps its form over every step: at most 1,024 records in range, sound entries strictly ascending,
knots held and free 2,048 together, frozen exactly while an entry is faulty (R19 to R22, R173, R174). -/
def Obligations.StoreKeepsItsForm : Prop :=
  ∀ s t : State, s.store.ok → step s = .next t → t.store.ok

/-- In RESET and LOADING every block but the unit that follows the film and the picture path holds its power-on state
(R185, R186). That the configuration then reads as the default one is the model's choice (log 9). -/
def Obligations.BlocksHoldBeforeJoining : Prop :=
  ∀ s t : State, s.quietOk → step s = .next t → t.quietOk

/-- Film position and cadence stay consistent: frames within the reel, FREE exactly off SOUND, a phase only where the
cadence mode and state allow one (R2, R3, R12, R13). -/
def Obligations.CadenceStaysConsistent : Prop :=
  ∀ s t : State, s.quietOk → s.pcu.ok s.config.cadenceMode → step s = .next t → t.pcu.ok t.config.cadenceMode

/-- The arbiter and its clients stay consistent: one holder, no wait at a free store, one resolution in flight at most
(R41 to R43, R56 to R58, R149). -/
def Obligations.ArbiterStaysConsistent : Prop :=
  ∀ s t : State, s.quietOk → s.arbiterOk → step s = .next t → t.arbiterOk

/-- The queues of the cue line stay within their places (R96, R104, R105, R107, R110, R149). -/
def Obligations.QueuesStayWithinTheirPlaces : Prop :=
  ∀ s t : State, s.arbiterOk → s.queuesOk → step s = .next t → t.queuesOk

/-- GATE is active only in a RECORDING punch, which only RUNNING has, with its target set and not above its out frame;
only while the field's frame lies from the fired target to the out frame; and never in a field that is omitted or
whose scene is unknown (R63, R154, R157, R158, R160). -/
def Obligations.GateOnlyWhileRecording : Prop :=
  ∀ s t : State, s.gateOk → step s = .next t → t.gateOk

/-- The two banks stay in range: every parameter within its field, the weight 256 or 4 to 252, the frame within the
span (R49, R52, R54). -/
def Obligations.BanksStayInRange : Prop :=
  ∀ s t : State, s.config.ok → s.store.ok → s.pcu.ok s.config.cadenceMode → s.banksOk → step s = .next t →
    t.config.ok ∧ t.banksOk

/-- Every pixel value that leaves the PIC port lies within the legal range selected at start-up, and no header word sets
bits 9 and 8 (R79, R85, R186, R197). -/
def Obligations.PixelsLeaveWithinTheLegalRange : Prop :=
  ∀ s t : State, s.quietOk → s.portOk → step s = .next t → t.portOk

/-- Every count stays in its range: the saturating counters at or below 65,535 (R14, R62, R80, R101, R116, R142, R169,
R170), the countdowns within what the configuration sets them to (R65, R164, R178), and the fetch status record adds up:
received is inserted, replaced, kept_local and refused together, but for the record whose merge is in progress and for a
count that has stopped at 65,535 (R146). -/
def Obligations.CountsStayInRange : Prop :=
  ∀ s t : State, s.quietOk → s.config.ok → s.countersOk → s.countdownsOk → s.fetchOk → step s = .next t →
    t.countersOk ∧ t.countdownsOk ∧ t.fetchOk

/-! ## Rules of the whole part -/

/-- From JOINING on the configuration, its source and the station address stand until a power-on reset, and the part
moves on to RUNNING only (10_configuration_and_start_up.md, R181, R185, R189). The active bank changes at field
starts only, but for the entry to JOINING and a power-on reset (R61, R67, R68). The three expiries of a field start
are field starts under the names of their outcomes (the model's choice, log 6). -/
def Obligations.HeldUntilTheirEvents : Prop :=
  (∀ (c : Instr) (s t : State), s.up = true → c ≠ .powerOnReset → exec c s = .next t →
    t.config = s.config ∧ t.configSource = s.configSource ∧ t.address = s.address
      ∧ (t.part = s.part ∨ (s.part = .joining ∧ t.part = .running)))
    ∧ (∀ (c : Instr) (s t : State), (∀ chk, c ≠ .fieldStart chk) →
      c ∉ [Instr.holdbackExpiry, .tallyPulseEnd, .statusCountdownExpiry] → (∀ image, c ≠ .bootReadEnd image) →
      c ≠ .powerOnReset → exec c s = .next t → t.pipeline.active = s.pipeline.active)

/-- A frozen store stays frozen until it is emptied, and takes no record: every entry it then holds is one it held, with
its start, revision, knots and body, and no mark goes away (R39, R46, R173, R174). -/
def Obligations.FrozenStoreTakesNoEdit : Prop :=
  ∀ (c : Instr) (s t : State), s.store.frozen = true → exec c s = .next t →
    t.store = Store.empty
      ∨ (t.store.frozen = true ∧ ∀ e ∈ t.store.index, ∃ o ∈ s.store.index,
          e = { o with faulty := e.faulty, damaged := e.damaged } ∧ (o.faulty = true → e.faulty = true)
            ∧ (o.damaged = true → e.damaged = true))

/-! ## Formats -/

/-- A scene record that the part sends is the record it reads: laid out after any bytes and before any others, the
record body of R193 decodes to the record, and it is as long as its own fields ask for (R191). -/
def Obligations.SceneRecordRoundTrip : Prop :=
  ∀ (before after : List Byte) (r : Record), r.carried →
    recordAt (before ++ r.bytes ++ after) before.length = r
      ∧ recordBytes (before ++ r.bytes ++ after) before.length = r.bytes.length

/-- A message of another station, sent as R93, R97 and R109 lay it out, is received whole by a part it is addressed to:
the receiver ends IDLE and the message joins the inbound queue with its fields. -/
def Obligations.SentMessageIsReceived : Prop :=
  ∀ (s : State) (sender : Byte) (m : TxMsg), s.up = true → s.cue.receiverOn = true → s.cue.rx = .idle →
    s.driving = false → m.dest = s.station → m.content.payload.length ≤ 64 → s.cue.inbound.length < inboundLimit →
    ∃ t, takeAll (rxChars (frameOf sender m)) s = t ∧ t.cue.rx = .idle
      ∧ t.cue.inbound = s.cue.inbound ++ [⟨m.dest, .individual, sender, m.content.kind.code, m.content.payload⟩]
      ∧ t.events = s.events ∧ t.cue.lineErrors = s.cue.lineErrors ∧ t.cue.idle = ⟨true, 0⟩

/-! ## Start-up -/

/-- A power-on reset from any state (R17, R44, R68, R91, R113, R136, R137, R167, R180, R185), and the exit from RESET,
which samples the straps and starts the loss timer (R16, R181, R185). -/
def Obligations.PowerOnResetAndLeaving : Prop :=
  (∀ s : State, ∃ t, exec .powerOnReset s = .next t ∧ t.pending = s.pending ∧ t.part = .reset
      ∧ t.pcu = ⟨0, false, .unplaced, 0, .fwd, .still, none, 0, false, 0, .free, none,
          ⟨0, false, 0, 0, none, .free, .unplaced, .still, .fwd, false⟩, 0, 0, t.pcu.refTimerRunning, false⟩
      ∧ t.store = ⟨[], 2048, false, 0⟩ ∧ t.arbiter = ⟨none, false, false, false⟩
      ∧ t.resolver = ⟨false, false, ⟨.off, 0⟩, none, none, 0, 0, none⟩
      ∧ t.pipeline.active.w = 256 ∧ t.pipeline.active.scene.start = none ∧ t.pipeline.active.resolvedFrame = 0
      ∧ t.pipeline.active.black = ⟨0, 0, 0⟩ ∧ t.pipeline.active.gain = ⟨1024, 1024, 1024⟩
      ∧ t.pipeline.active.lift = ⟨0, 0, 0⟩ ∧ t.pipeline.active.sat = 1024 ∧ t.pipeline.active.toCurve = .preset 0
      ∧ t.pipeline.active.fromCurve = none
      ∧ t.pipeline.pendingBank = .empty ∧ t.pipeline.outputMode = .black ∧ t.pipeline.clipInProgress = 0
      ∧ t.pipeline.clipLast = 0 ∧ t.pipeline.pixelIndex = 0 ∧ t.pipeline.lineOpen = false
      ∧ t.cue.rx = .idle ∧ t.cue.receiverOn = false ∧ t.cue.kindFlags = 0 ∧ t.cue.capture = ⟨none, false⟩
      ∧ t.cue.lineErrors = 0 ∧ t.cue.rxDrops = 0 ∧ t.cue.txAbandons = 0 ∧ t.cue.inbound = [] ∧ t.cue.txq = []
      ∧ t.cue.tx = .empty ∧ t.cue.idle.bits = 0 ∧ t.cue.yieldMark = false ∧ t.txEnable = false
      ∧ t.handler = ⟨.idle, 0⟩ ∧ t.requester = ⟨false, .noResult, none, 0, 0, 0, 0, 0, 0, 0, 0, 0, false⟩
      ∧ t.responder.streaming = false ∧ t.responder.stream = ⟨0, 0, 0, 0, none, 0⟩
      ∧ t.gate = ⟨⟨0, 0, false, .idle, 0, 0, false, false⟩, none, none, false, false, false, 0⟩
      ∧ t.gatePin = none ∧ t.tallyPin = none ∧ t.amarkPin = none
      ∧ t.events.flags = 0 ∧ t.events.corrected = 0 ∧ t.events.damaged = 0 ∧ t.events.capture = ⟨.empty, false⟩
      ∧ t.faultActive = false ∧ t.bootSelected = false)
    ∧ ∀ (s : State) (straps : BitVec 6), s.part = .reset →
      exec (.leaveReset straps) s =
        .next { s with part := .loading, address := straps, pcu := { s.pcu with refTimerRunning := true } }

/-- The boot read ends: an image that passes every check is the configuration and its source reads BOOT; any failure
gives the defaults and DEFAULTS (R182). Either way the part enters JOINING: the masks and the countdown are set, the
active bank is the base grade for the gate frame, the first resolution is granted the store, and the idle measure
starts (R67, R108, R178, R180, R187). A good image, laid out as R198 gives it, is read item by item, with the clamps
of R183 and the part's own address taken as none. Each failing check gives the defaults: the marker, the length, the
CRC, each code and address out of its set (R183, R199), and each fault of a preset: a knot count outside 2 to 9, x
values that do not rise, an x above 4,095, presets that end before the body or run past it. -/
def Obligations.BootReadEntersJoining : Prop :=
  (∀ (s : State) (image : List Byte), s.part = .loading → s.quietOk →
    ∃ t, exec (.bootReadEnd image) s = .next t
      ∧ (t.config, t.configSource) =
          (match readImage s.station image with
           | none => (Config.default, .defaults)
           | some c => (c, .boot))
      ∧ t.part = .joining ∧ t.events.enable = t.config.enableMask
      ∧ t.events.statusEnable = decide (1 ≤ t.config.statusInterval)
      ∧ (1 ≤ t.config.statusInterval → t.events.statusCountdown = 16 * t.config.statusInterval)
      ∧ t.events.flags = 0
      ∧ t.pipeline.active = Bank.ofGrade t.config.baseGrade s.pcu.gateFrame true ⟨.off, 0⟩ ⟨none, 0, 0, false, false, 0, 1048575⟩
      ∧ t.pipeline.pendingBank = .empty ∧ t.pipeline.outputMode = .black ∧ t.pipeline.port = s.pipeline.port
      ∧ t.resolver.inFlight = true ∧ t.arbiter = ⟨some .resolver, false, false, false⟩
      ∧ t.resolver.latch = some ⟨s.pcu.gateFrame, ⟨.off, 0⟩⟩
      ∧ t.cue = { s.cue with idle := ⟨true, 0⟩ } ∧ t.gatePin = some t.config.invertGate
      ∧ t.tallyPin = some t.config.invertTally ∧ t.amarkPin = some t.config.invertAmark
      ∧ t.bootSelected = false ∧ t.pcu = s.pcu ∧ t.store = s.store ∧ t.handler = s.handler
      ∧ t.requester = s.requester ∧ t.responder = s.responder ∧ t.gate = s.gate ∧ t.address = s.address)
    ∧ (∀ (own : Byte) (b rest : List Byte) (presets : List (List Knot)) (body : List Byte), b.length = 48 →
      presets.length = 8 → (∀ ks ∈ presets, knotsFault ks = false ∧ ∀ k ∈ ks, k.y < 2048) →
      body = b ++ presets.flatMap presetBytes →
      (u8 b 9 ≤ 0x80 ∨ u8 b 9 = 0xFF) → (u8 b 10 ≤ 63 ∨ u8 b 10 = 0xFF) → (u8 b 11 ≤ 63 ∨ u8 b 11 = 0xFF) →
      (u8 b 12 ≤ 63 ∨ u8 b 12 = 0xFF) → u8 b 13 ≤ 2 → u8 b 14 ≤ 1 → u8 b 15 ≤ 1 → u8 b 36 ≤ 7 → u8 b 43 ≤ 2 →
      u8 b 45 ≤ 1 →
      ∃ c, readImage own ([0x47, 0x33] ++ be2 body.length ++ body ++ be2 (crc (be2 body.length ++ body)).toNat ++ rest) = some c
        ∧ (∀ n, n < 64 → c.groups.getLsbD n = bitAt b (7 - n / 8) (n % 8))
        ∧ c.broadcast = bitAt b 8 0
        ∧ c.report = (if u8 b 9 = 0x80 then none else some (b.getD 9 0))
        ∧ c.partner = (if u8 b 10 = 0xFF ∨ b.getD 10 0 = own then none else some (b.getD 10 0))
        ∧ c.transport = (if u8 b 11 = 0xFF ∨ b.getD 11 0 = own then none else some (b.getD 11 0))
        ∧ c.recorder = (if u8 b 12 = 0xFF ∨ b.getD 12 0 = own then none else some (b.getD 12 0))
        ∧ c.bitRate = (match u8 b 13 with
            | 0 => .kbit250
            | 1 => .kbit500
            | _ => .mbit1)
        ∧ c.cadenceMode = (if u8 b 14 = 0 then .unity else .pulldown)
        ∧ c.legalRange = (if u8 b 15 = 0 then .narrow else .full)
        ∧ c.baseGrade =
            ⟨⟨min 1023 (u16 b 16), min 1023 (u16 b 18), min 1023 (u16 b 20)⟩,
              ⟨min 4095 (u16 b 22), min 4095 (u16 b 24), min 4095 (u16 b 26)⟩,
              ⟨max (-256) (min 255 (s16 b 28)), max (-256) (min 255 (s16 b 30)), max (-256) (min 255 (s16 b 32))⟩,
              min 2047 (u16 b 34), .preset (u8 b 36)⟩
        ∧ (∀ f : EventFlag, f.isIn c.enableMask = (u16 b 37).testBit f.index)
        ∧ (∀ f : EventFlag, f.isIn c.faultMask = (u16 b 39).testBit f.index)
        ∧ c.statusInterval = u8 b 41 ∧ c.holdback = min 7 (u8 b 42)
        ∧ c.tallyMode = (match u8 b 43 with
            | 0 => .off
            | 1 => .pulse
            | _ => .toggle)
        ∧ c.tallyLength = max 1 (min 15 (u8 b 44))
        ∧ c.amarkMode = (if u8 b 45 = 0 then .off else .phase0)
        ∧ c.invertGate = bitAt b 46 0 ∧ c.invertTally = bitAt b 46 1 ∧ c.invertAmark = bitAt b 46 2
        ∧ c.autoFetchStart = bitAt b 47 0 ∧ c.autoFetchMismatch = bitAt b 47 1
        ∧ c.presets = presets.map (fun ks => ks.map (fun k => ⟨k.x, min 1023 k.y⟩)))
    ∧ (∀ (own : Byte) (image body : List Byte), (image.drop 4).take (u16 image 2) = body →
      (image.take 2 ≠ [0x47, 0x33] ∨ u16 image 2 < 104 ∨ 272 < u16 image 2
        ∨ (crc ((image.drop 2).take (2 + u16 image 2))).toNat ≠ u16 image (4 + u16 image 2)
        ∨ 2 < u8 body 13 ∨ 1 < u8 body 14 ∨ 1 < u8 body 15 ∨ 7 < u8 body 36 ∨ 2 < u8 body 43 ∨ 1 < u8 body 45
        ∨ (0x81 ≤ u8 body 9 ∧ u8 body 9 ≤ 0xFE)
        ∨ (64 ≤ u8 body 10 ∧ u8 body 10 ≤ 254) ∨ (64 ≤ u8 body 11 ∧ u8 body 11 ≤ 254)
        ∨ (64 ≤ u8 body 12 ∧ u8 body 12 ≤ 254)) →
      readImage own image = none)
    ∧ ∀ (own : Byte) (image b after : List Byte) (presets : List (List Knot)), b.length = 48 →
      (∀ ks ∈ presets, 2 ≤ ks.length ∧ ks.length ≤ 9 ∧ ∀ k ∈ ks, k.x < 8192 ∧ k.y < 2048) →
      (image.drop 4).take (u16 image 2) = b ++ presets.flatMap presetBytes ++ after →
      ((presets.length < 8 ∧ (u8 after 0 < 2 ∨ 9 < u8 after 0 ∨ after.length < 1 + 3 * u8 after 0
            ∨ (∃ i, i + 1 < u8 after 0 ∧ u24 after (4 + 3 * i) / 2048 ≤ u24 after (1 + 3 * i) / 2048)
            ∨ ∃ i, i < u8 after 0 ∧ 4095 < u24 after (1 + 3 * i) / 2048))
        ∨ (presets.length = 8 ∧ after ≠ [])) →
      readImage own image = none

/-- In JOINING the receiver starts after 12 bit times of quiet line (R103); after 20 ms of it the part enters RUNNING
and starts the configured auto-fetch from its partner (R188, R189). That the receiver is on at the entry at the latest
is the model's choice (log 19). -/
def Obligations.QuietLineStartsAndRuns : Prop :=
  (∀ (s : State) (waited : Nat), s.up = true → s.cue.receiverOn = false → s.cue.idle.running = true →
      12 ≤ s.cue.idle.bits + waited →
      exec (.receiverStart waited) s =
        .next { s with cue := { s.cue with receiverOn := true, idle := ⟨true, s.cue.idle.bits + waited⟩ } })
    ∧ ∀ (s : State) (waited : Nat), s.part = .joining → s.cue.idle.running = true → s.sharedTaken < 5 →
      (match s.config.bitRate with
       | .kbit250 => 5000
       | .kbit500 => 10000
       | .mbit1 => 20000) ≤ s.cue.idle.bits + waited →
      ∃ t, exec (.joiningQuietExpiry waited) s = .next t ∧ t.part = .running ∧ t.cue.yieldMark = false
        ∧ t.cue.receiverOn = true ∧ t.cue.idle = ⟨true, s.cue.idle.bits + waited⟩
        ∧ t = { s with part := .running, cue := t.cue, requester := t.requester }
        ∧ (match s.partner with
           | none => t.requester = s.requester ∧ t.cue.txq = s.cue.txq
           | some p =>
             if s.config.autoFetchStart = true ∧ s.requester.fetching = false then
               t.requester = ⟨true, .noResult, some p, s.requester.tag + 1, 0, 1048575, 0, 0, 0, 0, 0, 0, true⟩
                 ∧ t.cue.txq = s.cue.txq ++ [⟨p, .listQuery (s.requester.tag + 1) 0 1048575⟩]
             else t.requester = s.requester ∧ t.cue.txq = s.cue.txq)

/-! ## Film position and cadence -/

/-- A frame pulse with no held POSITION for it: pulse_seq counts, DIR is sampled, the gate frame steps by one clamped
to the reel with its mark, fields_in_frame restarts, the position state stands and a resolution is asked for (R1, R2,
R55). Everything but the punch, the counters and reports of a break or an abort, and the resolver's request stands.
The cadence check at a frame pulse (R13): FREE is left alone; LOCKED is checked against the count expected and breaks
on a mismatch, counted and raised; BROKEN relocks in UNITY at a count of 2. In PULLDOWN a phase that is known moves by
one with the film. In LOADING a pulse steps the gate and triggers nothing, and in RESET no pulse is taken (R16, R55,
R186). -/
def Obligations.FramePulseStepsTheGate : Prop :=
  (∀ (s : State) (dirHigh : Bool), s.up = true → (∀ h ∈ s.pcu.held, h.seq ≠ s.pcu.pulseSeq + 1) →
    ∃ t, exec (.frmPulse dirHigh) s = .next t
      ∧ t = { s with pcu := t.pcu, events := { s.events with flags := t.events.flags }, gate := t.gate,
                     cue := { s.cue with txq := t.cue.txq }, arbiter := t.arbiter, resolver := t.resolver,
                     responder := s.responder }
      ∧ t.pcu = { s.pcu with
          pulseSeq := s.pcu.pulseSeq + 1, direction := if dirHigh then .fwd else .rev, fieldsInFrame := 0,
          gateFrame := if dirHigh then min (s.pcu.gateFrame + 1) 1048575 else s.pcu.gateFrame - 1,
          rangeClamp := if dirHigh then decide (1048575 ≤ s.pcu.gateFrame) else decide (s.pcu.gateFrame = 0),
          cadenceState := t.pcu.cadenceState, cadencePhase := t.pcu.cadencePhase, breaks := t.pcu.breaks }
      ∧ s.resolutionAsked t
      ∧ (s.gate.punch.state ≠ .recording ∨ dirHigh = true → t.gate = s.gate)
      ∧ (s.gate.punch.state = .recording → dirHigh = false →
          t.gate = { s.gate with gate := false, punch := { s.gate.punch with
            state := .aborted, outStamp := s.pcu.snapshot.fieldCount, unread := true } }
          ∧ EventFlag.punchEvent.isIn t.events.flags = true))
    ∧ (∀ (s : State) (dirHigh : Bool), s.up = true → (∀ h ∈ s.pcu.held, h.seq ≠ s.pcu.pulseSeq + 1) →
    ∃ t, exec (.frmPulse dirHigh) s = .next t
      ∧ t.pcu.cadencePhase =
          (match s.pcu.cadenceState, s.config.cadenceMode, s.pcu.cadencePhase with
           | .free, _, p => p
           | _, .unity, p => p
           | _, .pulldown, none => none
           | _, .pulldown, some p => some (if dirHigh then p + 1 else p - 1))
      ∧ (match s.pcu.cadenceState, s.config.cadenceMode with
         | .free, _ => t.pcu.cadenceState = .free ∧ t.pcu.breaks = s.pcu.breaks
         | .locked, mode =>
           if s.pcu.fieldsInFrame =
               (match mode, s.pcu.cadencePhase with
                | .pulldown, some 1 => 3
                | .pulldown, some 3 => 3
                | _, _ => 2) then t.pcu.cadenceState = .locked ∧ t.pcu.breaks = s.pcu.breaks
           else t.pcu.cadenceState = .broken ∧ t.pcu.breaks = min (s.pcu.breaks + 1) 65535
             ∧ EventFlag.cadenceBreak.isIn t.events.flags = true
         | .broken, .pulldown => t.pcu.cadenceState = .broken ∧ t.pcu.breaks = s.pcu.breaks
         | .broken, .unity =>
           t.pcu.cadenceState = (if s.pcu.fieldsInFrame = 2 then .locked else .broken) ∧ t.pcu.breaks = s.pcu.breaks))
    ∧ (∀ (s : State) (dirHigh : Bool), s.part = .loading → s.quietOk →
    exec (.frmPulse dirHigh) s = .next { s with pcu := { s.pcu with
      pulseSeq := s.pcu.pulseSeq + 1, direction := if dirHigh then .fwd else .rev, fieldsInFrame := 0,
      gateFrame := if dirHigh then min (s.pcu.gateFrame + 1) 1048575 else s.pcu.gateFrame - 1,
      rangeClamp := if dirHigh then decide (1048575 ≤ s.pcu.gateFrame) else decide (s.pcu.gateFrame = 0) } })
    ∧ ∀ (s : State) (dirHigh : Bool), s.part = .reset → exec (.frmPulse dirHigh) s = .next s

/-- A held POSITION applied at its pulse (R9): the frame is adopted in place of the step, without the clamp mark; a
placed unit whose own step gives another frame slips; the slot is emptied and the speed class follows. The cadence
follows it by R12, after the check R13 makes at the same pulse: FREE with no phase for a class other than SOUND; at
SOUND in PULLDOWN LOCKED with the message's phase, or without one BROKEN from FREE and else as the check left it; at
SOUND in UNITY LOCKED from FREE and else as the check left it. A resolution is asked for at the pulse (R1, R55), and
the store, the cue line but its transmit queue, and the responder stand. -/
def Obligations.HeldPositionAppliedAtItsPulse : Prop :=
  ∀ (s : State) (dirHigh : Bool) (h : HeldPosition), s.up = true → s.pcu.held = some h →
    h.seq = s.pcu.pulseSeq + 1 →
    ∃ t, exec (.frmPulse dirHigh) s = .next t
      ∧ t = { s with pcu := t.pcu, events := { s.events with flags := t.events.flags }, gate := t.gate,
                     cue := { s.cue with txq := t.cue.txq }, arbiter := t.arbiter, resolver := t.resolver }
      ∧ t.pcu = { s.pcu with
          pulseSeq := h.seq, direction := if dirHigh then .fwd else .rev, fieldsInFrame := 0, gateFrame := h.frame,
          rangeClamp := false, held := none, speedClass := h.speed, positionState := t.pcu.positionState,
          slips := t.pcu.slips, cadenceState := t.pcu.cadenceState, cadencePhase := t.pcu.cadencePhase,
          breaks := t.pcu.breaks }
      ∧ s.resolutionAsked t
      ∧ (dirHigh = true → h.speed = .sound → t.gate = s.gate)
      ∧ (dirHigh = false → t.gate.punch.state ≠ .recording)
      ∧ (let stepped := if dirHigh then min (s.pcu.gateFrame + 1) 1048575 else s.pcu.gateFrame - 1
         if s.pcu.positionState = .unplaced ∨ h.frame = stepped then
           t.pcu.positionState = .placed ∧ t.pcu.slips = s.pcu.slips
         else t.pcu.positionState = .suspect ∧ t.pcu.slips = min (s.pcu.slips + 1) 65535
           ∧ EventFlag.positionSlip.isIn t.events.flags = true)
      ∧ (h.speed ≠ .sound → t.pcu.cadenceState = .free ∧ t.pcu.cadencePhase = none
          ∧ t.gate.punch.state ≠ .recording)
      ∧ (h.speed = .sound →
          let moved := s.pcu.cadencePhase.map (fun p => if dirHigh then p + 1 else p - 1)
          (t.pcu.cadenceState, t.pcu.cadencePhase) =
            (match s.config.cadenceMode, h.phase, s.pcu.cadenceState with
             | .pulldown, some p, _ => (.locked, some p)
             | .pulldown, none, .free => (.broken, none)
             | .pulldown, none, .broken => (.broken, moved)
             | .pulldown, none, .locked =>
               (if s.pcu.fieldsInFrame = (match s.pcu.cadencePhase with
                  | some 1 => 3
                  | some 3 => 3
                  | _ => 2) then .locked else .broken, moved)
             | .unity, _, .free => (.locked, none)
             | .unity, _, .broken => (if s.pcu.fieldsInFrame = 2 then .locked else .broken, s.pcu.cadencePhase)
             | .unity, _, .locked => (if s.pcu.fieldsInFrame = 2 then .locked else .broken, s.pcu.cadencePhase)))

/-- A POSITION that is not early is reconciled at once (R6 to R8, R11, R12, R55): up to 4 pulses late its frame is
projected along the film, with the mark range_clamp set exactly where the projection was clamped (R2); staler it is
adopted as it stands; an unplaced unit is placed by it, a placed one that finds its own frame in it is placed, and any
other slips. The slot is emptied, the speed class follows, and a class other than SOUND aborts a recording punch and
leaves the cadence FREE. At SOUND in PULLDOWN the cadence is LOCKED with the message's phase projected as the frame
was, or without one BROKEN from FREE and else unchanged; in UNITY it is LOCKED from FREE and else unchanged (R12). A
POSITION of 1 to 4 pulses ahead waits in the slot, replacing what the slot holds, and changes nothing else (R9); one
from another source than the transport, too short, or with a field out of its range is counted as ignored and changes
nothing else (R6, R116, R117, R191). A payload is read as R192 lays it out: frame, seq, speed class, phase.
The slot the POSITION is taken from is the model's (log 4). -/
def Obligations.PositionIsReconciledOrHeld : Prop :=
  (∀ (s : State) (m : Message) (rest : List Message) (h : HeldPosition) (d : Nat), s.up = true →
    s.cue.handover = m :: rest → (s.config.transport = none ∨ s.config.transport = some m.source) →
    positionOf m.payload = some h → d = (s.pcu.pulseSeq.toNat + 256 - h.seq.toNat) % 256 → d < 252 →
    ∃ t, exec .position s = .next t
      ∧ t = { s with pcu := t.pcu, events := { s.events with flags := t.events.flags }, gate := t.gate,
                     cue := { s.cue with handover := rest, txq := t.cue.txq }, arbiter := t.arbiter,
                     resolver := t.resolver }
      ∧ t.pcu = { s.pcu with
          gateFrame := if 4 < d then h.frame
            else match s.pcu.direction with
              | .fwd => min (h.frame + d) 1048575
              | .rev => h.frame - d,
          rangeClamp := if 4 < d then false
            else match s.pcu.direction with
              | .fwd => decide (1048575 < h.frame + d)
              | .rev => decide (h.frame < d),
          held := none, positionState := t.pcu.positionState, slips := t.pcu.slips,
          speedClass := h.speed, cadenceState := t.pcu.cadenceState, cadencePhase := t.pcu.cadencePhase }
      ∧ (if s.pcu.positionState = .unplaced ∨ (d ≤ 4 ∧ t.pcu.gateFrame = s.pcu.gateFrame) then
           t.pcu.positionState = .placed ∧ t.pcu.slips = s.pcu.slips
         else t.pcu.positionState = .suspect ∧ t.pcu.slips = min (s.pcu.slips + 1) 65535
           ∧ EventFlag.positionSlip.isIn t.events.flags = true)
      ∧ (if t.pcu.gateFrame = s.pcu.gateFrame then t.resolver = s.resolver ∧ t.arbiter = s.arbiter
         else s.resolutionAsked t)
      ∧ (h.speed = .sound → t.gate = s.gate
          ∧ (t.pcu.cadenceState, t.pcu.cadencePhase) =
            (match s.config.cadenceMode, h.phase, s.pcu.cadenceState with
             | .pulldown, some p, _ =>
               (.locked, some (if 4 < d then p
                 else match s.pcu.direction with
                   | .fwd => p + BitVec.ofNat 2 d
                   | .rev => p - BitVec.ofNat 2 d))
             | .pulldown, none, .free => (.broken, none)
             | .unity, _, .free => (.locked, none)
             | _, _, st => (st, s.pcu.cadencePhase)))
      ∧ (h.speed ≠ .sound → t.pcu.cadenceState = .free ∧ t.pcu.cadencePhase = none
          ∧ (s.gate.punch.state = .recording →
              t.gate.gate = false ∧ t.gate.punch.state = .aborted
                ∧ t.gate.punch.outStamp = s.pcu.snapshot.fieldCount)))
    ∧ ((∀ (s : State) (m : Message) (rest : List Message) (h : HeldPosition), s.cue.handover = m :: rest →
      (s.config.transport = none ∨ s.config.transport = some m.source) → positionOf m.payload = some h →
      252 ≤ (s.pcu.pulseSeq.toNat + 256 - h.seq.toNat) % 256 →
      exec .position s = .next { s with
        pcu := { s.pcu with held := some h }, cue := { s.cue with handover := rest } })
    ∧ ∀ (s : State) (m : Message) (rest : List Message), s.cue.handover = m :: rest →
      ((∃ a, s.config.transport = some a ∧ a ≠ m.source) ∨ m.payload.length < 6 ∨ 1048575 < u24 m.payload 0
        ∨ 3 < u8 m.payload 4 ∨ (4 ≤ u8 m.payload 5 ∧ u8 m.payload 5 ≤ 254)) →
      exec .position s = .next { s with
        cue := { s.cue with handover := rest },
        handler := { s.handler with ignored := min (s.handler.ignored + 1) 65535 } })
    ∧ ∀ (f2 f1 f0 seq speed phase : Byte) (rest : List Byte) (frame : Nat),
      frame = f2.toNat * 65536 + f1.toNat * 256 + f0.toNat → frame ≤ 1048575 → speed.toNat ≤ 3 →
      (phase.toNat ≤ 3 ∨ phase = 0xFF) →
      positionOf (f2 :: f1 :: f0 :: seq :: speed :: phase :: rest) =
        some ⟨frame, seq,
          match speed.toNat with
          | 0 => .still
          | 1 => .jog
          | 2 => .sound
          | _ => .shuttle,
          if phase = 0xFF then none else some (phase.setWidth 2)⟩

/-- The reference loss timer runs out (R15): a loss is in progress, REF_LOSS is set, and a recording punch is aborted
with the count of the last field (R161); in LOADING the loss begins and no flag is raised (R176, R186). What a raise
does with flags, reports and FLT_N (R106, R176, R177, R179): it sets the flag and no other; where the flag was clear,
its bit of the enable mask is set and there is a report address, the queue takes an EVENT_REPORT of the flags after
the change, the flag as new and the count of the last field, at its tail, or in the place of the one it holds, with
the new flags of both; otherwise the queue stands. FLT_N is active exactly while a flag of the fault mask is set. The
raise of REF_LOSS is one of these. -/
def Obligations.ReferenceLossBegins : Prop :=
  (∀ s : State, s.up = true → s.pcu.refTimerRunning = true →
    ∃ t, exec .refLossExpiry s = .next t
      ∧ t = { s with pcu := { s.pcu with refTimerRunning := false, lossInProgress := true },
                     events := { s.events with flags := t.events.flags }, cue := { s.cue with txq := t.cue.txq },
                     gate := t.gate }
      ∧ EventFlag.refLoss.isIn t.events.flags = true
      ∧ (if s.gate.punch.state = .recording then
           t.gate = { s.gate with gate := false, punch := { s.gate.punch with
             state := .aborted, outStamp := s.pcu.snapshot.fieldCount, unread := true } }
             ∧ EventFlag.punchEvent.isIn t.events.flags = true
         else t.gate = s.gate)
      ∧ (s.gate.punch.state ≠ .recording → ∃ u, u = { s with pcu := t.pcu } ∧ t = raise .refLoss u))
    ∧ (∀ s : State, s.part = .loading → s.quietOk → s.pcu.refTimerRunning = true →
      exec .refLossExpiry s = .next { s with pcu := { s.pcu with refTimerRunning := false, lossInProgress := true } })
    ∧ (∀ (s t : State) (f : EventFlag), s.up = true → t = raise f s →
      t = { s with events := { s.events with flags := t.events.flags }, cue := { s.cue with txq := t.cue.txq } }
      ∧ (∀ g : EventFlag, g.isIn t.events.flags = (g.isIn s.events.flags || decide (g = f)))
      ∧ ((f.isIn s.events.flags = true ∨ f.isIn s.events.enable = false ∨ s.config.report = none) → t.cue = s.cue)
      ∧ (∀ dest, f.isIn s.events.flags = false → f.isIn s.events.enable = true → s.config.report = some dest →
          ((∀ e ∈ s.cue.txq, e.content.kind ≠ .eventReport) →
            t.cue.txq = s.cue.txq ++ [⟨dest, .eventReport t.events.flags f.mask s.pcu.snapshot.fieldCount⟩])
          ∧ ∀ before after dst flags new count,
            s.cue.txq = before ++ [⟨dst, .eventReport flags new count⟩] ++ after →
            (∀ e ∈ before ++ after, e.content.kind ≠ .eventReport) →
            t.cue.txq = before
              ++ [⟨dest, .eventReport t.events.flags (new ||| f.mask) s.pcu.snapshot.fieldCount⟩] ++ after))
    ∧ ∀ s : State, s.faultActive = true ↔ ∃ f : EventFlag, f.isIn s.events.flags = true ∧ f.isIn s.config.faultMask = true

/-! ## Field starts -/

/-- A field start outside RESET counts the field and takes the snapshot from the values as they stand, counting the
fields of the frame from the one before it; the loss timer restarts and a loss ends (R3, R4, R16, R186). -/
def Obligations.FieldStartTakesTheSnapshot : Prop :=
  ∀ (s : State) (chk : Checks), s.part ≠ .reset →
    ∃ t, exec (.fieldStart chk) s = .next t
      ∧ t.pcu = { s.pcu with
          fieldCount := s.pcu.fieldCount + 1, fieldParity := (s.pcu.fieldCount + 1).getLsbD 0,
          fieldsInFrame := if s.pcu.fieldsInFrame < 15 then s.pcu.fieldsInFrame + 1 else 15,
          snapshot := ⟨s.pcu.fieldCount + 1, (s.pcu.fieldCount + 1).getLsbD 0, s.pcu.gateFrame, s.pcu.fieldsInFrame,
            s.pcu.cadencePhase, s.pcu.cadenceState, s.pcu.positionState, s.pcu.speedClass, s.pcu.direction,
            s.pcu.rangeClamp⟩,
          refTimerRunning := true, lossInProgress := false }

/-- A field start in JOINING or RUNNING: a READY bank becomes the active one and no other does (R61), a bank resolved
for another frame makes the field late, counted and raised (R62), the clip count is closed (R81) and the line ends
(R70), and the output mode becomes GRADING in RUNNING (R85). The configuration, the handler, the requester, the stream
and the receiver are left alone. -/
def Obligations.FieldStartSwapsTheReadyBank : Prop :=
  ∀ (s : State) (chk : Checks), s.up = true →
    ∃ t, exec (.fieldStart chk) s = .next t
      ∧ t.pipeline.active = s.bankAtField
      ∧ t.pipeline.pendingBank =
          (match s.pipeline.pendingBank with
           | .filling r => .filling r
           | .empty => .empty
           | .ready _ => .empty)
      ∧ (if s.bankAtField.resolvedFrame = s.pcu.gateFrame then t.resolver.late = s.resolver.late
         else t.resolver.late = min (s.resolver.late + 1) 65535 ∧ EventFlag.lateGrade.isIn t.events.flags = true)
      ∧ t.pipeline.clipLast = s.pipeline.clipInProgress ∧ t.pipeline.clipInProgress = 0
      ∧ t.pipeline.lineOpen = false ∧ t.pipeline.pixelIndex = s.pipeline.pixelIndex
      ∧ t.pipeline.outputMode = (if s.part = .running then .grading else s.pipeline.outputMode)
      ∧ t.part = s.part ∧ t.config = s.config ∧ t.handler = s.handler ∧ t.requester = s.requester
      ∧ t.responder.streaming = s.responder.streaming ∧ t.responder.stream = s.responder.stream
      ∧ t.cue = { s.cue with txq := t.cue.txq } ∧ t.resolver.mode = s.resolver.mode

/-- The header of a field start in JOINING or RUNNING leaves the PIC port after every word before it, as seven words
of 21 bytes (R86, R197), with the fields of R87 and the flags of R88: of the snapshot, of the bank in force, of the
field, and of the store, the part and GATE as they stand. A header in LOADING carries the values of R89 beside the
snapshot, and no other block acts (R86, R89, R186). That the header shows the store as it stands before the scrub step
is deduced (log 10). -/
def Obligations.FieldHeaderLeavesThePort : Prop :=
  (∀ (s : State) (chk : Checks), s.up = true →
    ∃ t h, exec (.fieldStart chk) s = .next t ∧ t.pipeline.port = s.pipeline.port ++ headerWords (HeaderRecord.bytes h)
      ∧ (headerWords (HeaderRecord.bytes h)).length = 7
      ∧ h.fieldCount = s.pcu.fieldCount + 1 ∧ h.parity = (s.pcu.fieldCount + 1).getLsbD 0 ∧ h.frame = s.pcu.gateFrame
      ∧ h.fieldIndex = s.pcu.fieldsInFrame ∧ h.phase = s.pcu.cadencePhase
      ∧ h.sceneStart = s.bankAtField.scene.start ∧ h.sceneId = s.bankAtField.scene.sceneId
      ∧ h.revision = s.bankAtField.scene.revision ∧ h.w = s.bankAtField.w ∧ h.clipLast = s.pipeline.clipInProgress
      ∧ h.flags.notReady = decide (s.part = .joining)
      ∧ h.flags.late = decide (s.bankAtField.resolvedFrame ≠ s.pcu.gateFrame)
      ∧ (s.bankAtField.scene.spanFirst ≤ s.pcu.gateFrame ∧ s.pcu.gateFrame ≤ s.bankAtField.scene.spanLast →
          h.flags.omitted = s.bankAtField.scene.omitted)
      ∧ (s.bankAtField.resolvedFrame ≠ s.pcu.gateFrame →
          ¬(s.bankAtField.scene.spanFirst ≤ s.pcu.gateFrame ∧ s.pcu.gateFrame ≤ s.bankAtField.scene.spanLast) →
          h.flags.omitted = true)
      ∧ h.flags.bypass = decide (s.bankAtField.mode.compare = .bypass)
      ∧ h.flags.split = decide (s.bankAtField.mode.compare = .split)
      ∧ h.flags.rangeClamp = s.pcu.rangeClamp ∧ h.flags.unplaced = decide (s.pcu.positionState = .unplaced)
      ∧ h.flags.suspect = decide (s.pcu.positionState = .suspect)
      ∧ h.flags.cadenceFree = decide (s.pcu.cadenceState = .free)
      ∧ h.flags.cadenceBroken = decide (s.pcu.cadenceState = .broken)
      ∧ h.flags.storeFault = s.store.frozen ∧ h.flags.damaged = s.bankAtField.scene.damaged
      ∧ h.flags.inherited = s.bankAtField.inherited ∧ h.flags.mixing = s.bankAtField.fromCurve.isSome
      ∧ h.flags.gate = t.gate.gate)
    ∧ (∀ (s : State) (chk : Checks), s.part = .loading →
    ∃ t h, exec (.fieldStart chk) s = .next t
      ∧ t.pipeline = { s.pipeline with port := s.pipeline.port ++ headerWords (HeaderRecord.bytes h),
                                       clipLast := s.pipeline.clipInProgress, clipInProgress := 0, lineOpen := false }
      ∧ t = { s with pcu := t.pcu, pipeline := t.pipeline }
      ∧ (headerWords (HeaderRecord.bytes h)).length = 7
      ∧ h.fieldCount = s.pcu.fieldCount + 1 ∧ h.parity = (s.pcu.fieldCount + 1).getLsbD 0 ∧ h.frame = s.pcu.gateFrame
      ∧ h.fieldIndex = s.pcu.fieldsInFrame ∧ h.flags.unplaced = decide (s.pcu.positionState = .unplaced)
      ∧ h.flags.suspect = decide (s.pcu.positionState = .suspect)
      ∧ h.flags.cadenceFree = decide (s.pcu.cadenceState = .free)
      ∧ h.flags.cadenceBroken = decide (s.pcu.cadenceState = .broken)
      ∧ h.phase = s.pcu.cadencePhase ∧ h.sceneStart = none ∧ h.sceneId = 0 ∧ h.revision = 0 ∧ h.w = 256
      ∧ h.clipLast = 0 ∧ h.flags.notReady = true ∧ h.flags.rangeClamp = s.pcu.rangeClamp
      ∧ h.flags.late = false ∧ h.flags.omitted = false ∧ h.flags.bypass = false ∧ h.flags.split = false
      ∧ h.flags.storeFault = false ∧ h.flags.damaged = false ∧ h.flags.inherited = false ∧ h.flags.mixing = false
      ∧ h.flags.gate = false)

/-- Scene entry and its hold-back (R64 to R66, R135): a field whose bank's scene differs from the last enters it and
loads the slot with the bank's own frame, start, id and revision, or with hold-back 0 hands the entry over at once; the
slot counts one down at each later field start; and the field start at a countdown of 1 hands the entry to the report
address and empties the slot, unless the field loads it anew. With no report address nothing is queued. TALLY and AMARK
at a field start (R164, R165): OFF inactive; a TALLY pulse restarts at each entry and runs down; TOGGLE changes at
each entry; AMARK is active on LOCKED fields of phase 0. All of these change at field starts, and else by a reset only.
HOLDBACK_EXPIRY, at a countdown of 1, and TALLY_PULSE_END, at a countdown of 1 with no entry, are that field start
(the model's choice, log 6). -/
def Obligations.SceneEntryDrivesItsSignals : Prop :=
  ((∀ (s : State) (chk : Checks), s.up = true → 1 ≤ s.config.holdback →
      s.bankAtField.scene.start ≠ s.resolver.lastScene →
      ∃ t, exec (.fieldStart chk) s = .next t ∧ t.resolver.lastScene = s.bankAtField.scene.start
        ∧ t.resolver.countdown = s.config.holdback
        ∧ t.resolver.slot = some ⟨s.bankAtField.resolvedFrame, s.bankAtField.scene.start, s.bankAtField.scene.sceneId,
            s.bankAtField.scene.revision, s.pcu.fieldCount + 1⟩)
    ∧ (∀ (s : State) (chk : Checks) (e : SceneEntry), s.up = true → s.bankAtField.scene.start = s.resolver.lastScene →
      s.resolver.slot = some e → 2 ≤ s.resolver.countdown →
      ∃ t, exec (.fieldStart chk) s = .next t ∧ t.resolver.slot = some e
        ∧ t.resolver.countdown = s.resolver.countdown - 1 ∧ t.resolver.lastScene = s.resolver.lastScene)
    ∧ (∀ (s : State) (chk : Checks), s.up = true → s.config.holdback = 0 →
      s.bankAtField.scene.start ≠ s.resolver.lastScene →
      ∃ t, exec (.fieldStart chk) s = .next t ∧ t.resolver.lastScene = s.bankAtField.scene.start
        ∧ (s.resolver.slot = none → t.resolver.slot = none)
        ∧ ∀ dest, s.config.report = some dest →
            ⟨dest, .sceneEntered ⟨s.bankAtField.resolvedFrame, s.bankAtField.scene.start, s.bankAtField.scene.sceneId,
              s.bankAtField.scene.revision, s.pcu.fieldCount + 1⟩⟩ ∈ t.cue.txq)
    ∧ (∀ (s : State) (chk : Checks) (e : SceneEntry), s.up = true → s.resolver.slot = some e →
      s.resolver.countdown = 1 →
      ∃ t, exec (.fieldStart chk) s = .next t
        ∧ (s.bankAtField.scene.start = s.resolver.lastScene → t.resolver.slot = none ∧ t.resolver.countdown = 0)
        ∧ (s.bankAtField.scene.start = s.resolver.lastScene ∨ 1 ≤ s.config.holdback →
            ∀ dest, s.config.report = some dest → ⟨dest, .sceneEntered e⟩ ∈ t.cue.txq))
    ∧ (∀ (s : State) (chk : Checks), s.up = true → s.config.report = none →
      ∃ t, exec (.fieldStart chk) s = .next t ∧ t.cue.txq = s.cue.txq)
    ∧ ∀ s : State, s.up = true → s.resolver.slot.isSome = true → s.resolver.countdown = 1 →
      ∃ t, exec .holdbackExpiry s = .next t ∧ exec (.fieldStart Checks.clean) s = .next t)
    ∧ ((∀ (s : State) (chk : Checks), s.up = true →
      ∃ t, exec (.fieldStart chk) s = .next t
        ∧ (match s.config.tallyMode with
           | .off => t.gate.tally = false
           | .pulse =>
             t.gate.tallyCountdown = (if s.bankAtField.scene.start ≠ s.resolver.lastScene then s.config.tallyLength
                else s.gate.tallyCountdown - 1) ∧ t.gate.tally = decide (1 ≤ t.gate.tallyCountdown)
           | .toggle =>
             t.gate.tally = (if s.bankAtField.scene.start ≠ s.resolver.lastScene then !s.gate.tally else s.gate.tally))
        ∧ t.gate.amark = (match s.config.amarkMode with
           | .off => false
           | .phase0 => decide (s.pcu.cadenceState = .locked ∧ s.pcu.cadencePhase = some 0)))
    ∧ (∀ s : State, s.up = true → s.config.tallyMode = .pulse → s.gate.tallyCountdown = 1 →
      s.bankAtField.scene.start = s.resolver.lastScene →
      ∃ t, exec .tallyPulseEnd s = .next t ∧ exec (.fieldStart Checks.clean) s = .next t
        ∧ t.gate.tallyCountdown = 0 ∧ t.gate.tally = false)
    ∧ ∀ (c : Instr) (s t : State), (∀ chk, c ≠ .fieldStart chk) →
      c ∉ [Instr.holdbackExpiry, .tallyPulseEnd, .statusCountdownExpiry, .resetSoft, .resetList, .powerOnReset] →
      exec c s = .next t →
      t.resolver.lastScene = s.resolver.lastScene ∧ t.resolver.slot = s.resolver.slot
        ∧ t.resolver.countdown = s.resolver.countdown ∧ t.gate.tally = s.gate.tally
        ∧ t.gate.tallyCountdown = s.gate.tallyCountdown ∧ t.gate.amark = s.gate.amark)

/-- An armed punch fires at the first field of its target frame, in RUNNING, PLACED, SOUND and FWD, aligned only on a
LOCKED cadence, where that frame is not above its out frame (R157, R158): it records, stamps the field, keeps whether
its old stamps were unread, raises PUNCH_EVENT, and GATE follows the omit of the field, a late field of an unknown
scene being omitted (R63, R160). Above its out frame it never fires (R157), and where any of the conditions fails it
does not fire: it stays ARMED with its target worked out, or is MISSED (R158, R159). A recording punch ends DONE at the first field past its out frame, with GATE dropped and the stamp
taken; before that GATE is active from the fired frame on where the field is not omitted (R160). An armed punch whose
target, worked out anew on a LOCKED cadence where it is aligned, or whose out frame the film has passed becomes MISSED
without a stamp (R157, R159). -/
def Obligations.PunchFollowsTheFields : Prop :=
  (∀ (s : State) (chk : Checks) (omitted : Bool), s.part = .running → s.gate.punch.state = .armed →
    s.pcu.fieldsInFrame = 0 →
    s.pcu.positionState = .placed → s.pcu.speedClass = .sound → s.pcu.direction = .fwd →
    s.pcu.gateFrame ≤ s.gate.punch.outFrame →
    (if s.gate.punch.align then s.pcu.cadenceState = .locked ∧ s.pcu.cadencePhase = some 0
        ∧ s.gate.punch.inFrame ≤ s.pcu.gateFrame ∧ s.pcu.gateFrame < s.gate.punch.inFrame + 4
     else s.gate.target = some s.pcu.gateFrame) →
    omitted =
      (if s.bankAtField.resolvedFrame ≠ s.pcu.gateFrame
          ∧ ¬(s.bankAtField.scene.spanFirst ≤ s.pcu.gateFrame ∧ s.pcu.gateFrame ≤ s.bankAtField.scene.spanLast) then true
       else s.bankAtField.scene.omitted) →
    ∃ t, exec (.fieldStart chk) s = .next t
      ∧ t.gate.punch = { s.gate.punch with
          state := .recording, overwrite := s.gate.punch.unread, inStamp := s.pcu.fieldCount + 1, outStamp := 0,
          unread := true }
      ∧ t.gate.target = some s.pcu.gateFrame ∧ EventFlag.punchEvent.isIn t.events.flags = true
      ∧ t.gate.gate = !omitted)
    ∧ (∀ (s : State) (chk : Checks) (target : Option Nat), s.up = true → s.gate.punch.state = .armed →
      target =
        (match s.gate.punch.align, s.pcu.cadenceState, s.pcu.cadencePhase with
         | true, .locked, some p =>
           some (s.gate.punch.inFrame + (((s.pcu.gateFrame : Int) - p.toNat - s.gate.punch.inFrame) % 4).toNat)
         | _, _, _ => s.gate.target) →
      (s.part ≠ .running ∨ target ≠ some s.pcu.gateFrame ∨ s.pcu.fieldsInFrame ≠ 0 ∨ s.pcu.positionState ≠ .placed
        ∨ s.pcu.speedClass ≠ .sound ∨ s.pcu.direction ≠ .fwd
        ∨ (s.gate.punch.align = true ∧ s.pcu.cadenceState ≠ .locked)) →
      ∃ t, exec (.fieldStart chk) s = .next t ∧ t.gate.gate = s.gate.gate
        ∧ (t.gate.punch = s.gate.punch ∨ t.gate.punch = { s.gate.punch with state := .missed })
        ∧ ((∀ last x, s.gate.lastEval = some last → (target = some x ∨ s.gate.punch.outFrame = x) →
              ¬(last ≤ x ∧ x < s.pcu.gateFrame)) →
            t.gate.punch = s.gate.punch ∧ t.gate.target = target ∧ t.gate.lastEval = some s.pcu.gateFrame))
    ∧ (∀ (s : State) (chk : Checks), s.up = true → s.gate.punch.state = .armed → s.gate.punch.outFrame < s.pcu.gateFrame →
      ∃ t, exec (.fieldStart chk) s = .next t ∧ t.gate.gate = s.gate.gate
        ∧ (t.gate.punch = s.gate.punch ∨ t.gate.punch = { s.gate.punch with state := .missed }))
    ∧ (∀ (s : State) (chk : Checks), s.up = true → s.gate.punch.state = .recording →
      s.gate.punch.outFrame < s.pcu.gateFrame →
      ∃ t, exec (.fieldStart chk) s = .next t ∧ t.gate.gate = false
        ∧ t.gate.punch = { s.gate.punch with state := .done, outStamp := s.pcu.fieldCount + 1, unread := true }
        ∧ EventFlag.punchEvent.isIn t.events.flags = true)
    ∧ (∀ (s : State) (chk : Checks) (f : Nat) (omitted : Bool), s.up = true → s.gate.punch.state = .recording →
      s.gate.target = some f → s.pcu.gateFrame ≤ s.gate.punch.outFrame →
      omitted =
        (if s.bankAtField.resolvedFrame ≠ s.pcu.gateFrame
            ∧ ¬(s.bankAtField.scene.spanFirst ≤ s.pcu.gateFrame ∧ s.pcu.gateFrame ≤ s.bankAtField.scene.spanLast) then true
         else s.bankAtField.scene.omitted) →
      ∃ t, exec (.fieldStart chk) s = .next t ∧ t.gate.punch = s.gate.punch ∧ t.gate.target = s.gate.target
        ∧ t.gate.gate = (decide (f ≤ s.pcu.gateFrame) && !omitted))
    ∧ ∀ (s : State) (chk : Checks) (target : Option Nat) (last x : Nat), s.up = true → s.gate.punch.state = .armed →
      s.gate.lastEval = some last →
      target =
        (match s.gate.punch.align, s.pcu.cadenceState, s.pcu.cadencePhase with
         | true, .locked, some p =>
           some (s.gate.punch.inFrame + (((s.pcu.gateFrame : Int) - p.toNat - s.gate.punch.inFrame) % 4).toNat)
         | _, _, _ => s.gate.target) →
      (target = some x ∨ s.gate.punch.outFrame = x) → last ≤ x → x < s.pcu.gateFrame →
      ∃ t, exec (.fieldStart chk) s = .next t ∧ t.gate.target = none ∧ t.gate.lastEval = none
        ∧ t.gate.punch = { s.gate.punch with state := .missed } ∧ EventFlag.punchEvent.isIn t.events.flags = true

/-- The status countdown (R178, R135): it runs down by one at a field start while status_enable is on; its expiry, at
1, builds a STATUS from the summary as it stands, hands it to the report address and starts the countdown again at the
full interval; with no report address none is built and the countdown goes on. While status_enable is off, or the
interval is 0, it stands. It changes at a field start, the entry to JOINING, a SET_MODE and the resets only, so in a
reference loss it stands. STATUS_COUNTDOWN_EXPIRY, at 1, is the field start at which it expires, with a scrub step that
finds nothing (the model's choice, log 6; where it falls in the field start, log 11). -/
def Obligations.StatusCountdownSendsStatus : Prop :=
  (∀ (s : State) (chk : Checks), s.up = true → s.events.statusEnable = true → 1 ≤ s.config.statusInterval →
      2 ≤ s.events.statusCountdown →
      ∃ t, exec (.fieldStart chk) s = .next t ∧ t.events.statusCountdown = s.events.statusCountdown - 1)
    ∧ (∀ (s : State) (chk : Checks), s.up = true → s.events.statusEnable = true → 1 ≤ s.config.statusInterval →
      s.events.statusCountdown = 1 →
      ∃ t, exec (.fieldStart chk) s = .next t ∧ t.events.statusCountdown = 16 * s.config.statusInterval
        ∧ (s.config.report.isSome = true → ∃ e ∈ t.cue.txq, e.content.kind = .status))
    ∧ (∀ (s : State) (chk : Checks), s.up = true → (s.events.statusEnable = false ∨ s.config.statusInterval = 0) →
      ∃ t, exec (.fieldStart chk) s = .next t ∧ t.events.statusCountdown = s.events.statusCountdown)
    ∧ (∀ s : State, s.up = true → s.events.statusEnable = true → 1 ≤ s.config.statusInterval →
      s.events.statusCountdown = 1 →
      ∃ t, exec .statusCountdownExpiry s = .next t ∧ exec (.fieldStart Checks.clean) s = .next t
        ∧ t.events.statusCountdown = 16 * s.config.statusInterval
        ∧ (∀ dest, s.config.report = some dest → ⟨dest, .status t.summary⟩ ∈ t.cue.txq)
        ∧ (s.config.report = none → t.cue.txq = s.cue.txq))
    ∧ ∀ (c : Instr) (s t : State), (∀ chk, c ≠ .fieldStart chk) → (∀ image, c ≠ .bootReadEnd image) →
      c ∉ [Instr.holdbackExpiry, .tallyPulseEnd, .statusCountdownExpiry, .setMode, .resetSoft, .resetList, .powerOnReset] →
      exec c s = .next t → t.events.statusCountdown = s.events.statusCountdown

/-- The scrubber at a field start (R43, R175): a free store with every check clean gives it the record at or after the
cursor, or the first; the cursor moves to the start after it, or to 0; and the list stands. A held store, or a client
that waits, leaves cursor and list as they are. A body found correctable is counted, captured with the operation SCRUB
and raises STORE_CE, and the list stands (R169, R171); one found uncorrectable gets the damaged mark, is counted,
captured and raises STORE_UE (R170, R171). An index entry found faulty gets its mark, freezes the store, raises
INDEX_FAULT and is passed over (R173). Each of the three signals the resolver (R55), which a free store is granted to
at once. -/
def Obligations.ScrubberAdvancesItsCursor : Prop :=
  (∀ (s : State) (e : Entry), s.up = true → s.arbiter.holder = none → s.arbiter.noneWaits = true →
      ((firstFrom s.store.scrubCursor s.store.index = some e)
        ∨ (firstFrom s.store.scrubCursor s.store.index = none ∧ firstFrom 0 s.store.index = some e)) →
      ∃ t, exec (.fieldStart Checks.clean) s = .next t
        ∧ t.store = { s.store with scrubCursor := match nextAfter e.start s.store.index with
            | none => 0
            | some n => n.start })
    ∧ (∀ s : State, s.up = true → s.arbiter.holder = none → s.arbiter.noneWaits = true →
      firstFrom 0 s.store.index = none →
      ∃ t, exec (.fieldStart Checks.clean) s = .next t ∧ t.store = { s.store with scrubCursor := 0 })
    ∧ (∀ (s : State) (chk : Checks), s.up = true → (s.arbiter.holder ≠ none ∨ s.arbiter.noneWaits = false) →
      ∃ t, exec (.fieldStart chk) s = .next t ∧ t.store = s.store ∧ t.arbiter = s.arbiter)
    ∧ (∀ (s : State) (chk : Checks) (e : Entry) (syn : Byte) (cursor : Nat), s.up = true → s.arbiter.holder = none →
      s.arbiter.noneWaits = true → chk.parity = [] →
      ((firstFrom s.store.scrubCursor s.store.index = some e)
        ∨ (firstFrom s.store.scrubCursor s.store.index = none ∧ firstFrom 0 s.store.index = some e)) →
      e.damaged = false → s.events.capture = ⟨.empty, false⟩ →
      cursor = (match nextAfter e.start s.store.index with
        | none => 0
        | some n => n.start) →
      (bodyOutcome chk e.start = .correctable syn →
        ∃ t, exec (.fieldStart chk) s = .next t ∧ t.store = { s.store with scrubCursor := cursor }
          ∧ t.events.corrected = min (s.events.corrected + 1) 65535 ∧ t.events.damaged = s.events.damaged
          ∧ t.events.capture = ⟨.holding ⟨.corrected, .scrub, e.start, syn⟩, false⟩
          ∧ EventFlag.storeCe.isIn t.events.flags = true ∧ s.scrubSignalled t)
      ∧ (bodyOutcome chk e.start = .uncorrectable syn →
        ∃ t, exec (.fieldStart chk) s = .next t
          ∧ t.store = { s.store with index := t.store.index, scrubCursor := cursor }
          ∧ recordAtStart e.start t.store.index = some { e with damaged := true }
          ∧ (∀ n, n ≠ e.start → recordAtStart n t.store.index = recordAtStart n s.store.index)
          ∧ t.events.damaged = min (s.events.damaged + 1) 65535 ∧ t.events.corrected = s.events.corrected
          ∧ t.events.capture = ⟨.locked ⟨.uncorrectable, .scrub, e.start, syn⟩, false⟩
          ∧ EventFlag.storeUe.isIn t.events.flags = true ∧ s.scrubSignalled t))
    ∧ ∀ (s : State) (e : Entry), s.up = true → s.arbiter.holder = none → s.arbiter.noneWaits = true → s.store.ok →
      ((firstFrom s.store.scrubCursor s.store.index = some e)
        ∨ (firstFrom s.store.scrubCursor s.store.index = none ∧ firstFrom 0 s.store.index = some e)) →
      ∃ t, exec (.fieldStart ⟨[], [e.start]⟩) s = .next t
        ∧ t.store = { s.store with frozen := true, index := t.store.index, scrubCursor := t.store.scrubCursor }
        ∧ t.store.index = s.store.index.map (fun x => if x = e then { e with faulty := true } else x)
        ∧ EventFlag.indexFault.isIn t.events.flags = true ∧ s.scrubSignalled t
        ∧ ∀ g, ((firstFrom s.store.scrubCursor t.store.index = some g)
              ∨ (firstFrom s.store.scrubCursor t.store.index = none ∧ firstFrom 0 t.store.index = some g)) →
            t.store.scrubCursor = (match nextAfter g.start t.store.index with
              | none => 0
              | some n => n.start)

/-! ## The picture -/

/-- Stages 1, 2 and 4 of a channel: black removed, gain and lift, each by its formula and within its range (R72, R73,
R77). -/
def Obligations.StagesStayInTheirRanges : Prop :=
  ∀ (x black gain v lift : Int), 0 ≤ x → x ≤ 4095 → 0 ≤ black → 0 ≤ gain → 0 ≤ v → v ≤ 4095 →
    stageBlack x black = max 0 (x - black) ∧ (0 ≤ stageBlack x black ∧ stageBlack x black ≤ 4095)
      ∧ stageGain v gain = min 4095 ((v * gain + 512) / 1024) ∧ (0 ≤ stageGain v gain ∧ stageGain v gain ≤ 4095)
      ∧ stageGain v 1024 = v ∧ stageGain v 0 = 0
      ∧ stageLift v lift = max 0 (min 1023 (v + lift)) ∧ (0 ≤ stageLift v lift ∧ stageLift v lift ≤ 1023)

/-- A curve (R74): it passes through its knots and is flat outside them; between two neighbouring knots it follows the
formula of R74 and lies between their outputs, both included; and it stays within 0 to 1,023. Stage 3 gives a bank
that is not mixing its to-curve, a preset being the knot list of the configuration (R75), and a mixing bank the blend
of both curves by the weight, which lies between their two outputs (R76). -/
def Obligations.CurvePassesItsKnots : Prop :=
  (∀ ks : List Knot, knotsOk ks →
    (∀ k ∈ ks, evalKnots ks k.x = k.y)
      ∧ (∀ k v, ks.head? = some k → v ≤ (k.x : Int) → evalKnots ks v = k.y)
      ∧ (∀ k v, ks.getLast? = some k → (k.x : Int) ≤ v → evalKnots ks v = k.y)
      ∧ (∀ (before after : List Knot) (a b : Knot) (v d n : Int), ks = before ++ [a, b] ++ after →
          (a.x : Int) ≤ v → v < b.x → d = (b.x : Int) - a.x → n = (v - a.x) * ((b.y : Int) - a.y) →
          evalKnots ks v = a.y + (n + d / 2) / d
            ∧ min (a.y : Int) b.y ≤ evalKnots ks v ∧ evalKnots ks v ≤ max (a.y : Int) b.y)
      ∧ ∀ v : Int, 0 ≤ evalKnots ks v ∧ evalKnots ks v ≤ 1023)
    ∧ ∀ (cfg : Config) (bank : Bank) (v : Int) (knots : Curve → List Knot),
      (∀ i, knots (.preset i) = cfg.presets.getD i []) → (∀ ks, knots (.knots ks) = ks) →
      (bank.fromCurve = none → stageCurve cfg bank v = evalKnots (knots bank.toCurve) v)
        ∧ ∀ c x y, bank.fromCurve = some c → x = evalKnots (knots c) v → y = evalKnots (knots bank.toCurve) v →
          stageCurve cfg bank v = x + ((y - x) * bank.w + 128) / 256
            ∧ (bank.w ≤ 256 → min x y ≤ stageCurve cfg bank v ∧ stageCurve cfg bank v ≤ max x y)

/-- A pixel in GRADING that is not bypassed (R71 to R80, R82, R83): each channel goes through black, gain, curve and
lift, the three meet in the luma and the saturation, and each leaves clamped to the legal range; the values the
final clamp changes are counted. The pixel takes the next index of its line. A bypassed pixel in GRADING leaves
with its two lowest bits dropped, clamped to the legal range and counted (R82, R83); in BLACK every pixel leaves
as legal black and nothing is counted (R80, R85, R186); and a line end closes the line (R70). -/
def Obligations.PixelLeavesByTheOutputMode : Prop :=
  (∀ (s : State) (r g b : BitVec 12) (i : Nat) (lo hi : Int), s.part ≠ .reset → s.pipeline.outputMode = .grading →
    i = (if s.pipeline.lineOpen then s.pipeline.pixelIndex else 0) →
    (s.pipeline.active.mode.compare = .off
      ∨ (s.pipeline.active.mode.compare = .split ∧ s.pipeline.active.mode.split ≤ i)) →
    (lo, hi) = (if s.config.legalRange = .narrow then (64, 940) else (4, 1019)) →
    ∃ t, exec (.pixel r g b) s = .next t
      ∧ (let bank := s.pipeline.active
         let v1 (x k : Int) : Int := max 0 (x - k)
         let v2 (x k : Int) : Int := min 4095 ((x * k + 512) / 1024)
         let v3 (x : Int) : Int := stageCurve s.config bank x
         let v4 (x k : Int) : Int := max 0 (min 1023 (x + k))
         let vr := v4 (v3 (v2 (v1 r.toNat bank.black.r) bank.gain.r)) bank.lift.r
         let vg := v4 (v3 (v2 (v1 g.toNat bank.black.g) bank.gain.g)) bank.lift.g
         let vb := v4 (v3 (v2 (v1 b.toNat bank.black.b) bank.gain.b)) bank.lift.b
         let y : Int := (306 * vr + 601 * vg + 117 * vb + 512) / 1024
         let v5 (v : Int) : Int := y + ((v - y) * bank.sat + 512) / 1024
         let out (v : Int) : Int := max lo (min hi (v5 v))
         let n (v : Int) : Nat := if out v = v5 v then 0 else 1
         t = { s with pipeline := { s.pipeline with
             lineOpen := true, pixelIndex := min (i + 1) 2047,
             clipInProgress := min (s.pipeline.clipInProgress + (n vr + n vg + n vb)) 65535,
             port := s.pipeline.port
               ++ [.pixel (BitVec.ofInt 10 (out vr)) (BitVec.ofInt 10 (out vg)) (BitVec.ofInt 10 (out vb))] } }))
    ∧ ((∀ (s : State) (r g b : BitVec 12) (i : Nat) (lo hi : Int), s.part ≠ .reset → s.pipeline.outputMode = .grading →
      i = (if s.pipeline.lineOpen then s.pipeline.pixelIndex else 0) →
      (s.pipeline.active.mode.compare = .bypass
        ∨ (s.pipeline.active.mode.compare = .split ∧ i < s.pipeline.active.mode.split)) →
      (lo, hi) = (if s.config.legalRange = .narrow then (64, 940) else (4, 1019)) →
      ∃ t, exec (.pixel r g b) s = .next t
        ∧ (let out (x : BitVec 12) : Int := max lo (min hi ((x.toNat : Int) / 4))
           let n (x : BitVec 12) : Nat := if out x = (x.toNat : Int) / 4 then 0 else 1
           t = { s with pipeline := { s.pipeline with
               lineOpen := true, pixelIndex := min (i + 1) 2047,
               clipInProgress := min (s.pipeline.clipInProgress + (n r + n g + n b)) 65535,
               port := s.pipeline.port
                 ++ [.pixel (BitVec.ofInt 10 (out r)) (BitVec.ofInt 10 (out g)) (BitVec.ofInt 10 (out b))] } }))
    ∧ (∀ (s : State) (r g b : BitVec 12) (i : Nat) (black : BitVec 10), s.part ≠ .reset →
      s.pipeline.outputMode = .black → s.pipeline.clipInProgress ≤ 65535 →
      i = (if s.pipeline.lineOpen then s.pipeline.pixelIndex else 0) →
      black = (if s.part = .loading ∨ s.config.legalRange = .narrow then 64 else 4) →
      exec (.pixel r g b) s = .next { s with pipeline := { s.pipeline with
        lineOpen := true, pixelIndex := min (i + 1) 2047,
        port := s.pipeline.port ++ [.pixel black black black] } })
    ∧ ∀ s : State, exec .lineEnd s = .next { s with pipeline := { s.pipeline with lineOpen := false } })

/-! ## The cue line -/

/-- A receive error (R98, R99, R100): the message being assembled is discarded and the receiver goes to DISCARDING,
its kind flag is set, the error counted, LINE_ERROR raised, and an EMPTY capture record loaded with the kind, the
header characters and the field count, a LOCKED one kept and marked lost. A character with a stop bit of 0 is FRAMING,
one with a wrong parity bit PARITY, and a GAP is more than 12 bit times of silence within a message. That the idle
measure restarts after a character whose stop bit reads 0 is deduced (log 26). -/
def Obligations.ReceiveErrorsAreCaptured : Prop :=
  (∀ (s : State) (c : RxChar) (a : Assembly) (k : LineErrorKind), s.up = true → s.cue.receiverOn = true →
      s.cue.rx = .assembling a →
      (c.stop = false ∧ c.parity = parityOf c.data c.mark ∧ k = .framing
        ∨ c.stop = true ∧ c.parity ≠ parityOf c.data c.mark ∧ k = .parity) →
      ∃ t, exec (.receiveError c) s = .next t ∧ exec (.characterTaken c) s = .next t ∧ s.errorTaken t k a.chars
        ∧ t.cue.idle = ⟨true, 0⟩)
    ∧ (∀ (s : State) (c : RxChar) (a : Assembly) (k : LineErrorKind) (chars : List Byte), s.up = true →
      s.cue.receiverOn = true → s.cue.rx = .assembling a → a.own = false → c.stop = true → c.mark = false →
      c.parity = parityOf c.data false → chars = a.chars ++ [c.data] →
      (chars.length = 4 ∧ 64 < c.data.toNat ∧ k = .length
        ∨ chars.length = 6 + u8 chars 3 ∧ 6 ≤ chars.length
          ∧ crc ((chars.drop 1).take (3 + u8 chars 3)) ≠ BitVec.ofNat 16 (u16 chars (4 + u8 chars 3)) ∧ k = .crc) →
      ∃ t, exec (.receiveError c) s = .next t ∧ s.errorTaken t k chars ∧ t.cue.idle = ⟨true, 0⟩)
    ∧ (∀ (s : State) (c : RxChar) (a : Assembly), s.up = true → s.cue.receiverOn = true → s.cue.rx = .assembling a →
      c.stop = true → c.mark = true → c.parity = parityOf c.data true →
      ∃ t u, exec (.receiveError c) s = .next t ∧ s.errorTaken u .breakErr a.chars ∧ u.cue.idle = ⟨true, 0⟩
        ∧ t = { u with cue := { u.cue with rx := t.cue.rx } }
        ∧ (t.cue.rx = .discarding ∨ ∃ how own, t.cue.rx = .assembling ⟨how, [c.data], own⟩))
    ∧ ∀ (s : State) (waited : Nat) (a : Assembly), s.up = true → s.cue.rx = .assembling a →
      s.cue.idle.running = true → 12 < s.cue.idle.bits + waited →
      ∃ t, exec (.gapExpiry waited) s = .next t ∧ s.errorTaken t .gap a.chars
        ∧ t.cue.idle = ⟨true, s.cue.idle.bits + waited⟩

/-- The character that completes a message of another station whose CRC checks (R96, R97, R103, R104): a POSITION is
handed over; any other kind joins the inbound queue behind its eight places, and is dropped, counted and raised where
they are taken. A character taken by an idle or discarding receiver (R94, R95): a fault-free one with mark 1 starts a
message where the destination code is the station's, that of a group of the map or an accepted broadcast, and is
discarded otherwise; every other is passed over. A fault-free mark-0 character that neither breaks the length limit
nor completes a message is added to the one assembled. The idle measure restarts (R108). The slot a POSITION is handed
over in is the model's (log 4). That it does so after a character whose stop bit reads 0 too is deduced (log 26). -/
def Obligations.CharactersAreFilteredAndRouted : Prop :=
  (∀ (s : State) (c : RxChar) (a : Assembly) (chars : List Byte) (m : Message), s.up = true →
    s.cue.receiverOn = true → s.cue.rx = .assembling a → a.own = false → c.stop = true → c.mark = false →
    c.parity = parityOf c.data false → chars = a.chars ++ [c.data] → 6 ≤ chars.length →
    chars.length = 6 + u8 chars 3 →
    crc ((chars.drop 1).take (3 + u8 chars 3)) = BitVec.ofNat 16 (u16 chars (4 + u8 chars 3)) →
    m = ⟨chars.getD 0 0, a.addressing, chars.getD 1 0, chars.getD 2 0, (chars.drop 4).take (u8 chars 3)⟩ →
    ∃ t, exec (.messageAccepted c) s = .next t ∧ exec (.characterTaken c) s = .next t ∧ t.cue.rx = .idle
      ∧ t.cue.idle = ⟨true, 0⟩ ∧ t = { s with cue := t.cue, events := { s.events with flags := t.events.flags } }
      ∧ (if m.kind = 0x10 then t.cue = { s.cue with rx := .idle, idle := ⟨true, 0⟩, handover := s.cue.handover ++ [m] }
         else if s.cue.inbound.length < 8 then
           t.cue = { s.cue with rx := .idle, idle := ⟨true, 0⟩, inbound := s.cue.inbound ++ [m] }
         else t.cue.inbound = s.cue.inbound ∧ t.cue.rxDrops = min (s.cue.rxDrops + 1) 65535
           ∧ EventFlag.rxDrop.isIn t.events.flags = true))
    ∧ ((∀ (s : State) (c : RxChar), s.up = true → s.cue.receiverOn = true →
      (s.cue.rx = .idle ∨ s.cue.rx = .discarding) →
      exec (.characterTaken c) s = .next { s with cue := { s.cue with
        idle := ⟨true, 0⟩,
        rx :=
          if c.stop = true ∧ c.parity = parityOf c.data c.mark ∧ c.mark = true then
            if c.data = s.address.setWidth 8 then .assembling ⟨.individual, [c.data], s.driving⟩
            else if 0x40 ≤ c.data.toNat ∧ c.data.toNat ≤ 0x7F ∧ s.config.groups.getLsbD (c.data.toNat - 0x40) = true then
              .assembling ⟨.group, [c.data], s.driving⟩
            else if c.data = 0xFF ∧ s.config.broadcast = true then .assembling ⟨.broadcast, [c.data], s.driving⟩
            else .discarding
          else s.cue.rx } })
    ∧ ∀ (s : State) (c : RxChar) (a : Assembly), s.up = true → s.cue.receiverOn = true → s.cue.rx = .assembling a →
      c.stop = true → c.mark = false → c.parity = parityOf c.data false →
      (a.chars.length = 3 → c.data.toNat ≤ 64) → a.chars.length + 1 < 6 + u8 (a.chars ++ [c.data]) 3 →
      exec (.characterTaken c) s = .next { s with cue := { s.cue with
        idle := ⟨true, 0⟩, rx := .assembling { a with chars := a.chars ++ [c.data] } } })

/-- The transmitter (R108 to R110, R112): in RUNNING, after the quiet gap, the address slot, the back-off and the yield, the
head leaves the queue and the attempt begins; completed, the message leaves as sent and the yield mark is set; a collision
keeps it for another attempt, and the eighth abandons it, counted and raised; a stopped message ends after its character. A
start bit stops the idle measure, and at another station's character clears the yield mark. -/
def Obligations.AttemptsSendOrCollide : Prop :=
  (∀ (s : State) (waited : Nat) (m : TxMsg) (q : List TxMsg), s.part = .running → s.cue.tx = .empty →
      s.cue.txq = m :: q → s.responder.streaming = false → s.cue.idle.running = true →
      24 + 2 * s.address.toNat + (if s.cue.yieldMark then 64 else 0) ≤ s.cue.idle.bits + waited →
      exec (.attemptStart waited) s = .next { s with cue := { s.cue with
        tx := .sending m 0, txq := q, yieldMark := false, idle := ⟨false, s.cue.idle.bits + waited⟩ } })
    ∧ (∀ (s : State) (waited n : Nat) (m : TxMsg), s.part = .running → s.cue.tx = .waiting m n →
      s.responder.streaming = false → s.cue.idle.running = true →
      24 + 2 * s.address.toNat + 16 * n + (if s.cue.yieldMark then 64 else 0) ≤ s.cue.idle.bits + waited →
      exec (.attemptStart waited) s = .next { s with cue := { s.cue with
        tx := .sending m n, yieldMark := false, idle := ⟨false, s.cue.idle.bits + waited⟩ } })
    ∧ (∀ (s : State) (m : TxMsg) (n : Nat), s.cue.tx = .sending m n →
      exec .attemptComplete s = .next { s with cue := { s.cue with
        tx := .empty, yieldMark := true, idle := ⟨true, 0⟩,
        rx := match s.cue.rx with
          | .assembling a => if a.own then .idle else .assembling a
          | .idle => .idle
          | .discarding => .discarding } })
    ∧ (∀ (s : State) (m : TxMsg) (n : Nat), s.up = true → s.cue.tx = .sending m n → n < 8 →
      ∃ t, exec .collision s = .next t
        ∧ t = { s with cue := t.cue, events := { s.events with flags := t.events.flags } }
        ∧ (if n < 7 then t.cue.tx = .waiting m (n + 1) ∧ t.cue.txAbandons = s.cue.txAbandons ∧ t.events = s.events
           else t.cue.tx = .empty ∧ t.cue.txAbandons = min (s.cue.txAbandons + 1) 65535
             ∧ EventFlag.txAbandon.isIn t.events.flags = true))
    ∧ (∀ s : State, s.cue.tx = .stopping →
      exec .stoppedCharacterEnd s = .next { s with cue := { s.cue with
        tx := .empty, idle := ⟨true, 0⟩,
        rx := match s.cue.rx with
          | .assembling a => if a.own then .idle else .assembling a
          | .idle => .idle
          | .discarding => .discarding } })
    ∧ ∀ s : State, s.up = true →
      exec .lineStartBit s = .next { s with cue := { s.cue with
        idle := ⟨false, s.cue.idle.bits⟩, yieldMark := s.cue.yieldMark && s.txEnable } }

/-! ## The Message Handler -/

/-- The IDLE handler takes the head of the inbound queue (R114, R115, R116, R191). To wait for the store or be granted
it: an edit, of sufficient length; an individually addressed QUERY SCENE of a frame of the reel (R121, R123); a RESET
LIST that is not broadcast (R130, R132); a SCENE_ENTERED of the partner with a frame and a start that are frames, or
none (R133). To be carried out at once: a CLEAR, SET_MODE or FETCH_FROM; an individually addressed QUERY of another
topic; a RESET SOFT that is not broadcast; a PUNCH_ARM or PUNCH_ABORT from an allowed source (R117); an individually
addressed LIST_QUERY, LIST_REC or LIST_END (R140, R148). A message too short, of a kind no station may send it, or not
addressed as its kind allows is counted as ignored and changes nothing else. The kind codes are those of R190, every
other code a kind the part does not know, and the length each kind needs is that of R191 to R196. -/
def Obligations.HandlerTakesTheHead : Prop :=
  (∀ (s : State) (m : Message) (rest : List Message) (k : MsgKind), s.up = true → s.handler.state = .idle →
      s.cue.inbound = m :: rest → MsgKind.ofCode m.kind = some k →
      (k ∈ [MsgKind.sceneSet, .gradeSet, .sceneMove, .sceneDelete, .rangeTrim, .listClear]
        ∨ (k = .query ∧ m.addressing = .individual ∧ u8 m.payload 0 = 1 ∧ u24 m.payload 1 ≤ 1048575)
        ∨ (k = .reset ∧ m.addressing ≠ .broadcast ∧ u8 m.payload 0 = 1)
        ∨ (k = .sceneEntered ∧ s.partner = some m.source ∧ u24 m.payload 0 ≤ 1048575
          ∧ (u24 m.payload 3 ≤ 1048575 ∨ u24 m.payload 3 = 0xFFFFFF))) →
      requiredLength k m.payload ≤ m.payload.length →
      ∃ t, exec .mhTake s = .next t ∧ t.handler = ⟨.executing m .store, s.handler.ignored⟩
        ∧ t = { s with cue := { s.cue with inbound := rest }, handler := t.handler, arbiter := t.arbiter }
        ∧ (if s.arbiter.holder = none ∧ s.arbiter.noneWaits = true then
             t.arbiter = { s.arbiter with holder := some .handler }
           else t.arbiter = { s.arbiter with handlerWaits := true }))
    ∧ (∀ (s : State) (m : Message) (rest : List Message) (k : MsgKind), s.up = true → s.handler.state = .idle →
      s.cue.inbound = m :: rest → MsgKind.ofCode m.kind = some k →
      (k ∈ [MsgKind.clear, .setMode, .fetchFrom]
        ∨ (k = .query ∧ m.addressing = .individual ∧ u8 m.payload 0 ≤ 4 ∧ u8 m.payload 0 ≠ 1)
        ∨ (k = .reset ∧ m.addressing ≠ .broadcast ∧ u8 m.payload 0 = 0)
        ∨ (k ∈ [MsgKind.punchArm, .punchAbort] ∧ (s.config.recorder = none ∨ s.config.recorder = some m.source))
        ∨ (k ∈ [MsgKind.listQuery, .listRec, .listEnd] ∧ m.addressing = .individual)) →
      requiredLength k m.payload ≤ m.payload.length →
      exec .mhTake s = .next { s with
        cue := { s.cue with inbound := rest }, handler := ⟨.executing m .carry, s.handler.ignored⟩ })
    ∧ (∀ (s : State) (m : Message) (rest : List Message), s.up = true → s.handler.state = .idle →
      s.cue.inbound = m :: rest →
      ((∃ k, MsgKind.ofCode m.kind = some k ∧ m.payload.length < requiredLength k m.payload)
        ∨ MsgKind.ofCode m.kind ∈ [some MsgKind.eventReport, some .status, some .reply]
        ∨ (MsgKind.ofCode m.kind ∈ [some MsgKind.query, some .listQuery, some .listRec, some .listEnd]
            ∧ m.addressing ≠ .individual)
        ∨ (MsgKind.ofCode m.kind = some .reset ∧ m.addressing = .broadcast)
        ∨ (MsgKind.ofCode m.kind = none ∧ m.addressing ≠ .individual)) →
      exec .mhTake s = .next { s with
        cue := { s.cue with inbound := rest },
        handler := { s.handler with ignored := min (s.handler.ignored + 1) 65535 } })
    ∧ (∀ c : Byte, MsgKind.ofCode c =
        (match c.toNat with
         | 0x10 => some .position
         | 0x20 => some .sceneSet
         | 0x21 => some .gradeSet
         | 0x22 => some .sceneMove
         | 0x23 => some .sceneDelete
         | 0x24 => some .rangeTrim
         | 0x25 => some .listClear
         | 0x30 => some .query
         | 0x31 => some .clear
         | 0x32 => some .setMode
         | 0x33 => some .reset
         | 0x40 => some .punchArm
         | 0x41 => some .punchAbort
         | 0x50 => some .fetchFrom
         | 0x51 => some .listQuery
         | 0x52 => some .listRec
         | 0x53 => some .listEnd
         | 0x60 => some .sceneEntered
         | 0x61 => some .eventReport
         | 0x62 => some .status
         | 0x70 => some .reply
         | _ => none))
    ∧ ∀ (p : List Byte) (knots record : Nat → Nat),
      (∀ i, knots i = if 130 ≤ u8 p i ∧ u8 p i ≤ 137 then 3 * (u8 p i - 128) else 0) →
      (∀ i, record i = if bitAt p (i + 7) 1 then 29 + knots (i + 28) else 8) →
      requiredLength .position p = 6 ∧ requiredLength .sceneSet p = record 0
        ∧ requiredLength .gradeSet p = (if bitAt p 3 1 then 25 + knots 24 else 4) ∧ requiredLength .sceneMove p = 6
        ∧ requiredLength .sceneDelete p = 3 ∧ requiredLength .rangeTrim p = 26 ∧ requiredLength .listClear p = 6
        ∧ requiredLength .query p = (if u8 p 0 = 1 then 4 else 1) ∧ requiredLength .clear p = 3
        ∧ requiredLength .setMode p = 6 ∧ requiredLength .reset p = 1 ∧ requiredLength .punchArm p = 7
        ∧ requiredLength .punchAbort p = 0 ∧ requiredLength .fetchFrom p = 7 ∧ requiredLength .listQuery p = 7
        ∧ requiredLength .listRec p = 3 + record 3 ∧ requiredLength .listEnd p = 4
        ∧ requiredLength .sceneEntered p = 12 ∧ requiredLength .eventReport p = 7 ∧ requiredLength .status p = 48

/-- What the take refuses by its fields or its source (R117, R121, R130, R133): a QUERY of a topic above 4, or SCENE
beyond the reel, and a RESET of a scope above 1 are answered BAD_FIELD without being carried out; a punch message from
another than the recorder, and a SCENE_ENTERED from another than the partner, are ignored. An individually addressed
message of a kind the part does not know is answered UNKNOWN_KIND, whatever its length, and changes nothing else
(R116, R118, R119). That a BAD_FIELD of a QUERY or a RESET is answered within the take is the model's choice (log 30). -/
def Obligations.HandlerRefusesAtTheTake : Prop :=
  ((∀ (s : State) (m : Message) (rest : List Message), s.up = true → s.handler.state = .idle →
      s.cue.inbound = m :: rest → m.addressing = .individual → m.source.toNat ≤ 63 → s.sharedTaken < 5 →
      MsgKind.ofCode m.kind = some .query → requiredLength .query m.payload ≤ m.payload.length →
      (4 < u8 m.payload 0 ∨ (u8 m.payload 0 = 1 ∧ 1048575 < u24 m.payload 1)) →
      exec .mhTake s = .next { s with cue := { s.cue with
        inbound := rest,
        txq := s.cue.txq ++ [⟨m.source, .reply m.kind .badField (.query (m.payload.getD 0 0) .nothing)⟩] } })
    ∧ (∀ (s : State) (m : Message) (rest : List Message), s.up = true → s.handler.state = .idle →
      s.cue.inbound = m :: rest → m.addressing ≠ .broadcast → s.sharedTaken < 5 →
      MsgKind.ofCode m.kind = some .reset → 1 ≤ m.payload.length → 1 < u8 m.payload 0 →
      exec .mhTake s = .next { s with
        cue := { s.cue with inbound := rest, txq := s.cue.txq ++ replyTo m .badField .plain },
        handler := { s.handler with ignored :=
          if m.addressing = .individual then s.handler.ignored else min (s.handler.ignored + 1) 65535 } })
    ∧ ∀ (s : State) (m : Message) (rest : List Message), s.up = true → s.handler.state = .idle →
      s.cue.inbound = m :: rest →
      ((MsgKind.ofCode m.kind ∈ [some MsgKind.punchArm, some .punchAbort]
          ∧ ∃ a, s.config.recorder = some a ∧ a ≠ m.source)
        ∨ (MsgKind.ofCode m.kind = some .sceneEntered
          ∧ (s.partner ≠ some m.source ∨ 1048575 < u24 m.payload 0
            ∨ (1048575 < u24 m.payload 3 ∧ u24 m.payload 3 ≠ 0xFFFFFF)))) →
      exec .mhTake s = .next { s with
        cue := { s.cue with inbound := rest },
        handler := { s.handler with ignored := min (s.handler.ignored + 1) 65535 } })
    ∧ (∀ (s : State) (m : Message) (rest : List Message), s.up = true → s.handler.state = .idle →
    s.cue.inbound = m :: rest → MsgKind.ofCode m.kind = none → m.addressing = .individual → m.source.toNat ≤ 63 →
    s.sharedTaken < 5 →
    ∃ t, exec .mhTake s = .next t ∧ t.handler.state = .executing m .carry
      ∧ exec .unknownKind t = .next { s with cue := { s.cue with
          inbound := rest, txq := s.cue.txq ++ [⟨m.source, .reply m.kind .unknownKind .plain⟩] } })

/-! ## Edits -/

/-- Values outside their ranges are clamped, and the clamped value is stored; a value in its range is stored as it is
(R26). -/
def Obligations.EditValuesAreClamped : Prop :=
  ∀ (r : Record) (g : Grade), r.grade = some g →
    ∃ h, r.body.grade = some h ∧ r.body.sceneId = r.sceneId ∧ r.body.transitionLen = min 63 r.transitionLen
      ∧ r.body.omitted = r.omitted
      ∧ h.black = ⟨max 0 (min 1023 g.black.r), max 0 (min 1023 g.black.g), max 0 (min 1023 g.black.b)⟩
      ∧ h.gain = ⟨max 0 (min 4095 g.gain.r), max 0 (min 4095 g.gain.g), max 0 (min 4095 g.gain.b)⟩
      ∧ h.lift = ⟨max (-256) (min 255 g.lift.r), max (-256) (min 255 g.lift.g), max (-256) (min 255 g.lift.b)⟩
      ∧ h.sat = max 0 (min 2047 g.sat)
      ∧ (∀ i, g.curve = .preset i → h.curve = .preset i)
      ∧ ∀ ks, g.curve = .knots ks → h.curve = .knots (ks.map (fun k => ⟨k.x, min 1023 k.y⟩))

/-- SCENE_SET at a start that holds no record inserts one with revision 1, its knots taken from the pool (R29); at a
start that holds one it replaces the record, its revision counted up, its knots exchanged, its damaged mark cleared
(R30). Every other start keeps its record; the REPLY carries start and revision (R120); the resolver is signalled
(R25, R55). The order of signal, release and REPLY is the model's (log 12, log 33). -/
def Obligations.SceneSetWritesTheRecord : Prop :=
  (∀ (s : State) (m : Message) (chk : Checks) (r : Record), s.up = true → atStore .sceneSet s = some m →
      recordAt m.payload 0 = r → chk.parity = [] → s.store.frozen = false → r.fault = false →
      sharedCount s.cue.txq ≤ 3 → recordAtStart r.start s.store.index = none → s.store.index.length < 1024 →
      r.body.knotCount ≤ s.store.freeKnots →
      ∃ t, exec (.sceneSet chk) s = .next t ∧ s.storeStep t ∧ s.signalled t ∧ t.events = s.events
        ∧ t.cue.txq = s.cue.txq ++ replyTo m .ok (.edit r.start 1 0)
        ∧ t.store = { s.store with index := t.store.index, freeKnots := s.store.freeKnots - r.body.knotCount }
        ∧ t.store.index.length = s.store.index.length + 1
        ∧ ∀ n, recordAtStart n t.store.index =
            if n = r.start then some ⟨r.start, 1, r.body.knotCount, false, false, r.body⟩
            else recordAtStart n s.store.index)
    ∧ ∀ (s : State) (m : Message) (chk : Checks) (r : Record) (e : Entry), s.up = true →
      atStore .sceneSet s = some m → recordAt m.payload 0 = r → chk.parity = [] → s.store.frozen = false →
      r.fault = false → sharedCount s.cue.txq ≤ 3 → recordAtStart r.start s.store.index = some e →
      r.body.knotCount ≤ s.store.freeKnots + e.knotCount →
      ∃ t, exec (.sceneSet chk) s = .next t ∧ s.storeStep t ∧ s.signalled t ∧ t.events = s.events
        ∧ t.cue.txq = s.cue.txq ++ replyTo m .ok (.edit r.start (min 255 (e.revision + 1)) 0)
        ∧ t.store = { s.store with
            index := t.store.index, freeKnots := s.store.freeKnots + e.knotCount - r.body.knotCount }
        ∧ t.store.index.length = s.store.index.length
        ∧ ∀ n, recordAtStart n t.store.index =
            if n = r.start then some ⟨r.start, min 255 (e.revision + 1), r.body.knotCount, false, false, r.body⟩
            else recordAtStart n s.store.index

/-- GRADE_SET sets the grade carried, clamped, or clears it (R31); it keeps scene_id, transition_len and omit as its
body read gives them, which for a damaged or uncorrectable body are 0, 0 and no (R24, R32); the revision counts up,
the mark is cleared and the knots are exchanged. The body is read before the knots are checked (deduced, log 13). That
the signal is made at the release and takes part in its grant is deduced (log 12). -/
def Obligations.GradeSetWritesTheGrade : Prop :=
  ∀ (s : State) (m : Message) (chk : Checks) (e : Entry) (b : Body) (grade : Option Grade), s.up = true →
    atStore .gradeSet s = some m → chk.parity = [] → s.store.frozen = false → u24 m.payload 0 ≤ 1048575 →
    grade = (if bitAt m.payload 3 1 then some (gradeAt m.payload 4) else none) → gradeFault grade = false →
    sharedCount s.cue.txq ≤ 3 → recordAtStart (u24 m.payload 0) s.store.index = some e →
    b = { bodyTaken chk e with grade := grade.map Grade.clamped } → b.knotCount ≤ s.store.freeKnots + e.knotCount →
    ∃ t, exec (.gradeSet chk) s = .next t ∧ s.storeStep t ∧ s.signalled t
      ∧ (∃ q, t.cue.txq = q ++ replyTo m .ok (.edit (u24 m.payload 0) (min 255 (e.revision + 1)) 0))
      ∧ t.store = { s.store with
          index := t.store.index, freeKnots := s.store.freeKnots + e.knotCount - b.knotCount }
      ∧ ∀ n, recordAtStart n t.store.index =
          if n = u24 m.payload 0 then
            some ⟨u24 m.payload 0, min 255 (e.revision + 1), b.knotCount, false, false, b⟩
          else recordAtStart n s.store.index

/-- SCENE_MOVE re-keys the record: at its new start it holds its body, knots and damaged mark with its revision
counted up, and its old start holds no record; a move to its own start counts the revision only (R33). That the signal
is made at the release and takes part in its grant is deduced (log 12). -/
def Obligations.SceneMoveReKeysTheRecord : Prop :=
  ∀ (s : State) (m : Message) (chk : Checks) (e : Entry) (src dest : Nat), s.up = true →
    atStore .sceneMove s = some m → chk.parity = [] → s.store.frozen = false → src = u24 m.payload 0 →
    dest = u24 m.payload 3 → src ≤ 1048575 → dest ≤ 1048575 → sharedCount s.cue.txq ≤ 3 →
    recordAtStart src s.store.index = some e → (dest = src ∨ recordAtStart dest s.store.index = none) →
    ∃ t, exec (.sceneMove chk) s = .next t ∧ s.storeStep t ∧ s.signalled t ∧ t.events = s.events
      ∧ t.cue.txq = s.cue.txq ++ replyTo m .ok (.edit dest (min 255 (e.revision + 1)) 0)
      ∧ t.store = { s.store with index := t.store.index }
      ∧ ∀ n, recordAtStart n t.store.index =
          if n = dest then some { e with start := dest, revision := min 255 (e.revision + 1) }
          else if n = src then none
          else recordAtStart n s.store.index

/-- SCENE_DELETE removes the record, and no other, and its knots return to the pool by the count held in the index;
the frames it covered go to the record before it, or to no scene if none precedes it; with no record at the start it
is refused with NO_SCENE (R34). The order of signal, release and REPLY is the model's (log 12, log 33). -/
def Obligations.SceneDeleteRemovesTheRecord : Prop :=
  (∀ (s : State) (m : Message) (chk : Checks) (e : Entry) (start : Nat), s.up = true →
      atStore .sceneDelete s = some m → chk.parity = [] → s.store.frozen = false → start = u24 m.payload 0 →
      start ≤ 1048575 → sharedCount s.cue.txq ≤ 3 → recordAtStart start s.store.index = some e →
      ∃ t, exec (.sceneDelete chk) s = .next t ∧ s.storeStep t ∧ s.signalled t ∧ t.events = s.events
        ∧ t.cue.txq = s.cue.txq ++ replyTo m .ok (.edit start 0 0)
        ∧ t.store = { s.store with index := t.store.index, freeKnots := s.store.freeKnots + e.knotCount }
        ∧ t.store.index = s.store.index.filter (fun x => x.faulty || decide (x.start ≠ start))
        ∧ (s.store.ok → ∀ f, start ≤ f → governing f s.store.index = some e →
            (1 ≤ start → governing f t.store.index = governing (start - 1) s.store.index)
              ∧ (start = 0 → governing f t.store.index = none)))
    ∧ ∀ (s : State) (m : Message) (chk : Checks), s.up = true → atStore .sceneDelete s = some m → chk.parity = [] →
      s.store.frozen = false → u24 m.payload 0 ≤ 1048575 → sharedCount s.cue.txq ≤ 3 →
      recordAtStart (u24 m.payload 0) s.store.index = none →
      ∃ t, exec (.sceneDelete chk) s = .next t ∧ s.editRefused t m .noScene (u24 m.payload 0)

/-- A RANGE_TRIM accepted at its first grant begins its walk (R35). A trim step writes the next record of the range
with every value plus its delta, clamped, its revision counted up, where a value changes; an ungraded or damaged
record, or one found uncorrectable, is visited and not trimmed (R35, R36). The step releases the store, which is then
free where no client waits (R37); the next TRIM_STEP asks for it, and makes its step at once where it is free, or
waits (the request is the model's form, log 37). A step that finds no further record ends the walk with OK and the
count of records changed (R35, R36, R120). A store found frozen at the grant ends the walk with STORE_FROZEN and
EDIT_REFUSED; a step whose own lookup finds a faulty entry marks it, freezes the store, raises INDEX_FAULT, passes
over it, completes, and ends so too (R37, R173). A body found correctable is counted, captured with the operation EDIT,
raises STORE_CE and is trimmed as corrected; one found uncorrectable gets the damaged mark, is counted, captured and
raises STORE_UE; either signals the resolver (R169 to R171). That it ends so where it finds no record is deduced (log 14), and so
is the signal made at the release (log 12). -/
def Obligations.TrimWalksTheRange : Prop :=
  (∀ (s : State) (m : Message), atStore .rangeTrim s = some m → s.store.frozen = false →
      u24 m.payload 0 ≤ u24 m.payload 3 → u24 m.payload 3 ≤ 1048575 →
      exec .rangeTrim s = .next { s with handler := ⟨.executing m (.walk ⟨none, 0⟩), s.handler.ignored⟩ })
    ∧ (∀ (s : State) (m : Message) (w : Walk) (chk : Checks) (e : Entry) (g h : Grade), s.up = true →
      s.arbiter.holder = some .handler → s.handler.state = .executing m (.walk w) → chk.parity = [] →
      s.store.frozen = false → s.arbiter.handlerWaits = false →
      (match w.cursor with
       | none => firstFrom (u24 m.payload 0) s.store.index
       | some c => nextAfter c s.store.index) = some e →
      e.start ≤ u24 m.payload 3 → e.damaged = false → bodyOutcome chk e.start = .clean → e.body.grade = some g →
      h = { g with
        black := ⟨max 0 (min 1023 (g.black.r + s16 m.payload 6)), max 0 (min 1023 (g.black.g + s16 m.payload 8)),
          max 0 (min 1023 (g.black.b + s16 m.payload 10))⟩,
        gain := ⟨max 0 (min 4095 (g.gain.r + s16 m.payload 12)), max 0 (min 4095 (g.gain.g + s16 m.payload 14)),
          max 0 (min 4095 (g.gain.b + s16 m.payload 16))⟩,
        lift := ⟨max (-256) (min 255 (g.lift.r + s16 m.payload 18)), max (-256) (min 255 (g.lift.g + s16 m.payload 20)),
          max (-256) (min 255 (g.lift.b + s16 m.payload 22))⟩,
        sat := max 0 (min 2047 (g.sat + s16 m.payload 24)) } →
      ∃ t, exec (.trimStep chk) s = .next t ∧ t.cue = s.cue ∧ t.events = s.events
        ∧ t.arbiter.handlerWaits = false ∧ t.arbiter.holder ≠ some .handler
        ∧ (if h = g then
            t.store = s.store ∧ t.handler.state = .executing m (.walk ⟨some e.start, w.changed⟩)
              ∧ t.resolver = { s.resolver with latch := t.resolver.latch }
              ∧ (s.arbiter.noneWaits = true → t.arbiter.holder = none)
           else
            t.handler.state = .executing m (.walk ⟨some e.start, w.changed + 1⟩) ∧ s.signalled t
              ∧ t.store = { s.store with index := t.store.index }
              ∧ ∀ n, recordAtStart n t.store.index =
                  if n = e.start then
                    (recordAtStart n s.store.index).map (fun o =>
                      { o with revision := min 255 (o.revision + 1), body := { e.body with grade := some h } })
                  else recordAtStart n s.store.index))
    ∧ (∀ (s : State) (m : Message) (w : Walk) (chk : Checks) (e : Entry), s.up = true →
      s.arbiter.holder = some .handler → s.handler.state = .executing m (.walk w) → chk.parity = [] →
      s.store.frozen = false →
      (match w.cursor with
       | none => firstFrom (u24 m.payload 0) s.store.index
       | some c => nextAfter c s.store.index) = some e →
      e.start ≤ u24 m.payload 3 → (bodyTaken chk e).grade = none →
      ∃ t, exec (.trimStep chk) s = .next t
        ∧ t.handler = ⟨.executing m (.walk ⟨some e.start, w.changed⟩), s.handler.ignored⟩
        ∧ (∀ n, (recordAtStart n t.store.index).map (fun o => (o.revision, o.body))
            = (recordAtStart n s.store.index).map (fun o => (o.revision, o.body))))
    ∧ (∀ (s : State) (m : Message) (w : Walk) (chk : Checks) (e : Entry) (syn : Byte), s.up = true →
      s.arbiter.holder = some .handler → s.handler.state = .executing m (.walk w) → chk.parity = [] →
      s.store.frozen = false →
      (match w.cursor with
       | none => firstFrom (u24 m.payload 0) s.store.index
       | some c => nextAfter c s.store.index) = some e →
      e.start ≤ u24 m.payload 3 → e.damaged = false → s.events.capture = ⟨.empty, false⟩ →
      (∀ g h, bodyOutcome chk e.start = .correctable syn → e.body.grade = some g →
        h = g.trimmed (deltasAt m.payload) →
        ∃ t n, exec (.trimStep chk) s = .next t ∧ s.signalled t
          ∧ t.handler = ⟨.executing m (.walk ⟨some e.start, n⟩), s.handler.ignored⟩
          ∧ t.events = { s.events with
              flags := t.events.flags, corrected := min (s.events.corrected + 1) 65535,
              capture := ⟨.holding ⟨.corrected, .edit, e.start, syn⟩, false⟩ }
          ∧ EventFlag.storeCe.isIn t.events.flags = true
          ∧ (if h = g then n = w.changed ∧ t.store = s.store
             else n = w.changed + 1 ∧ t.store = { s.store with index := t.store.index }
               ∧ ∀ j, recordAtStart j t.store.index =
                   if j = e.start then
                     some { e with revision := min 255 (e.revision + 1), body := { e.body with grade := some h } }
                   else recordAtStart j s.store.index))
      ∧ (bodyOutcome chk e.start = .uncorrectable syn →
        ∃ t, exec (.trimStep chk) s = .next t ∧ s.signalled t
          ∧ t.handler = ⟨.executing m (.walk ⟨some e.start, w.changed⟩), s.handler.ignored⟩
          ∧ t.events = { s.events with
              flags := t.events.flags, damaged := min (s.events.damaged + 1) 65535,
              capture := ⟨.locked ⟨.uncorrectable, .edit, e.start, syn⟩, false⟩ }
          ∧ EventFlag.storeUe.isIn t.events.flags = true ∧ t.store = { s.store with index := t.store.index }
          ∧ ∀ j, recordAtStart j t.store.index =
              if j = e.start then some { e with damaged := true } else recordAtStart j s.store.index))
    ∧ (∀ (s : State) (m : Message) (w : Walk) (chk : Checks), s.handler.state = .executing m (.walk w) →
      s.arbiter.handlerWaits = false →
      (s.arbiter.holder = none → s.arbiter.noneWaits = true →
        exec (.trimStep chk) s = exec (.trimStep chk) { s with arbiter := { s.arbiter with holder := some .handler } })
      ∧ (s.arbiter.holder ≠ none → s.arbiter.holder ≠ some .handler →
        exec (.trimStep chk) s = .next { s with arbiter := { s.arbiter with handlerWaits := true } }))
    ∧ (∀ (s : State) (m : Message) (w : Walk) (chk : Checks), s.up = true → s.arbiter.holder = some .handler →
      s.handler.state = .executing m (.walk w) → s.store.frozen = true → sharedCount s.cue.txq ≤ 3 →
      ∃ t q, exec (.trimStep chk) s = .next t ∧ s.storeStep t ∧ t.store = s.store
        ∧ t.resolver = { s.resolver with latch := t.resolver.latch }
        ∧ EventFlag.editRefused.isIn t.events.flags = true
        ∧ t.cue.txq = q ++ replyTo m .storeFrozen (.edit (u24 m.payload 0) 0 w.changed))
    ∧ (∀ (s : State) (m : Message) (w : Walk) (e : Entry), s.up = true → s.arbiter.holder = some .handler →
      s.handler.state = .executing m (.walk w) → s.store.ok → s.store.frozen = false → sharedCount s.cue.txq ≤ 3 →
      (match w.cursor with
       | none => firstFrom (u24 m.payload 0) s.store.index
       | some c => nextAfter c s.store.index) = some e →
      ∃ t q n, exec (.trimStep ⟨[], [e.start]⟩) s = .next t ∧ s.storeStep t ∧ s.signalled t ∧ t.store.frozen = true
        ∧ EventFlag.indexFault.isIn t.events.flags = true ∧ EventFlag.editRefused.isIn t.events.flags = true
        ∧ recordAtStart e.start t.store.index = none
        ∧ t.cue.txq = q ++ replyTo m .storeFrozen (.edit (u24 m.payload 0) 0 n)
        ∧ ((∀ x, nextAfter e.start s.store.index = some x → u24 m.payload 3 < x.start) →
            n = w.changed ∧ ∀ j, j ≠ e.start → recordAtStart j t.store.index = recordAtStart j s.store.index)
        ∧ ∀ x g h, nextAfter e.start s.store.index = some x → x.start ≤ u24 m.payload 3 → x.damaged = false →
            x.body.grade = some g → h = g.trimmed (deltasAt m.payload) → h ≠ g →
            n = w.changed + 1
              ∧ recordAtStart x.start t.store.index
                  = some { x with revision := min 255 (x.revision + 1), body := { x.body with grade := some h } })
    ∧ ∀ (s : State) (m : Message) (w : Walk) (chk : Checks), s.up = true → s.arbiter.holder = some .handler →
      s.handler.state = .executing m (.walk w) → chk.parity = [] → s.store.frozen = false →
      sharedCount s.cue.txq ≤ 3 →
      (∀ e, (match w.cursor with
        | none => firstFrom (u24 m.payload 0) s.store.index
        | some c => nextAfter c s.store.index) = some e → u24 m.payload 3 < e.start) →
      ∃ t, exec (.trimStep chk) s = .next t ∧ s.storeStep t ∧ t.store = s.store ∧ t.events = s.events
        ∧ t.cue.txq = s.cue.txq ++ replyTo m .ok (.edit (u24 m.payload 0) 0 w.changed)

/-- A full-range LIST_CLEAR empties the index, faulty entries included, returns all 2,048 knots, unfreezes the store
and sets the scrub cursor to 0, in one step; after it every frame belongs to no scene; the result is OK with the
number of records removed, and the resolver is signalled, of an empty store too (R39, R120). The order of signal,
release and REPLY is the model's (log 12, log 33). That a full-range clear makes no lookup, so that no check bears on
it, is deduced (log 27). -/
def Obligations.FullClearEmptiesTheStore : Prop :=
  ∀ (s : State) (m : Message) (chk : Checks), s.up = true → atStore .listClear s = some m → u24 m.payload 0 = 0 →
    u24 m.payload 3 = 1048575 → sharedCount s.cue.txq ≤ 3 →
    ∃ t, exec (.listClear chk) s = .next t ∧ s.storeStep t ∧ s.signalled t ∧ t.events = s.events
      ∧ t.store = { index := [], freeKnots := 2048, frozen := false, scrubCursor := 0 }
      ∧ (∀ f, governing f t.store.index = none)
      ∧ t.cue.txq = s.cue.txq ++ replyTo m .ok (.edit 0 0 s.store.index.length)

/-- A LIST_CLEAR of a smaller range deletes every record whose start lies in it and returns their knots; records
outside it and faulty entries stay, and so does the frozen flag (R38). That the signal is made at the release and
takes part in its grant is deduced (log 12). -/
def Obligations.ListClearDeletesTheRange : Prop :=
  ∀ (s : State) (m : Message) (chk : Checks) (first last : Nat), s.up = true → atStore .listClear s = some m →
    chk.parity = [] → first = u24 m.payload 0 → last = u24 m.payload 3 → first ≤ last → last ≤ 1048575 →
    (first ≠ 0 ∨ last ≠ 1048575) → sharedCount s.cue.txq ≤ 3 →
    ∃ t, exec (.listClear chk) s = .next t ∧ s.storeStep t ∧ s.signalled t ∧ t.events = s.events
      ∧ t.store.frozen = s.store.frozen ∧ t.store.scrubCursor = s.store.scrubCursor
      ∧ (∀ n, recordAtStart n t.store.index =
          if first ≤ n ∧ n ≤ last then none else recordAtStart n s.store.index)
      ∧ t.store.index.filter Entry.faulty = s.store.index.filter Entry.faulty
      ∧ heldKnots t.store.index + t.store.freeKnots = heldKnots s.store.index + s.store.freeKnots
      ∧ t.cue.txq = s.cue.txq
          ++ replyTo m .ok (.edit first 0 (s.store.index.length - t.store.index.length))

/-- Edits refused, in the order of R25: a frozen store refuses every edit but LIST_CLEAR; then a structural fault of
any of the six kinds, a record that is missing or a target that is taken, a full list, and too few knots, for an
insert, a replacement and a GRADE_SET. Nothing is written, EDIT_REFUSED is set, and the REPLY carries the key with
zeros (R25, R27, R120). -/
def Obligations.RefusedEditsWriteNothing : Prop :=
  (∀ (s : State) (m : Message) (chk : Checks), s.up = true → s.store.frozen = true → sharedCount s.cue.txq ≤ 3 →
      (atStore .sceneSet s = some m →
        ∃ t, exec (.sceneSet chk) s = .next t ∧ s.editRefused t m .storeFrozen (u24 m.payload 0))
      ∧ (atStore .gradeSet s = some m →
        ∃ t, exec (.gradeSet chk) s = .next t ∧ s.editRefused t m .storeFrozen (u24 m.payload 0))
      ∧ (atStore .sceneMove s = some m →
        ∃ t, exec (.sceneMove chk) s = .next t ∧ s.editRefused t m .storeFrozen (u24 m.payload 3))
      ∧ (atStore .sceneDelete s = some m →
        ∃ t, exec (.sceneDelete chk) s = .next t ∧ s.editRefused t m .storeFrozen (u24 m.payload 0))
      ∧ (atStore .rangeTrim s = some m →
        ∃ t, exec .rangeTrim s = .next t ∧ s.editRefused t m .storeFrozen (u24 m.payload 0)))
    ∧ (∀ (s : State) (m : Message) (chk : Checks) (r : Record), s.up = true → s.store.frozen = false →
      sharedCount s.cue.txq ≤ 3 → atStore .sceneSet s = some m → recordAt m.payload 0 = r → chk.parity = [] →
      ((1048575 < r.start ∨ gradeFault r.grade = true) →
        ∃ t, exec (.sceneSet chk) s = .next t ∧ s.editRefused t m .badField r.start)
      ∧ (r.fault = false → recordAtStart r.start s.store.index = none → 1024 ≤ s.store.index.length →
        ∃ t, exec (.sceneSet chk) s = .next t ∧ s.editRefused t m .listFull r.start)
      ∧ (r.fault = false → recordAtStart r.start s.store.index = none → s.store.index.length < 1024 →
        s.store.freeKnots < r.body.knotCount →
        ∃ t, exec (.sceneSet chk) s = .next t ∧ s.editRefused t m .knotsFull r.start)
      ∧ (∀ e, r.fault = false → recordAtStart r.start s.store.index = some e →
        s.store.freeKnots + e.knotCount < r.body.knotCount →
        ∃ t, exec (.sceneSet chk) s = .next t ∧ s.editRefused t m .knotsFull r.start))
    ∧ (∀ (s : State) (m : Message) (chk : Checks), s.up = true → s.store.frozen = false → sharedCount s.cue.txq ≤ 3 →
      (atStore .gradeSet s = some m →
        (1048575 < u24 m.payload 0
          ∨ gradeFault (if bitAt m.payload 3 1 then some (gradeAt m.payload 4) else none) = true) →
        ∃ t, exec (.gradeSet chk) s = .next t ∧ s.editRefused t m .badField (u24 m.payload 0))
      ∧ (atStore .sceneMove s = some m → (1048575 < u24 m.payload 0 ∨ 1048575 < u24 m.payload 3) →
        ∃ t, exec (.sceneMove chk) s = .next t ∧ s.editRefused t m .badField (u24 m.payload 3))
      ∧ (atStore .sceneDelete s = some m → 1048575 < u24 m.payload 0 →
        ∃ t, exec (.sceneDelete chk) s = .next t ∧ s.editRefused t m .badField (u24 m.payload 0))
      ∧ (atStore .rangeTrim s = some m →
        (1048575 < u24 m.payload 0 ∨ 1048575 < u24 m.payload 3 ∨ u24 m.payload 3 < u24 m.payload 0) →
        ∃ t, exec .rangeTrim s = .next t ∧ s.editRefused t m .badField (u24 m.payload 0)))
    ∧ (∀ (s : State) (m : Message) (chk : Checks), s.up = true → sharedCount s.cue.txq ≤ 3 →
      atStore .listClear s = some m →
      (1048575 < u24 m.payload 0 ∨ 1048575 < u24 m.payload 3 ∨ u24 m.payload 3 < u24 m.payload 0) →
      ∃ t, exec (.listClear chk) s = .next t ∧ s.editRefused t m .badField (u24 m.payload 0))
    ∧ ∀ (s : State) (m : Message) (chk : Checks), s.up = true → s.store.frozen = false → sharedCount s.cue.txq ≤ 3 →
      chk.parity = [] →
      (atStore .gradeSet s = some m → u24 m.payload 0 ≤ 1048575 →
        gradeFault (if bitAt m.payload 3 1 then some (gradeAt m.payload 4) else none) = false →
        recordAtStart (u24 m.payload 0) s.store.index = none →
        ∃ t, exec (.gradeSet chk) s = .next t ∧ s.editRefused t m .noScene (u24 m.payload 0))
      ∧ (∀ e grade, atStore .gradeSet s = some m → u24 m.payload 0 ≤ 1048575 →
        grade = (if bitAt m.payload 3 1 then some (gradeAt m.payload 4) else none) → gradeFault grade = false →
        recordAtStart (u24 m.payload 0) s.store.index = some e →
        (e.damaged = true ∨ bodyOutcome chk e.start = .clean) →
        s.store.freeKnots + e.knotCount < Body.knotCount { bodyTaken chk e with grade := grade.map Grade.clamped } →
        ∃ t, exec (.gradeSet chk) s = .next t ∧ s.editRefused t m .knotsFull (u24 m.payload 0))
      ∧ (atStore .sceneMove s = some m → u24 m.payload 0 ≤ 1048575 → u24 m.payload 3 ≤ 1048575 →
        recordAtStart (u24 m.payload 0) s.store.index = none →
        ∃ t, exec (.sceneMove chk) s = .next t ∧ s.editRefused t m .noScene (u24 m.payload 3))
      ∧ (∀ e o, atStore .sceneMove s = some m → u24 m.payload 0 ≤ 1048575 → u24 m.payload 3 ≤ 1048575 →
        u24 m.payload 0 ≠ u24 m.payload 3 → recordAtStart (u24 m.payload 0) s.store.index = some e →
        recordAtStart (u24 m.payload 3) s.store.index = some o →
        ∃ t, exec (.sceneMove chk) s = .next t ∧ s.editRefused t m .duplicate (u24 m.payload 3))

/-! ## Queries and settings -/

/-- QUERY STATUS, FETCH and CAPTURE, individually addressed, are answered with the summary, the fetch status record,
and the capture records with the kind flags, and change nothing but the transmit queue (R118, R121, R122, R125, R172).
The summary, which STATUS carries too, holds the values as they stand: those of the Position and Cadence Unit live and
not of the snapshot, every index entry counted, faulty ones included, and the mode setting the next resolution will
copy (R122). QUERY PUNCH is answered with the punch record and clears its unread mark where the REPLY joins; with no
shared place free the mark stands and the drop is counted (R105, R124). -/
def Obligations.QueriesAreAnswered : Prop :=
  (∀ (s : State) (m : Message), s.sharedTaken < 5 → inHand .query s = some m → m.addressing = .individual →
      m.source.toNat ≤ 63 →
      (u8 m.payload 0 = 0 → exec .queryStatus s = .next { s with
        handler := ⟨.idle, s.handler.ignored⟩,
        cue := { s.cue with
          txq := s.cue.txq ++ [⟨m.source, .reply m.kind .ok (.query 0 (.status s.summary))⟩] } })
      ∧ (u8 m.payload 0 = 3 → exec .queryFetch s = .next { s with
        handler := ⟨.idle, s.handler.ignored⟩,
        cue := { s.cue with
          txq := s.cue.txq ++ [⟨m.source, .reply m.kind .ok (.query 3 (.fetch s.requester))⟩] } })
      ∧ (u8 m.payload 0 = 4 → exec .queryCapture s = .next { s with
        handler := ⟨.idle, s.handler.ignored⟩,
        cue := { s.cue with
          txq := s.cue.txq ++ [⟨m.source, .reply m.kind .ok (.query 4 (.capture
            ⟨s.events.capture, s.events.corrected, s.events.damaged, s.cue.capture, s.cue.kindFlags⟩))⟩] } })
      ∧ (u8 m.payload 0 = 2 → exec .queryPunch s = .next { s with
        handler := ⟨.idle, s.handler.ignored⟩,
        gate := { s.gate with punch := { s.gate.punch with unread := false } },
        cue := { s.cue with
          txq := s.cue.txq ++ [⟨m.source, .reply m.kind .ok (.query 2 (.punch s.gate.punch))⟩] } }))
    ∧ (∀ (s : State) (m : Message), s.up = true → 5 ≤ s.sharedTaken → inHand .query s = some m →
      m.addressing = .individual → m.source.toNat ≤ 63 → u8 m.payload 0 = 2 →
      ∃ t, exec .queryPunch s = .next t ∧ t.gate = s.gate ∧ t.handler = ⟨.idle, s.handler.ignored⟩
        ∧ t.cue.txAbandons = min (s.cue.txAbandons + 1) 65535 ∧ EventFlag.txAbandon.isIn t.events.flags = true)
    ∧ ∀ s : State, s.summary =
        { part := s.part, source := s.configSource, station := s.address.setWidth 8, flags := s.events.flags,
          kindFlags := s.cue.kindFlags, gateFrame := s.pcu.gateFrame, positionState := s.pcu.positionState,
          speedClass := s.pcu.speedClass, direction := s.pcu.direction, cadenceState := s.pcu.cadenceState,
          cadencePhase := s.pcu.cadencePhase, fieldCount := s.pcu.fieldCount, recordCount := s.store.index.length,
          freeKnots := s.store.freeKnots, frozen := s.store.frozen, punchState := s.gate.punch.state,
          fetching := s.requester.fetching, fetchResult := s.requester.result, streaming := s.responder.streaming,
          mode := s.resolver.mode, enable := s.events.enable, statusEnable := s.events.statusEnable,
          slips := s.pcu.slips, breaks := s.pcu.breaks, late := s.resolver.late, lineErrors := s.cue.lineErrors,
          rxDrops := s.cue.rxDrops, txAbandons := s.cue.txAbandons, ignored := s.handler.ignored,
          clipLast := s.pipeline.clipLast }

/-- QUERY SCENE reads the governing record of its frame (R123, R24): NO_SCENE where there is none; else the record as
its body read gives it, a damaged one with revision 0 and an empty body. A clean read changes nothing in the store and
signals nothing. A body read of QUERY SCENE that finds errors (R168 to R171): a correctable body is counted, captured
with the operation EDIT and raises STORE_CE, and the list stands; an uncorrectable one gets the damaged mark, is
counted, captured and raises STORE_UE. Either signals the resolver at the release (R55, R123). A lookup that finds a
new faulty entry (R173): the entry alone gets the mark, the store is frozen, INDEX_FAULT is raised, the resolver is
signalled, and the answer is that of the record found with the entry passed over. R123 is followed where R23 names the
record at a start (log 34); the signal made at the release is deduced (log 12). -/
def Obligations.QuerySceneReadsTheGoverningRecord : Prop :=
  (∀ (s : State) (m : Message) (chk : Checks), s.up = true → atStore .query s = some m → chk.parity = [] →
    sharedCount s.cue.txq ≤ 3 →
    (governing (u24 m.payload 1) s.store.index = none →
      ∃ t, exec (.queryScene chk) s = .next t ∧ s.storeStep t ∧ t.store = s.store ∧ t.events = s.events
        ∧ t.cue.txq = s.cue.txq ++ replyTo m .noScene (.query (m.payload.getD 0 0) .nothing)
        ∧ t.resolver = { s.resolver with latch := t.resolver.latch })
    ∧ ∀ e, governing (u24 m.payload 1) s.store.index = some e →
      (e.damaged = true ∨ bodyOutcome chk e.start = .clean) →
      ∃ t, exec (.queryScene chk) s = .next t ∧ s.storeStep t ∧ t.store = s.store ∧ t.events = s.events
        ∧ t.resolver = { s.resolver with latch := t.resolver.latch }
        ∧ t.cue.txq = s.cue.txq ++ replyTo m .ok (.query (m.payload.getD 0 0) (.scene
            (if e.damaged then ⟨e.start, 0, 0, 0, false, true, none⟩
             else ⟨e.start, e.body.sceneId, e.revision, e.body.transitionLen, e.body.omitted, false, e.body.grade⟩))))
    ∧ (∀ (s : State) (m : Message) (chk : Checks) (e : Entry) (syn : Byte), s.up = true → atStore .query s = some m →
    chk.parity = [] → sharedCount s.cue.txq ≤ 3 → governing (u24 m.payload 1) s.store.index = some e →
    e.damaged = false → s.events.capture = ⟨.empty, false⟩ →
    (bodyOutcome chk e.start = .correctable syn →
      ∃ t, exec (.queryScene chk) s = .next t ∧ s.storeStep t ∧ s.signalled t ∧ t.store = s.store
        ∧ t.events.corrected = min (s.events.corrected + 1) 65535 ∧ t.events.damaged = s.events.damaged
        ∧ t.events.capture = ⟨.holding ⟨.corrected, .edit, e.start, syn⟩, false⟩
        ∧ EventFlag.storeCe.isIn t.events.flags = true)
    ∧ (bodyOutcome chk e.start = .uncorrectable syn →
      ∃ t, exec (.queryScene chk) s = .next t ∧ s.storeStep t ∧ s.signalled t
        ∧ t.store = { s.store with index := t.store.index }
        ∧ recordAtStart e.start t.store.index
            = (recordAtStart e.start s.store.index).map (fun o => { o with damaged := true })
        ∧ (∀ n, n ≠ e.start → recordAtStart n t.store.index = recordAtStart n s.store.index)
        ∧ t.events.damaged = min (s.events.damaged + 1) 65535 ∧ t.events.corrected = s.events.corrected
        ∧ t.events.capture = ⟨.locked ⟨.uncorrectable, .edit, e.start, syn⟩, false⟩
        ∧ EventFlag.storeUe.isIn t.events.flags = true))
    ∧ ∀ (s : State) (m : Message) (e : Entry), s.up = true → atStore .query s = some m → s.store.ok →
    sharedCount s.cue.txq ≤ 3 → e ∈ s.store.index → e.faulty = false → e.start ≤ u24 m.payload 1 →
    ∃ t q, exec (.queryScene ⟨[], [e.start]⟩) s = .next t ∧ s.storeStep t ∧ s.signalled t
      ∧ t.store = { s.store with frozen := true, index := t.store.index }
      ∧ t.store.index = s.store.index.map (fun x => if x = e then { e with faulty := true } else x)
      ∧ (∀ n, recordAtStart n t.store.index = if n = e.start then none else recordAtStart n s.store.index)
      ∧ t.events = { s.events with flags := t.events.flags } ∧ EventFlag.indexFault.isIn t.events.flags = true
      ∧ t.cue.txq = q ++
          (match governing (u24 m.payload 1) t.store.index with
           | none => replyTo m .noScene (.query (m.payload.getD 0 0) .nothing)
           | some g => replyTo m .ok (.query (m.payload.getD 0 0) (.scene
              (if g.damaged then ⟨g.start, 0, 0, 0, false, true, none⟩
               else ⟨g.start, g.body.sceneId, g.revision, g.body.transitionLen, g.body.omitted, false, g.body.grade⟩))))
      ∧ (governing (u24 m.payload 1) s.store.index = some e →
          (1 ≤ e.start → governing (u24 m.payload 1) t.store.index = governing (e.start - 1) s.store.index)
            ∧ (e.start = 0 → governing (u24 m.payload 1) t.store.index = none))

/-- CLEAR clears exactly the flags of its mask, the kind flags where LINE_ERROR is among the flags cleared, and the
capture records its bits select; no counter, mark, frozen flag or other block changes (R101, R126, R172). SET_MODE
(R60, R128, R129): a compare mode above 2 refuses it and nothing is written; else the mode setting is written with
the split position clamped, a change asking for a resolution, and the enable mask and status_enable are written,
turning it on from off starting the countdown at the full interval. -/
def Obligations.ClearAndSetModeWriteTheirSettings : Prop :=
  (∀ (s : State) (m : Message), inHand .clear s = some m → s.sharedTaken < 5 →
    ∃ t, exec .clear s = .next t
      ∧ t = { s with
          handler := ⟨.idle, s.handler.ignored⟩,
          events := { s.events with
            flags := t.events.flags,
            capture := if bitAt m.payload 2 0 then ⟨.empty, false⟩ else s.events.capture },
          cue := { s.cue with
            kindFlags := t.cue.kindFlags,
            capture := if bitAt m.payload 2 1 then ⟨none, false⟩ else s.cue.capture,
            txq := s.cue.txq ++ replyTo m .ok .plain } }
      ∧ (∀ f : EventFlag, f.isIn t.events.flags = (f.isIn s.events.flags && !(u16 m.payload 0).testBit f.index))
      ∧ t.cue.kindFlags =
          (if (u16 m.payload 0).testBit 8 = true ∧ EventFlag.lineError.isIn s.events.flags = true then 0
           else s.cue.kindFlags))
    ∧ ((∀ (s : State) (m : Message), inHand .setMode s = some m → s.sharedTaken < 5 → 2 < u8 m.payload 0 →
      exec .setMode s = .next { s with
        handler := ⟨.idle, if m.addressing = .individual then s.handler.ignored else min (s.handler.ignored + 1) 65535⟩,
        cue := { s.cue with txq := s.cue.txq ++ replyTo m .badField .plain } })
    ∧ ∀ (s : State) (m : Message) (mode : ModeSetting) (on : Bool), s.up = true → inHand .setMode s = some m →
      s.sharedTaken < 5 →
      mode.compare = (match u8 m.payload 0 with
        | 0 => .off
        | 1 => .bypass
        | _ => .split) →
      u8 m.payload 0 ≤ 2 → mode.split = min (u16 m.payload 1) 2047 → on = bitAt m.payload 5 0 →
      ∃ t, exec .setMode s = .next t
        ∧ t = { s with
            handler := ⟨.idle, s.handler.ignored⟩, resolver := t.resolver, arbiter := t.arbiter,
            events := { s.events with
              enable := t.events.enable, statusEnable := on,
              statusCountdown := if on = true ∧ s.events.statusEnable = false then 16 * s.config.statusInterval
                else s.events.statusCountdown },
            cue := { s.cue with txq := s.cue.txq ++ replyTo m .ok .plain } }
        ∧ t.resolver.mode = mode
        ∧ (∀ f : EventFlag, f.isIn t.events.enable = (u16 m.payload 3).testBit f.index)
        ∧ (if mode = s.resolver.mode then t.resolver = s.resolver ∧ t.arbiter = s.arbiter
           else ∃ r, r = { s with resolver := { s.resolver with mode := mode } } ∧ r.resolutionAsked t))

/-- A line reset (R18, R45, R46, R69, R92, R112, R130 to R132, R136, R147, R152, R167, R178, R180): in every block the
state its chapter gives; the list stands under SOFT and is emptied under LIST; the store capture, the line capture,
the banks, the output mode, the receiver, the configuration and the tag stand. The reset triggers a resolution and its
REPLY joins the emptied queue. Under SOFT the arbiter keeps its holder and its waiting clients, but that the responder
withdraws and the resolver asks (R45, R69, R152); LIST releases the store. A responder step in progress at a SOFT reset
completes and changes nothing in the stream (R152): kept with its stream, the record or the end it comes to is queued
after the reset. That the trigger of LIST takes part in the release is deduced (log 12), and so is the step kept
(log 31). -/
def Obligations.LineResetsResetEveryBlock : Prop :=
  (∀ (s : State) (m : Message), s.up = true → inHand .reset s = some m →
      ∃ t, exec .resetSoft s = .next t ∧ s.lineResetTo t m ∧ t.store = s.store
        ∧ t.responder.placeHeld = s.responder.placeHeld
        ∧ (s.arbiter.holder = some .responder → s.responder.streaming = true → s.responder.unfinished = none →
            t.responder.unfinished = some s.responder.stream)
        ∧ (s.arbiter.holder ≠ some .responder → t.responder.unfinished = s.responder.unfinished)
        ∧ t.arbiter =
            (if s.resolver.inFlight = true then { s.arbiter with responderWaits := false }
             else if s.arbiter.holder = none ∧ s.arbiter.resolverWaits = false ∧ s.arbiter.handlerWaits = false then
               { s.arbiter with holder := some .resolver, responderWaits := false }
             else { s.arbiter with resolverWaits := true, responderWaits := false }))
    ∧ (∀ (s : State) (m : Message), s.up = true → atStore .reset s = some m →
      ∃ t, exec .resetList s = .next t ∧ s.lineResetTo t m
        ∧ t.store = { index := [], freeKnots := 2048, frozen := false, scrubCursor := 0 }
        ∧ (s.resolver.inFlight = false → t.arbiter.holder = some .resolver
            ∧ t.resolver.latch = some ⟨0, ⟨.off, 0⟩⟩)
        ∧ (s.resolver.inFlight = true → s.arbiter.resolverWaits = false → s.arbiter.handlerWaits = false →
            t.arbiter.holder = none))
    ∧ ∀ (s : State) (chk : Checks) (c : Stream), s.up = true → s.arbiter.holder = some .responder →
      s.responder.unfinished = some c → s.responder.placeHeld = true → sharedCount s.cue.txq ≤ 4 → chk.parity = [] →
      (∀ e, streamNext c s.store.index = some e → e.start ≤ c.last →
        (e.damaged = true ∨ bodyOutcome chk e.start = .clean) →
        ∃ t, exec (.responderStep chk) s = .next t ∧ t.store = s.store ∧ t.events = s.events
          ∧ t.responder.streaming = s.responder.streaming ∧ t.responder.stream = s.responder.stream
          ∧ t.responder.unfinished = none
          ∧ t.cue = { s.cue with txq := s.cue.txq ++ [⟨c.station, .listRec c.tag c.sent
              (if e.damaged then ⟨e.start, 0, 0, 0, false, true, none⟩
               else ⟨e.start, e.body.sceneId, e.revision, e.body.transitionLen, e.body.omitted, false, e.body.grade⟩)⟩] })
      ∧ ((∀ e, streamNext c s.store.index = some e → c.last < e.start) →
        ∃ t, exec (.responderStep chk) s = .next t ∧ t.store = s.store ∧ t.events = s.events
          ∧ t.responder.streaming = s.responder.streaming ∧ t.responder.stream = s.responder.stream
          ∧ t.responder.unfinished = none
          ∧ t.cue = { s.cue with txq := s.cue.txq ++ [⟨c.station, .listEnd c.tag false c.sent⟩] })

/-! ## The punch -/

/-- PUNCH_ARM (R154): frames out of the reel or out of order, or an aligned punch in UNITY, is BAD_FIELD, a recording punch
BUSY, and neither changes the unit; else the punch is ARMED with its frames, its target the in frame or none if aligned,
and its stamps and marks kept. -/
def Obligations.PunchIsArmed : Prop :=
  ∀ (s : State) (m : Message) (i o : Nat) (align : Bool), inHand .punchArm s = some m → s.sharedTaken < 5 →
    i = u24 m.payload 0 → o = u24 m.payload 3 → align = bitAt m.payload 6 0 →
    ∃ t, exec .punchArm s = .next t
      ∧ t = { s with handler := t.handler, gate := t.gate, cue := { s.cue with txq := t.cue.txq } }
      ∧ t.handler.state = .idle
      ∧ (if 1048575 < i ∨ 1048575 < o ∨ o < i ∨ (align = true ∧ s.config.cadenceMode = .unity) then
           t.gate = s.gate ∧ t.cue.txq = s.cue.txq ++ replyTo m .badField .plain
             ∧ (m.addressing ≠ .individual → t.handler.ignored = min (s.handler.ignored + 1) 65535)
         else if s.gate.punch.state = .recording then
           t.gate = s.gate ∧ t.cue.txq = s.cue.txq ++ replyTo m .busy .plain
             ∧ (m.addressing ≠ .individual → t.handler.ignored = min (s.handler.ignored + 1) 65535)
         else
           t.gate = { s.gate with
             punch := { s.gate.punch with inFrame := i, outFrame := o, align := align, state := .armed },
             target := (if align then none else some i), lastEval := none }
             ∧ t.cue.txq = s.cue.txq ++ replyTo m .ok .plain ∧ t.handler.ignored = s.handler.ignored)

/-- PUNCH_ABORT is carried out however it was addressed, without the store, and its result is OK in every state (R155): an
ARMED punch becomes IDLE with no event, a RECORDING one is aborted as R161 gives, and any other is left as it is. -/
def Obligations.PunchIsAborted : Prop :=
  ∀ (s : State) (m : Message), s.up = true → inHand .punchAbort s = some m → s.sharedTaken < 5 →
    ∃ t, exec .punchAbort s = .next t ∧ t.handler = ⟨.idle, s.handler.ignored⟩
      ∧ t = { s with handler := t.handler, gate := t.gate, events := { s.events with flags := t.events.flags },
                     cue := { s.cue with txq := t.cue.txq } }
      ∧ (match s.gate.punch.state with
         | .armed =>
           t.gate = { s.gate with
             punch := { s.gate.punch with state := .idle }, target := none, lastEval := none }
             ∧ t.events = s.events ∧ t.cue.txq = s.cue.txq ++ replyTo m .ok .plain
         | .recording =>
           t.gate = { s.gate with gate := false, punch := { s.gate.punch with
             state := .aborted, outStamp := s.pcu.snapshot.fieldCount, unread := true } }
             ∧ EventFlag.punchEvent.isIn t.events.flags = true
             ∧ ∃ q, t.cue.txq = q ++ replyTo m .ok .plain
         | .idle | .done | .missed | .aborted =>
           t.gate = s.gate ∧ t.events = s.events ∧ t.cue.txq = s.cue.txq ++ replyTo m .ok .plain)

/-! ## The partner and the transfer of lists -/

/-- The partner check (R133, R134): the start carried against the part's own governing start, none as a value. Equal, nothing
happens; different, PARTNER_MISMATCH is raised, and where auto-fetch on mismatch is configured and no fetch is in flight
a fetch of the full range starts from the partner. No REPLY is sent and no record is written. That the fetch starts in
JOINING too is the model's choice: R138 and R187 are followed where R147 says that no fetch starts until RUNNING
(log 35). -/
def Obligations.PartnerCheckCompares : Prop :=
  ∀ (s : State) (m : Message) (chk : Checks), s.up = true → atStore .sceneEntered s = some m → chk.parity = [] →
    sharedCount s.cue.txq ≤ 3 →
    ∃ t, exec (.partnerCheck chk) s = .next t ∧ t.store = s.store ∧ t.handler = ⟨.idle, s.handler.ignored⟩
      ∧ t.resolver = { s.resolver with latch := t.resolver.latch } ∧ t.pcu = s.pcu ∧ t.pipeline = s.pipeline
      ∧ t.gate = s.gate ∧ t.cue = { s.cue with txq := t.cue.txq } ∧ t.events = { s.events with flags := t.events.flags }
      ∧ (if (governing (u24 m.payload 0) s.store.index).map Entry.start
            = (if u24 m.payload 3 = 0xFFFFFF then none else some (u24 m.payload 3)) then
           t.events = s.events ∧ t.requester = s.requester ∧ t.cue.txq = s.cue.txq
         else
           EventFlag.partnerMismatch.isIn t.events.flags = true
             ∧ (if s.config.autoFetchMismatch = true ∧ s.requester.fetching = false then
                 t.requester = ⟨true, .noResult, some m.source, s.requester.tag + 1, 0, 1048575, 0, 0, 0, 0, 0, 0, true⟩
                   ∧ ∃ q, t.cue.txq = q ++ [⟨m.source, .listQuery (s.requester.tag + 1) 0 1048575⟩]
               else t.requester = s.requester))

/-- FETCH_FROM (R138, R139): a station that is none or the part's own, or a range out of order or off the reel, is BAD_FIELD,
and a fetch in flight BUSY; else the fetch starts with the next tag and empty counts, its LIST_QUERY joining the queue
before the REPLY. That it starts in JOINING too is the model's choice: R138, R139 and R187 are followed where R147 says
that no fetch starts until RUNNING (log 35). -/
def Obligations.FetchIsStarted : Prop :=
  ∀ (s : State) (m : Message) (first last : Nat) (station : Byte), inHand .fetchFrom s = some m → s.sharedTaken ≤ 3 →
    station = m.payload.getD 0 0 → first = u24 m.payload 1 → last = u24 m.payload 4 →
    ∃ t, exec .fetchFrom s = .next t
      ∧ t = { s with handler := t.handler, requester := t.requester, cue := { s.cue with txq := t.cue.txq } }
      ∧ t.handler.state = .idle
      ∧ (if 63 < station.toNat ∨ station = s.address.setWidth 8 ∨ 1048575 < first ∨ 1048575 < last ∨ last < first then
           t.requester = s.requester ∧ t.cue.txq = s.cue.txq ++ replyTo m .badField .plain
         else if s.requester.fetching = true then
           t.requester = s.requester ∧ t.cue.txq = s.cue.txq ++ replyTo m .busy .plain
         else
           t.requester = ⟨true, .noResult, some station, s.requester.tag + 1, first, last, 0, 0, 0, 0, 0, 0, true⟩
             ∧ t.cue.txq = s.cue.txq ++ [⟨station, .listQuery (s.requester.tag + 1) first last⟩]
                 ++ replyTo m .ok .plain
             ∧ t.handler.ignored = s.handler.ignored)

/-- A LIST_END that matches the fetch in flight ends it: REFUSED for status BUSY, else COUNT or DONE as its total differs
from received modulo 65,536 or not, a status other than OK and BUSY taken as OK; the carrying out ends with it (R144).
That received is the count of the fetch status record, which stops at 65,535, is the model's choice (log 38). -/
def Obligations.ListEndEndsTheFetch : Prop :=
  ∀ (s : State) (m : Message), s.up = true → inHand .listEnd s = some m → s.requester.fetching = true →
    s.requester.partner = some m.source → s.requester.tag = m.payload.getD 0 0 →
    ∃ t, exec .listEnd s = .next t ∧ t.handler = ⟨.idle, s.handler.ignored⟩
      ∧ t = { s with handler := t.handler, requester := t.requester, events := { s.events with flags := t.events.flags },
                     cue := { s.cue with txq := t.cue.txq } }
      ∧ EventFlag.fetchEnd.isIn t.events.flags = true
      ∧ t.requester = { s.requester with
          fetching := false, gapTimer := false,
          result :=
            if u8 m.payload 1 = 1 then .refused
            else if u16 m.payload 2 % 65536 = s.requester.received % 65536 then .done
            else .count }

/-- The gap timer of a fetch runs out (R145, R146): the fetch ends with TIMEOUT and FETCH_END is raised. A LIST_REC or
LIST_END that does not match a fetch in flight raises UNEXPECTED_REPLY, is discarded, and changes nothing in the
requester (R140). A matching LIST_REC (R141): it restarts the gap timer; in sequence it is counted received and
goes to its merge at the store; out of sequence the fetch ends with SEQUENCE. -/
def Obligations.ListRecIsMatchedAndSequenced : Prop :=
  ((∀ s : State, s.up = true → s.requester.fetching = true → s.requester.gapTimer = true →
      ∃ t, exec .gapTimerExpiry s = .next t
        ∧ t = { s with
            requester := { s.requester with fetching := false, gapTimer := false, result := .timeout },
            events := { s.events with flags := t.events.flags }, cue := { s.cue with txq := t.cue.txq } }
        ∧ EventFlag.fetchEnd.isIn t.events.flags = true)
    ∧ ∀ (s : State) (m : Message), s.up = true →
      (s.requester.fetching = false ∨ s.requester.partner ≠ some m.source ∨ s.requester.tag ≠ m.payload.getD 0 0) →
      (inHand .listRec s = some m → ∃ t, exec .listRec s = .next t ∧ t.handler = ⟨.idle, s.handler.ignored⟩
        ∧ t = { s with handler := t.handler, events := { s.events with flags := t.events.flags },
                       cue := { s.cue with txq := t.cue.txq } }
        ∧ EventFlag.unexpectedReply.isIn t.events.flags = true)
      ∧ (inHand .listEnd s = some m → ∃ t, exec .listEnd s = .next t ∧ t.handler = ⟨.idle, s.handler.ignored⟩
        ∧ t = { s with handler := t.handler, events := { s.events with flags := t.events.flags },
                       cue := { s.cue with txq := t.cue.txq } }
        ∧ EventFlag.unexpectedReply.isIn t.events.flags = true))
    ∧ (∀ (s : State) (m : Message), s.up = true → inHand .listRec s = some m → s.requester.fetching = true →
    s.requester.partner = some m.source → s.requester.tag = m.payload.getD 0 0 →
    ∃ t, exec .listRec s = .next t ∧ t.store = s.store ∧ t.resolver = s.resolver
      ∧ (if u16 m.payload 1 = s.requester.expected.toNat then
           t.requester = { s.requester with
             gapTimer := true, received := min (s.requester.received + 1) 65535, expected := s.requester.expected + 1 }
             ∧ t.handler = ⟨.executing m (.merging s.requester.tag), s.handler.ignored⟩ ∧ t.events = s.events
             ∧ t.cue = s.cue ∧ (t.arbiter.handlerWaits = true ∨ t.arbiter.holder = some .handler)
         else
           t.requester = { s.requester with fetching := false, gapTimer := false, result := .sequence }
             ∧ t.handler = ⟨.idle, s.handler.ignored⟩ ∧ EventFlag.fetchEnd.isIn t.events.flags = true))

/-- The merge of a record (R142, R143): refused on a frozen store, for a fault, a damaged mark, a full list or too few
knots; inserted with its own revision where its start holds none; replacing an older one; else the local record is
kept. Every other start keeps its record, one count of the fetch goes up, and an insert or a replacement signals the
resolver. The signal made at the release is deduced (log 12), and the count goes to the fetch whose tag the LIST_REC
was taken under (log 29). A replacement reads the local body first (R168): found correctable it is counted, captured
with the operation MERGE and raises STORE_CE; found uncorrectable it is counted, captured and raises STORE_UE; and it is
replaced all the same, which heals it (R169 to R171). A lookup that finds a new faulty entry marks it, freezes the store,
raises INDEX_FAULT and signals the resolver (R173), and the merge is refused (deduced, log 15). -/
def Obligations.MergeDecidesByRevision : Prop :=
  (∀ (s : State) (m : Message) (chk : Checks) (r : Record), s.up = true → s.arbiter.holder = some .handler →
    s.handler.state = .executing m (.merging s.requester.tag) → recordAt m.payload 3 = r → chk = Checks.clean →
    ∃ t, exec (.merge chk) s = .next t ∧ t.handler = ⟨.idle, s.handler.ignored⟩ ∧ t.cue = s.cue ∧ t.events = s.events
      ∧ (if s.store.frozen = true ∨ r.fault = true ∨ r.damaged = true
            ∨ (recordAtStart r.start s.store.index = none
                ∧ (1024 ≤ s.store.index.length ∨ s.store.freeKnots < r.body.knotCount))
            ∨ (∃ e, recordAtStart r.start s.store.index = some e ∧ e.revision < r.revision
                ∧ s.store.freeKnots + e.knotCount < r.body.knotCount) then
           t.store = s.store ∧ t.requester = { s.requester with refused := min (s.requester.refused + 1) 65535 }
         else
           match recordAtStart r.start s.store.index with
           | none =>
             t.requester = { s.requester with inserted := min (s.requester.inserted + 1) 65535 } ∧ s.signalled t
               ∧ t.store = { s.store with
                   index := t.store.index, freeKnots := s.store.freeKnots - r.body.knotCount }
               ∧ ∀ n, recordAtStart n t.store.index =
                   if n = r.start then some ⟨r.start, r.revision, r.body.knotCount, false, false, r.body⟩
                   else recordAtStart n s.store.index
           | some e =>
             if e.revision < r.revision then
               t.requester = { s.requester with replaced := min (s.requester.replaced + 1) 65535 } ∧ s.signalled t
                 ∧ t.store = { s.store with
                     index := t.store.index, freeKnots := s.store.freeKnots + e.knotCount - r.body.knotCount }
                 ∧ ∀ n, recordAtStart n t.store.index =
                     if n = r.start then some ⟨r.start, r.revision, r.body.knotCount, false, false, r.body⟩
                     else recordAtStart n s.store.index
             else
               t.store = s.store
                 ∧ t.requester = { s.requester with keptLocal := min (s.requester.keptLocal + 1) 65535 }))
    ∧ (∀ (s : State) (m : Message) (chk : Checks) (r : Record) (e : Entry) (syn : Byte), s.up = true →
      s.arbiter.holder = some .handler → s.handler.state = .executing m (.merging s.requester.tag) →
      recordAt m.payload 3 = r → chk.parity = [] → s.store.frozen = false → r.fault = false → r.damaged = false →
      recordAtStart r.start s.store.index = some e → e.revision < r.revision →
      r.body.knotCount ≤ s.store.freeKnots + e.knotCount → e.damaged = false → s.events.capture = ⟨.empty, false⟩ →
      (bodyOutcome chk e.start = .correctable syn ∨ bodyOutcome chk e.start = .uncorrectable syn) →
      ∃ t, exec (.merge chk) s = .next t ∧ t.handler = ⟨.idle, s.handler.ignored⟩ ∧ s.signalled t
        ∧ t.requester = { s.requester with replaced := min (s.requester.replaced + 1) 65535 }
        ∧ t.store = { s.store with
            index := t.store.index, freeKnots := s.store.freeKnots + e.knotCount - r.body.knotCount }
        ∧ (∀ n, recordAtStart n t.store.index =
            if n = r.start then some ⟨r.start, r.revision, r.body.knotCount, false, false, r.body⟩
            else recordAtStart n s.store.index)
        ∧ (bodyOutcome chk e.start = .correctable syn →
            t.events = { s.events with
              flags := t.events.flags, corrected := min (s.events.corrected + 1) 65535,
              capture := ⟨.holding ⟨.corrected, .merge, e.start, syn⟩, false⟩ }
            ∧ EventFlag.storeCe.isIn t.events.flags = true)
        ∧ (bodyOutcome chk e.start = .uncorrectable syn →
            t.events = { s.events with
              flags := t.events.flags, damaged := min (s.events.damaged + 1) 65535,
              capture := ⟨.locked ⟨.uncorrectable, .merge, e.start, syn⟩, false⟩ }
            ∧ EventFlag.storeUe.isIn t.events.flags = true))
    ∧ ∀ (s : State) (m : Message) (r : Record) (e : Entry), s.up = true → s.arbiter.holder = some .handler →
      s.handler.state = .executing m (.merging s.requester.tag) → recordAt m.payload 3 = r → s.store.ok →
      e ∈ s.store.index → e.faulty = false → e.start ≤ r.start →
      ∃ t, exec (.merge ⟨[], [e.start]⟩) s = .next t ∧ t.handler = ⟨.idle, s.handler.ignored⟩ ∧ s.signalled t
        ∧ t.requester = { s.requester with refused := min (s.requester.refused + 1) 65535 }
        ∧ t.store = { s.store with frozen := true, index := t.store.index }
        ∧ t.store.index = s.store.index.map (fun x => if x = e then { e with faulty := true } else x)
        ∧ t.events = { s.events with flags := t.events.flags } ∧ EventFlag.indexFault.isIn t.events.flags = true

/-- LIST_QUERY (R148): an idle responder starts a stream to its source, as carried, and asks for the store; a
streaming one goes on and answers BUSY with the query's tag and total 0; from a source above 63 it is ignored. A
responder step with a place held (R149, R150): the next record of the range, read clean, is sent with the tag and the
count of the records before it, a damaged one as an empty record of revision 0, and the cursor and the count move on;
with no such record a LIST_END with the total ends the stream. The list stands. The place held from the grant on is
the model's reading of R149 (log 31). A body found correctable is sent as corrected, one found uncorrectable is marked
and sent as a damaged one; either is counted, captured with the operation SEND and raised, and signals the resolver
(R149, R150, R169 to R171). A new faulty entry is marked, freezes the store, raises INDEX_FAULT, signals the resolver
and is passed over (R173). That the signal takes part in the release is deduced (log 12). -/
def Obligations.ResponderServesAStream : Prop :=
  (∀ (s : State) (m : Message), inHand .listQuery s = some m →
    (63 < m.source.toNat →
      exec .listQuery s = .next { s with handler := ⟨.idle, min (s.handler.ignored + 1) 65535⟩ })
    ∧ (m.source.toNat ≤ 63 → s.responder.streaming = true → s.sharedTaken < 5 →
      exec .listQuery s = .next { s with
        handler := ⟨.idle, s.handler.ignored⟩,
        cue := { s.cue with txq := s.cue.txq ++ [⟨m.source, .listEnd (m.payload.getD 0 0) true 0⟩] } })
    ∧ (m.source.toNat ≤ 63 → s.responder.streaming = false →
      ∃ t, exec .listQuery s = .next t
        ∧ t = { s with handler := ⟨.idle, s.handler.ignored⟩, arbiter := t.arbiter, responder := t.responder }
        ∧ t.responder = { s.responder with
            streaming := true, placeHeld := t.responder.placeHeld,
            stream := ⟨m.source, m.payload.getD 0 0, u24 m.payload 1, u24 m.payload 4, none, 0⟩ }
        ∧ (s.arbiter.holder = none → s.arbiter.noneWaits = true → offersRoom s.cue.txq = true →
            t.arbiter.holder = some .responder ∧ t.responder.placeHeld = true)))
    ∧ (∀ (s : State) (chk : Checks) (c : Stream), s.up = true → s.arbiter.holder = some .responder →
    s.responder.streaming = true → s.responder.unfinished = none → s.responder.placeHeld = true →
    s.responder.stream = c → sharedCount s.cue.txq ≤ 4 → chk.parity = [] →
    (∀ e, streamNext c s.store.index = some e → e.start ≤ c.last →
      (e.damaged = true ∨ bodyOutcome chk e.start = .clean) →
      ∃ t, exec (.responderStep chk) s = .next t ∧ t.store = s.store ∧ t.events = s.events ∧ t.handler = s.handler
        ∧ t.responder.streaming = true ∧ t.responder.stream = { c with cursor := some e.start, sent := c.sent + 1 }
        ∧ t.cue = { s.cue with txq := s.cue.txq ++ [⟨c.station, .listRec c.tag c.sent
            (if e.damaged then ⟨e.start, 0, 0, 0, false, true, none⟩
             else ⟨e.start, e.body.sceneId, e.revision, e.body.transitionLen, e.body.omitted, false, e.body.grade⟩)⟩] })
    ∧ ((∀ e, streamNext c s.store.index = some e → c.last < e.start) →
      ∃ t, exec (.responderStep chk) s = .next t ∧ t.store = s.store ∧ t.events = s.events ∧ t.handler = s.handler
        ∧ t.responder.streaming = false
        ∧ t.cue = { s.cue with txq := s.cue.txq ++ [⟨c.station, .listEnd c.tag false c.sent⟩] }))
    ∧ (∀ (s : State) (chk : Checks) (c : Stream) (e : Entry) (syn : Byte), s.up = true →
      s.arbiter.holder = some .responder → s.responder.streaming = true → s.responder.unfinished = none →
      s.responder.placeHeld = true → s.responder.stream = c → sharedCount s.cue.txq ≤ 4 → chk.parity = [] →
      streamNext c s.store.index = some e → e.start ≤ c.last → e.damaged = false → s.events.capture = ⟨.empty, false⟩ →
      (bodyOutcome chk e.start = .correctable syn →
        ∃ t q, exec (.responderStep chk) s = .next t ∧ s.signalled t ∧ t.store = s.store ∧ t.handler = s.handler
          ∧ t.responder.streaming = true ∧ t.responder.stream = { c with cursor := some e.start, sent := c.sent + 1 }
          ∧ t.cue.txq = q ++ [⟨c.station, .listRec c.tag c.sent
              ⟨e.start, e.body.sceneId, e.revision, e.body.transitionLen, e.body.omitted, false, e.body.grade⟩⟩]
          ∧ t.events = { s.events with
              flags := t.events.flags, corrected := min (s.events.corrected + 1) 65535,
              capture := ⟨.holding ⟨.corrected, .send, e.start, syn⟩, false⟩ }
          ∧ EventFlag.storeCe.isIn t.events.flags = true)
      ∧ (bodyOutcome chk e.start = .uncorrectable syn →
        ∃ t q, exec (.responderStep chk) s = .next t ∧ s.signalled t ∧ t.handler = s.handler
          ∧ t.store = { s.store with index := t.store.index }
          ∧ (∀ n, recordAtStart n t.store.index =
              if n = e.start then some { e with damaged := true } else recordAtStart n s.store.index)
          ∧ t.responder.streaming = true ∧ t.responder.stream = { c with cursor := some e.start, sent := c.sent + 1 }
          ∧ t.cue.txq = q ++ [⟨c.station, .listRec c.tag c.sent ⟨e.start, 0, 0, 0, false, true, none⟩⟩]
          ∧ t.events = { s.events with
              flags := t.events.flags, damaged := min (s.events.damaged + 1) 65535,
              capture := ⟨.locked ⟨.uncorrectable, .send, e.start, syn⟩, false⟩ }
          ∧ EventFlag.storeUe.isIn t.events.flags = true))
    ∧ ∀ (s : State) (c : Stream) (e : Entry), s.up = true → s.arbiter.holder = some .responder →
      s.responder.streaming = true → s.responder.unfinished = none → s.responder.placeHeld = true →
      s.responder.stream = c → sharedCount s.cue.txq ≤ 4 → s.store.ok → streamNext c s.store.index = some e →
      ∃ t q, exec (.responderStep ⟨[], [e.start]⟩) s = .next t ∧ s.signalled t ∧ t.handler = s.handler
        ∧ t.store = { s.store with frozen := true, index := t.store.index }
        ∧ t.store.index = s.store.index.map (fun x => if x = e then { e with faulty := true } else x)
        ∧ t.events = { s.events with flags := t.events.flags } ∧ EventFlag.indexFault.isIn t.events.flags = true
        ∧ (∀ x, streamNext c t.store.index = some x → x.start ≤ c.last →
            t.responder.stream = { c with cursor := some x.start, sent := c.sent + 1 }
              ∧ t.cue.txq = q ++ [⟨c.station, .listRec c.tag c.sent
                  (if x.damaged then ⟨x.start, 0, 0, 0, false, true, none⟩
                   else ⟨x.start, x.body.sceneId, x.revision, x.body.transitionLen, x.body.omitted, false,
                     x.body.grade⟩)⟩])
        ∧ ((∀ x, streamNext c t.store.index = some x → c.last < x.start) →
            t.responder.streaming = false ∧ t.cue.txq = q ++ [⟨c.station, .listEnd c.tag false c.sent⟩])

/-! ## The run of a resolution -/

/-- The reading of a resolution with clean checks (R47 to R51, R54, R57, R58): the effective grade of the frame taken
at the grant, inherited from further back or the base grade where the governing record has none; within a
transition of a graded record, its weight and the from-grade of the frame before its start; the scene and its
span. The store is released, the list stands, and the pending bank fills. The reading of a frame that no record
governs gives the base grade, inherited, and no scene (R47, R54); and the filling of any reading completes in a
READY bank (R52, R53, R58): unblended where no transition applies, else every value blended by the weight with
both curves where they differ; a rerun asked for starts at once. A governing body found correctable is counted, captured
with the operation RESOLVE, raises STORE_CE and is read as a clean one; one found uncorrectable gets the damaged mark, is
counted, captured, raises STORE_UE and is taken as damaged (R24, R169 to R171); an entry found faulty is marked, freezes
the store, raises INDEX_FAULT and is passed over (R173). A resolver's step triggers nothing, whatever it finds (R55). -/
def Obligations.ResolutionFillsTheBank : Prop :=
  (∀ (s : State) (l : Latch) (g : Entry) (back : List Entry), s.arbiter.holder = some .resolver →
    s.resolver.latch = some l → backFrom l.frame s.store.index = g :: back →
    ∃ t r, exec (.resolutionRead Checks.clean) s = .next t ∧ t.pipeline = { s.pipeline with pendingBank := .filling r }
      ∧ t.store = s.store ∧ t.events = s.events ∧ t.cue = s.cue ∧ t.handler = s.handler
      ∧ t.resolver.inFlight = s.resolver.inFlight ∧ t.resolver.rerun = s.resolver.rerun
      ∧ (s.arbiter.resolverWaits = false →
          t.arbiter =
            (if s.arbiter.handlerWaits then { s.arbiter with holder := some .handler, handlerWaits := false }
             else if s.arbiter.responderWaits then { s.arbiter with holder := some .responder, responderWaits := false }
             else { s.arbiter with holder := none }))
      ∧ r.frame = l.frame ∧ r.mode = l.mode ∧ r.toGrade = effectiveGrade s.config.baseGrade (g :: back)
      ∧ r.inherited = (g.damaged || g.body.grade.isNone)
      ∧ r.scene.start = some g.start ∧ r.scene.damaged = g.damaged ∧ r.scene.spanFirst = g.start
      ∧ r.scene.spanLast = (match nextAfter l.frame s.store.index with
          | none => 1048575
          | some n => n.start - 1)
      ∧ r.scene.sceneId = (if g.damaged then 0 else g.body.sceneId)
      ∧ r.scene.revision = (if g.damaged then 0 else g.revision)
      ∧ r.scene.omitted = (!g.damaged && g.body.omitted)
      ∧ (if g.damaged = false ∧ g.body.grade.isSome = true ∧ l.frame - g.start < g.body.transitionLen then
           r.w = (l.frame - g.start + 1) * 256 / (g.body.transitionLen + 1)
             ∧ r.fromGrade = some (effectiveGrade s.config.baseGrade back)
         else r.w = 256 ∧ r.fromGrade = none))
    ∧ ((∀ (s : State) (l : Latch), s.arbiter.holder = some .resolver → s.resolver.latch = some l →
      backFrom l.frame s.store.index = [] →
      ∃ t, exec (.resolutionRead Checks.clean) s = .next t ∧ t.store = s.store
        ∧ t.pipeline = { s.pipeline with pendingBank := .filling ⟨l.frame, l.mode, 256, s.config.baseGrade, none, true,
            ⟨none, 0, 0, false, false, 0, match nextAfter l.frame s.store.index with
              | none => 1048575
              | some n => n.start - 1⟩⟩ })
    ∧ ∀ (s : State) (r : Reading), s.up = true → s.pipeline.pendingBank = .filling r →
      ∃ t b, exec .fillingComplete s = .next t ∧ t.pipeline = { s.pipeline with pendingBank := .ready b }
        ∧ t.store = s.store ∧ t.cue = s.cue ∧ t.events = s.events ∧ t.resolver.rerun = false
        ∧ (if s.resolver.rerun = true then t.resolver.inFlight = true
             ∧ (t.arbiter.holder = some .resolver ∨ t.arbiter.resolverWaits = true)
           else t.resolver.inFlight = false ∧ t.arbiter = s.arbiter)
        ∧ b.resolvedFrame = r.frame ∧ b.mode = r.mode ∧ b.scene = r.scene ∧ b.inherited = r.inherited
        ∧ b.toCurve = r.toGrade.curve
        ∧ (match r.fromGrade with
           | none => b.w = 256 ∧ b.fromCurve = none ∧ b.black = r.toGrade.black ∧ b.gain = r.toGrade.gain
               ∧ b.lift = r.toGrade.lift ∧ b.sat = r.toGrade.sat
           | some f =>
             let p (x y : Int) : Int := x + ((y - x) * r.w + 128) / 256
             b.w = r.w ∧ b.fromCurve = (if f.curve = r.toGrade.curve then none else some f.curve)
               ∧ b.black = ⟨p f.black.r r.toGrade.black.r, p f.black.g r.toGrade.black.g, p f.black.b r.toGrade.black.b⟩
               ∧ b.gain = ⟨p f.gain.r r.toGrade.gain.r, p f.gain.g r.toGrade.gain.g, p f.gain.b r.toGrade.gain.b⟩
               ∧ b.lift = ⟨p f.lift.r r.toGrade.lift.r, p f.lift.g r.toGrade.lift.g, p f.lift.b r.toGrade.lift.b⟩
               ∧ b.sat = p f.sat r.toGrade.sat))
    ∧ (∀ (s : State) (l : Latch) (chk : Checks) (g : Entry) (back : List Entry) (syn : Byte), s.up = true →
      s.arbiter.holder = some .resolver → s.resolver.latch = some l → backFrom l.frame s.store.index = g :: back →
      chk.parity = [] → (∀ x ∈ back, bodyOutcome chk x.start = .clean) → g.damaged = false →
      s.events.capture = ⟨.empty, false⟩ →
      (bodyOutcome chk g.start = .correctable syn →
        ∃ t u, exec (.resolutionRead chk) s = .next t ∧ exec (.resolutionRead Checks.clean) s = .next u
          ∧ t.pipeline = u.pipeline ∧ t.store = s.store
          ∧ t.events = { s.events with
              flags := t.events.flags, corrected := min (s.events.corrected + 1) 65535,
              capture := ⟨.holding ⟨.corrected, .resolve, g.start, syn⟩, false⟩ }
          ∧ EventFlag.storeCe.isIn t.events.flags = true)
      ∧ (bodyOutcome chk g.start = .uncorrectable syn →
        ∃ t r, exec (.resolutionRead chk) s = .next t ∧ t.pipeline = { s.pipeline with pendingBank := .filling r }
          ∧ r.frame = l.frame ∧ r.mode = l.mode ∧ r.w = 256 ∧ r.fromGrade = none ∧ r.inherited = true
          ∧ r.toGrade = effectiveGrade s.config.baseGrade back ∧ r.scene.start = some g.start ∧ r.scene.sceneId = 0
          ∧ r.scene.revision = 0 ∧ r.scene.omitted = false ∧ r.scene.damaged = true
          ∧ t.store = { s.store with index := t.store.index }
          ∧ (∀ n, recordAtStart n t.store.index =
              if n = g.start then (recordAtStart n s.store.index).map (fun o => { o with damaged := true })
              else recordAtStart n s.store.index)
          ∧ t.events = { s.events with
              flags := t.events.flags, damaged := min (s.events.damaged + 1) 65535,
              capture := ⟨.locked ⟨.uncorrectable, .resolve, g.start, syn⟩, false⟩ }
          ∧ EventFlag.storeUe.isIn t.events.flags = true))
    ∧ (∀ (s : State) (l : Latch) (e : Entry), s.up = true → s.arbiter.holder = some .resolver →
      s.resolver.latch = some l → s.store.ok → e ∈ s.store.index → e.faulty = false → e.start ≤ l.frame →
      ∃ t u, exec (.resolutionRead ⟨[], [e.start]⟩) s = .next t
        ∧ exec (.resolutionRead Checks.clean) { s with store := t.store } = .next u ∧ t.pipeline = u.pipeline
        ∧ t.store = { s.store with frozen := true, index := t.store.index }
        ∧ t.store.index = s.store.index.map (fun x => if x = e then { e with faulty := true } else x)
        ∧ t.events = { s.events with flags := t.events.flags } ∧ EventFlag.indexFault.isIn t.events.flags = true)
    ∧ ∀ (s : State) (l : Latch) (chk : Checks), s.arbiter.holder = some .resolver → s.resolver.latch = some l →
      ∃ t, exec (.resolutionRead chk) s = .next t ∧ t.resolver.inFlight = s.resolver.inFlight
        ∧ t.resolver.rerun = s.resolver.rerun
end

