-- ==== Sys2Proof/Laws/State.lean ====
section
/-! SUPPORT. One lemma per field per named update of the state: what each of them leaves unchanged and what it writes. -/

namespace Sys2Proof.Machine

/-! ### ignore -/

@[simp] theorem ignore_part (s : State) :
    (ignore s).part = s.part := rfl

@[simp] theorem ignore_address (s : State) :
    (ignore s).address = s.address := rfl

@[simp] theorem ignore_config (s : State) :
    (ignore s).config = s.config := rfl

@[simp] theorem ignore_configSource (s : State) :
    (ignore s).configSource = s.configSource := rfl

@[simp] theorem ignore_pcu (s : State) :
    (ignore s).pcu = s.pcu := rfl

@[simp] theorem ignore_store (s : State) :
    (ignore s).store = s.store := rfl

@[simp] theorem ignore_arbiter (s : State) :
    (ignore s).arbiter = s.arbiter := rfl

@[simp] theorem ignore_resolver (s : State) :
    (ignore s).resolver = s.resolver := rfl

@[simp] theorem ignore_pipeline (s : State) :
    (ignore s).pipeline = s.pipeline := rfl

@[simp] theorem ignore_cue (s : State) :
    (ignore s).cue = s.cue := rfl

@[simp] theorem ignore_handler (s : State) :
    (ignore s).handler = { s.handler with ignored := satInc s.handler.ignored } := rfl

@[simp] theorem ignore_requester (s : State) :
    (ignore s).requester = s.requester := rfl

@[simp] theorem ignore_responder (s : State) :
    (ignore s).responder = s.responder := rfl

@[simp] theorem ignore_gate (s : State) :
    (ignore s).gate = s.gate := rfl

@[simp] theorem ignore_events (s : State) :
    (ignore s).events = s.events := rfl

@[simp] theorem ignore_pending (s : State) :
    (ignore s).pending = s.pending := rfl

/-! ### handlerIdle -/

@[simp] theorem handlerIdle_part (s : State) :
    (handlerIdle s).part = s.part := rfl

@[simp] theorem handlerIdle_address (s : State) :
    (handlerIdle s).address = s.address := rfl

@[simp] theorem handlerIdle_config (s : State) :
    (handlerIdle s).config = s.config := rfl

@[simp] theorem handlerIdle_configSource (s : State) :
    (handlerIdle s).configSource = s.configSource := rfl

@[simp] theorem handlerIdle_pcu (s : State) :
    (handlerIdle s).pcu = s.pcu := rfl

@[simp] theorem handlerIdle_store (s : State) :
    (handlerIdle s).store = s.store := rfl

@[simp] theorem handlerIdle_arbiter (s : State) :
    (handlerIdle s).arbiter = s.arbiter := rfl

@[simp] theorem handlerIdle_resolver (s : State) :
    (handlerIdle s).resolver = s.resolver := rfl

@[simp] theorem handlerIdle_pipeline (s : State) :
    (handlerIdle s).pipeline = s.pipeline := rfl

@[simp] theorem handlerIdle_cue (s : State) :
    (handlerIdle s).cue = s.cue := rfl

@[simp] theorem handlerIdle_handler (s : State) :
    (handlerIdle s).handler = ⟨.idle, s.handler.ignored⟩ := rfl

@[simp] theorem handlerIdle_requester (s : State) :
    (handlerIdle s).requester = s.requester := rfl

@[simp] theorem handlerIdle_responder (s : State) :
    (handlerIdle s).responder = s.responder := rfl

@[simp] theorem handlerIdle_gate (s : State) :
    (handlerIdle s).gate = s.gate := rfl

@[simp] theorem handlerIdle_events (s : State) :
    (handlerIdle s).events = s.events := rfl

@[simp] theorem handlerIdle_pending (s : State) :
    (handlerIdle s).pending = s.pending := rfl

/-! ### hold -/

@[simp] theorem hold_part (m : Message) (p : Phase) (s : State) :
    (hold m p s).part = s.part := rfl

@[simp] theorem hold_address (m : Message) (p : Phase) (s : State) :
    (hold m p s).address = s.address := rfl

@[simp] theorem hold_config (m : Message) (p : Phase) (s : State) :
    (hold m p s).config = s.config := rfl

@[simp] theorem hold_configSource (m : Message) (p : Phase) (s : State) :
    (hold m p s).configSource = s.configSource := rfl

@[simp] theorem hold_pcu (m : Message) (p : Phase) (s : State) :
    (hold m p s).pcu = s.pcu := rfl

@[simp] theorem hold_store (m : Message) (p : Phase) (s : State) :
    (hold m p s).store = s.store := rfl

@[simp] theorem hold_arbiter (m : Message) (p : Phase) (s : State) :
    (hold m p s).arbiter = s.arbiter := rfl

@[simp] theorem hold_resolver (m : Message) (p : Phase) (s : State) :
    (hold m p s).resolver = s.resolver := rfl

@[simp] theorem hold_pipeline (m : Message) (p : Phase) (s : State) :
    (hold m p s).pipeline = s.pipeline := rfl

@[simp] theorem hold_cue (m : Message) (p : Phase) (s : State) :
    (hold m p s).cue = s.cue := rfl

@[simp] theorem hold_handler (m : Message) (p : Phase) (s : State) :
    (hold m p s).handler = ⟨.executing m p, s.handler.ignored⟩ := rfl

@[simp] theorem hold_requester (m : Message) (p : Phase) (s : State) :
    (hold m p s).requester = s.requester := rfl

@[simp] theorem hold_responder (m : Message) (p : Phase) (s : State) :
    (hold m p s).responder = s.responder := rfl

@[simp] theorem hold_gate (m : Message) (p : Phase) (s : State) :
    (hold m p s).gate = s.gate := rfl

@[simp] theorem hold_events (m : Message) (p : Phase) (s : State) :
    (hold m p s).events = s.events := rfl

@[simp] theorem hold_pending (m : Message) (p : Phase) (s : State) :
    (hold m p s).pending = s.pending := rfl

/-! ### restartIdle -/

@[simp] theorem restartIdle_part (s : State) :
    (restartIdle s).part = s.part := rfl

@[simp] theorem restartIdle_address (s : State) :
    (restartIdle s).address = s.address := rfl

@[simp] theorem restartIdle_config (s : State) :
    (restartIdle s).config = s.config := rfl

@[simp] theorem restartIdle_configSource (s : State) :
    (restartIdle s).configSource = s.configSource := rfl

@[simp] theorem restartIdle_pcu (s : State) :
    (restartIdle s).pcu = s.pcu := rfl

@[simp] theorem restartIdle_store (s : State) :
    (restartIdle s).store = s.store := rfl

@[simp] theorem restartIdle_arbiter (s : State) :
    (restartIdle s).arbiter = s.arbiter := rfl

@[simp] theorem restartIdle_resolver (s : State) :
    (restartIdle s).resolver = s.resolver := rfl

@[simp] theorem restartIdle_pipeline (s : State) :
    (restartIdle s).pipeline = s.pipeline := rfl

@[simp] theorem restartIdle_cue (s : State) :
    (restartIdle s).cue = { s.cue with idle := ⟨true, 0⟩ } := rfl

@[simp] theorem restartIdle_handler (s : State) :
    (restartIdle s).handler = s.handler := rfl

@[simp] theorem restartIdle_requester (s : State) :
    (restartIdle s).requester = s.requester := rfl

@[simp] theorem restartIdle_responder (s : State) :
    (restartIdle s).responder = s.responder := rfl

@[simp] theorem restartIdle_gate (s : State) :
    (restartIdle s).gate = s.gate := rfl

@[simp] theorem restartIdle_events (s : State) :
    (restartIdle s).events = s.events := rfl

@[simp] theorem restartIdle_pending (s : State) :
    (restartIdle s).pending = s.pending := rfl

/-! ### closeClip -/

@[simp] theorem closeClip_part (s : State) :
    (closeClip s).part = s.part := rfl

@[simp] theorem closeClip_address (s : State) :
    (closeClip s).address = s.address := rfl

@[simp] theorem closeClip_config (s : State) :
    (closeClip s).config = s.config := rfl

@[simp] theorem closeClip_configSource (s : State) :
    (closeClip s).configSource = s.configSource := rfl

@[simp] theorem closeClip_pcu (s : State) :
    (closeClip s).pcu = s.pcu := rfl

@[simp] theorem closeClip_store (s : State) :
    (closeClip s).store = s.store := rfl

@[simp] theorem closeClip_arbiter (s : State) :
    (closeClip s).arbiter = s.arbiter := rfl

@[simp] theorem closeClip_resolver (s : State) :
    (closeClip s).resolver = s.resolver := rfl

@[simp] theorem closeClip_pipeline (s : State) :
    (closeClip s).pipeline = { s.pipeline with clipLast := s.pipeline.clipInProgress, clipInProgress := 0, lineOpen := false } := rfl

@[simp] theorem closeClip_cue (s : State) :
    (closeClip s).cue = s.cue := rfl

@[simp] theorem closeClip_handler (s : State) :
    (closeClip s).handler = s.handler := rfl

@[simp] theorem closeClip_requester (s : State) :
    (closeClip s).requester = s.requester := rfl

@[simp] theorem closeClip_responder (s : State) :
    (closeClip s).responder = s.responder := rfl

@[simp] theorem closeClip_gate (s : State) :
    (closeClip s).gate = s.gate := rfl

@[simp] theorem closeClip_events (s : State) :
    (closeClip s).events = s.events := rfl

@[simp] theorem closeClip_pending (s : State) :
    (closeClip s).pending = s.pending := rfl

/-! ### emitHeader -/

@[simp] theorem emitHeader_part (h : HeaderRecord) (s : State) :
    (emitHeader h s).part = s.part := rfl

@[simp] theorem emitHeader_address (h : HeaderRecord) (s : State) :
    (emitHeader h s).address = s.address := rfl

@[simp] theorem emitHeader_config (h : HeaderRecord) (s : State) :
    (emitHeader h s).config = s.config := rfl

@[simp] theorem emitHeader_configSource (h : HeaderRecord) (s : State) :
    (emitHeader h s).configSource = s.configSource := rfl

@[simp] theorem emitHeader_pcu (h : HeaderRecord) (s : State) :
    (emitHeader h s).pcu = s.pcu := rfl

@[simp] theorem emitHeader_store (h : HeaderRecord) (s : State) :
    (emitHeader h s).store = s.store := rfl

@[simp] theorem emitHeader_arbiter (h : HeaderRecord) (s : State) :
    (emitHeader h s).arbiter = s.arbiter := rfl

@[simp] theorem emitHeader_resolver (h : HeaderRecord) (s : State) :
    (emitHeader h s).resolver = s.resolver := rfl

@[simp] theorem emitHeader_pipeline (h : HeaderRecord) (s : State) :
    (emitHeader h s).pipeline = { s.pipeline with port := s.pipeline.port ++ headerWords h.bytes } := rfl

@[simp] theorem emitHeader_cue (h : HeaderRecord) (s : State) :
    (emitHeader h s).cue = s.cue := rfl

@[simp] theorem emitHeader_handler (h : HeaderRecord) (s : State) :
    (emitHeader h s).handler = s.handler := rfl

@[simp] theorem emitHeader_requester (h : HeaderRecord) (s : State) :
    (emitHeader h s).requester = s.requester := rfl

@[simp] theorem emitHeader_responder (h : HeaderRecord) (s : State) :
    (emitHeader h s).responder = s.responder := rfl

@[simp] theorem emitHeader_gate (h : HeaderRecord) (s : State) :
    (emitHeader h s).gate = s.gate := rfl

@[simp] theorem emitHeader_events (h : HeaderRecord) (s : State) :
    (emitHeader h s).events = s.events := rfl

@[simp] theorem emitHeader_pending (h : HeaderRecord) (s : State) :
    (emitHeader h s).pending = s.pending := rfl

/-! ### insertRecord -/

@[simp] theorem insertRecord_part (r : Record) (n : Nat) (s : State) :
    (insertRecord r n s).part = s.part := rfl

@[simp] theorem insertRecord_address (r : Record) (n : Nat) (s : State) :
    (insertRecord r n s).address = s.address := rfl

@[simp] theorem insertRecord_config (r : Record) (n : Nat) (s : State) :
    (insertRecord r n s).config = s.config := rfl

@[simp] theorem insertRecord_configSource (r : Record) (n : Nat) (s : State) :
    (insertRecord r n s).configSource = s.configSource := rfl

@[simp] theorem insertRecord_pcu (r : Record) (n : Nat) (s : State) :
    (insertRecord r n s).pcu = s.pcu := rfl

@[simp] theorem insertRecord_store (r : Record) (n : Nat) (s : State) :
    (insertRecord r n s).store = { s.store with index := insertEntry (Entry.fresh r.start n r.body) s.store.index, freeKnots := s.store.freeKnots - r.body.knotCount } := rfl

@[simp] theorem insertRecord_arbiter (r : Record) (n : Nat) (s : State) :
    (insertRecord r n s).arbiter = s.arbiter := rfl

@[simp] theorem insertRecord_resolver (r : Record) (n : Nat) (s : State) :
    (insertRecord r n s).resolver = s.resolver := rfl

@[simp] theorem insertRecord_pipeline (r : Record) (n : Nat) (s : State) :
    (insertRecord r n s).pipeline = s.pipeline := rfl

@[simp] theorem insertRecord_cue (r : Record) (n : Nat) (s : State) :
    (insertRecord r n s).cue = s.cue := rfl

@[simp] theorem insertRecord_handler (r : Record) (n : Nat) (s : State) :
    (insertRecord r n s).handler = s.handler := rfl

@[simp] theorem insertRecord_requester (r : Record) (n : Nat) (s : State) :
    (insertRecord r n s).requester = s.requester := rfl

@[simp] theorem insertRecord_responder (r : Record) (n : Nat) (s : State) :
    (insertRecord r n s).responder = s.responder := rfl

@[simp] theorem insertRecord_gate (r : Record) (n : Nat) (s : State) :
    (insertRecord r n s).gate = s.gate := rfl

@[simp] theorem insertRecord_events (r : Record) (n : Nat) (s : State) :
    (insertRecord r n s).events = s.events := rfl

@[simp] theorem insertRecord_pending (r : Record) (n : Nat) (s : State) :
    (insertRecord r n s).pending = s.pending := rfl

/-! ### rewriteRecord -/

@[simp] theorem rewriteRecord_part (a n h : Nat) (b : Body) (s : State) :
    (rewriteRecord a n h b s).part = s.part := rfl

@[simp] theorem rewriteRecord_address (a n h : Nat) (b : Body) (s : State) :
    (rewriteRecord a n h b s).address = s.address := rfl

@[simp] theorem rewriteRecord_config (a n h : Nat) (b : Body) (s : State) :
    (rewriteRecord a n h b s).config = s.config := rfl

@[simp] theorem rewriteRecord_configSource (a n h : Nat) (b : Body) (s : State) :
    (rewriteRecord a n h b s).configSource = s.configSource := rfl

@[simp] theorem rewriteRecord_pcu (a n h : Nat) (b : Body) (s : State) :
    (rewriteRecord a n h b s).pcu = s.pcu := rfl

@[simp] theorem rewriteRecord_store (a n h : Nat) (b : Body) (s : State) :
    (rewriteRecord a n h b s).store = { s.store with index := updateEntry a (fun _ => Entry.fresh a n b) s.store.index, freeKnots := s.store.freeKnots + h - b.knotCount } := rfl

@[simp] theorem rewriteRecord_arbiter (a n h : Nat) (b : Body) (s : State) :
    (rewriteRecord a n h b s).arbiter = s.arbiter := rfl

@[simp] theorem rewriteRecord_resolver (a n h : Nat) (b : Body) (s : State) :
    (rewriteRecord a n h b s).resolver = s.resolver := rfl

@[simp] theorem rewriteRecord_pipeline (a n h : Nat) (b : Body) (s : State) :
    (rewriteRecord a n h b s).pipeline = s.pipeline := rfl

@[simp] theorem rewriteRecord_cue (a n h : Nat) (b : Body) (s : State) :
    (rewriteRecord a n h b s).cue = s.cue := rfl

@[simp] theorem rewriteRecord_handler (a n h : Nat) (b : Body) (s : State) :
    (rewriteRecord a n h b s).handler = s.handler := rfl

@[simp] theorem rewriteRecord_requester (a n h : Nat) (b : Body) (s : State) :
    (rewriteRecord a n h b s).requester = s.requester := rfl

@[simp] theorem rewriteRecord_responder (a n h : Nat) (b : Body) (s : State) :
    (rewriteRecord a n h b s).responder = s.responder := rfl

@[simp] theorem rewriteRecord_gate (a n h : Nat) (b : Body) (s : State) :
    (rewriteRecord a n h b s).gate = s.gate := rfl

@[simp] theorem rewriteRecord_events (a n h : Nat) (b : Body) (s : State) :
    (rewriteRecord a n h b s).events = s.events := rfl

@[simp] theorem rewriteRecord_pending (a n h : Nat) (b : Body) (s : State) :
    (rewriteRecord a n h b s).pending = s.pending := rfl

/-! ### clearFlags -/

@[simp] theorem clearFlags_part (mask : BitVec 15) (s : State) :
    (clearFlags mask s).part = s.part := rfl

@[simp] theorem clearFlags_address (mask : BitVec 15) (s : State) :
    (clearFlags mask s).address = s.address := rfl

@[simp] theorem clearFlags_config (mask : BitVec 15) (s : State) :
    (clearFlags mask s).config = s.config := rfl

@[simp] theorem clearFlags_configSource (mask : BitVec 15) (s : State) :
    (clearFlags mask s).configSource = s.configSource := rfl

@[simp] theorem clearFlags_pcu (mask : BitVec 15) (s : State) :
    (clearFlags mask s).pcu = s.pcu := rfl

@[simp] theorem clearFlags_store (mask : BitVec 15) (s : State) :
    (clearFlags mask s).store = s.store := rfl

@[simp] theorem clearFlags_arbiter (mask : BitVec 15) (s : State) :
    (clearFlags mask s).arbiter = s.arbiter := rfl

@[simp] theorem clearFlags_resolver (mask : BitVec 15) (s : State) :
    (clearFlags mask s).resolver = s.resolver := rfl

@[simp] theorem clearFlags_pipeline (mask : BitVec 15) (s : State) :
    (clearFlags mask s).pipeline = s.pipeline := rfl

@[simp] theorem clearFlags_cue (mask : BitVec 15) (s : State) :
    (clearFlags mask s).cue = { s.cue with kindFlags := if EventFlag.lineError.isIn mask && EventFlag.lineError.isIn s.events.flags then 0 else s.cue.kindFlags } := rfl

@[simp] theorem clearFlags_handler (mask : BitVec 15) (s : State) :
    (clearFlags mask s).handler = s.handler := rfl

@[simp] theorem clearFlags_requester (mask : BitVec 15) (s : State) :
    (clearFlags mask s).requester = s.requester := rfl

@[simp] theorem clearFlags_responder (mask : BitVec 15) (s : State) :
    (clearFlags mask s).responder = s.responder := rfl

@[simp] theorem clearFlags_gate (mask : BitVec 15) (s : State) :
    (clearFlags mask s).gate = s.gate := rfl

@[simp] theorem clearFlags_events (mask : BitVec 15) (s : State) :
    (clearFlags mask s).events = { s.events with flags := s.events.flags &&& ~~~mask } := rfl

@[simp] theorem clearFlags_pending (mask : BitVec 15) (s : State) :
    (clearFlags mask s).pending = s.pending := rfl

/-! ### clearCaptures -/

@[simp] theorem clearCaptures_part (a b : Bool) (s : State) :
    (clearCaptures a b s).part = s.part := rfl

@[simp] theorem clearCaptures_address (a b : Bool) (s : State) :
    (clearCaptures a b s).address = s.address := rfl

@[simp] theorem clearCaptures_config (a b : Bool) (s : State) :
    (clearCaptures a b s).config = s.config := rfl

@[simp] theorem clearCaptures_configSource (a b : Bool) (s : State) :
    (clearCaptures a b s).configSource = s.configSource := rfl

@[simp] theorem clearCaptures_pcu (a b : Bool) (s : State) :
    (clearCaptures a b s).pcu = s.pcu := rfl

@[simp] theorem clearCaptures_store (a b : Bool) (s : State) :
    (clearCaptures a b s).store = s.store := rfl

@[simp] theorem clearCaptures_arbiter (a b : Bool) (s : State) :
    (clearCaptures a b s).arbiter = s.arbiter := rfl

@[simp] theorem clearCaptures_resolver (a b : Bool) (s : State) :
    (clearCaptures a b s).resolver = s.resolver := rfl

@[simp] theorem clearCaptures_pipeline (a b : Bool) (s : State) :
    (clearCaptures a b s).pipeline = s.pipeline := rfl

@[simp] theorem clearCaptures_cue (a b : Bool) (s : State) :
    (clearCaptures a b s).cue = { s.cue with capture := if b then ⟨none, false⟩ else s.cue.capture } := rfl

@[simp] theorem clearCaptures_handler (a b : Bool) (s : State) :
    (clearCaptures a b s).handler = s.handler := rfl

@[simp] theorem clearCaptures_requester (a b : Bool) (s : State) :
    (clearCaptures a b s).requester = s.requester := rfl

@[simp] theorem clearCaptures_responder (a b : Bool) (s : State) :
    (clearCaptures a b s).responder = s.responder := rfl

@[simp] theorem clearCaptures_gate (a b : Bool) (s : State) :
    (clearCaptures a b s).gate = s.gate := rfl

@[simp] theorem clearCaptures_events (a b : Bool) (s : State) :
    (clearCaptures a b s).events = { s.events with capture := if a then ⟨.empty, false⟩ else s.events.capture } := rfl

@[simp] theorem clearCaptures_pending (a b : Bool) (s : State) :
    (clearCaptures a b s).pending = s.pending := rfl

/-! ### armPunch -/

@[simp] theorem armPunch_part (i o : Nat) (a : Bool) (s : State) :
    (armPunch i o a s).part = s.part := rfl

@[simp] theorem armPunch_address (i o : Nat) (a : Bool) (s : State) :
    (armPunch i o a s).address = s.address := rfl

@[simp] theorem armPunch_config (i o : Nat) (a : Bool) (s : State) :
    (armPunch i o a s).config = s.config := rfl

@[simp] theorem armPunch_configSource (i o : Nat) (a : Bool) (s : State) :
    (armPunch i o a s).configSource = s.configSource := rfl

@[simp] theorem armPunch_pcu (i o : Nat) (a : Bool) (s : State) :
    (armPunch i o a s).pcu = s.pcu := rfl

@[simp] theorem armPunch_store (i o : Nat) (a : Bool) (s : State) :
    (armPunch i o a s).store = s.store := rfl

@[simp] theorem armPunch_arbiter (i o : Nat) (a : Bool) (s : State) :
    (armPunch i o a s).arbiter = s.arbiter := rfl

@[simp] theorem armPunch_resolver (i o : Nat) (a : Bool) (s : State) :
    (armPunch i o a s).resolver = s.resolver := rfl

@[simp] theorem armPunch_pipeline (i o : Nat) (a : Bool) (s : State) :
    (armPunch i o a s).pipeline = s.pipeline := rfl

@[simp] theorem armPunch_cue (i o : Nat) (a : Bool) (s : State) :
    (armPunch i o a s).cue = s.cue := rfl

@[simp] theorem armPunch_handler (i o : Nat) (a : Bool) (s : State) :
    (armPunch i o a s).handler = s.handler := rfl

@[simp] theorem armPunch_requester (i o : Nat) (a : Bool) (s : State) :
    (armPunch i o a s).requester = s.requester := rfl

@[simp] theorem armPunch_responder (i o : Nat) (a : Bool) (s : State) :
    (armPunch i o a s).responder = s.responder := rfl

@[simp] theorem armPunch_gate (i o : Nat) (a : Bool) (s : State) :
    (armPunch i o a s).gate = { s.gate with punch := { s.gate.punch with inFrame := i, outFrame := o, align := a, state := .armed }, target := if a then none else some i, lastEval := none } := rfl

@[simp] theorem armPunch_events (i o : Nat) (a : Bool) (s : State) :
    (armPunch i o a s).events = s.events := rfl

@[simp] theorem armPunch_pending (i o : Nat) (a : Bool) (s : State) :
    (armPunch i o a s).pending = s.pending := rfl

end Sys2Proof.Machine
end

