-- ==== Sys2Proof/Laws/Queue.lean ====
section
/-! SUPPORT. The transmit queue (R105 to R107): what a hand-over of a reserved kind leaves of it. -/

namespace Sys2Proof.Machine

theorem coalesced_kind (a b : TxContent) (h : a.kind = b.kind) : (coalesced a b).kind = a.kind := by
  cases a <;> cases b <;> simp_all [coalesced, TxContent.kind]

theorem coalesced_reserved (a b : TxContent) (h : a.kind = b.kind) : (coalesced a b).reserved = a.reserved := by
  cases a <;> cases b <;> simp_all [coalesced, TxContent.kind, TxContent.reserved]

/-- The kinds of the entries after a hand-over: unchanged where an entry of the kind is queued, else one more at the
tail. -/
theorem joinReserved_kinds (m : TxMsg) (q : List TxMsg) :
    (joinReserved m q).map (fun e => e.content.kind) =
      if q.any (fun e => e.content.kind = m.content.kind) then q.map (fun e => e.content.kind)
      else q.map (fun e => e.content.kind) ++ [m.content.kind] := by
  unfold joinReserved
  split
  · rw [List.map_map]
    apply List.map_congr_left
    intro e _
    simp only [Function.comp]
    split
    · next h => exact coalesced_kind _ _ h
    · rfl
  · simp

/-- The shared places taken depend on the kinds alone. -/
theorem sharedCount_kinds (q : List TxMsg) :
    sharedCount q =
      ((q.map (fun e => e.content.kind)).filter (fun k =>
        decide (k ≠ .sceneEntered) && decide (k ≠ .eventReport) && decide (k ≠ .status))).length := by
  unfold sharedCount
  induction q with
  | nil => rfl
  | cons e es ih =>
    have h : (!e.content.reserved) = (decide (e.content.kind ≠ .sceneEntered) && decide (e.content.kind ≠ .eventReport)
        && decide (e.content.kind ≠ .status)) := by
      cases e.content <;> rfl
    simp only [List.filter_cons, List.map_cons]
    rw [h]
    split <;> simp_all

/-- A hand-over of a reserved kind takes no shared place. -/
theorem sharedCount_joinReserved (m : TxMsg) (q : List TxMsg) (h : m.content.reserved = true) :
    sharedCount (joinReserved m q) = sharedCount q := by
  rw [sharedCount_kinds, joinReserved_kinds, sharedCount_kinds]
  split
  · rfl
  · rw [List.filter_append]
    cases hm : m.content <;> simp_all [TxContent.reserved, TxContent.kind]

/-- A report handed over takes no shared place. -/
theorem sharedCount_handReport (c : TxContent) (s : State) (h : c.reserved = true) :
    sharedCount (handReport c s).cue.txq = sharedCount s.cue.txq := by
  unfold handReport
  split
  · rfl
  · exact sharedCount_joinReserved _ _ h

/-- A raise takes no shared place. -/
theorem sharedCount_raise (f : EventFlag) (s : State) : sharedCount (raise f s).cue.txq = sharedCount s.cue.txq := by
  unfold raise
  split
  · dsimp only
    split
    · rw [sharedCount_handReport _ _ rfl]
    · rfl
  · rfl

end Sys2Proof.Machine
end

