-- ==== Sys2Proof/Laws/Ops.lean ====
section
/-! SUPPORT. The shared operations: for each, what it leaves unchanged (one lemma per field), and one lemma that says all it
can do. -/

namespace Sys2Proof.Machine

variable (s : State)

/-! ### handReport (R105, R106, R135) -/

/-- A report is discarded without a report address, else it takes its reserved place. -/
theorem handReport_spec (c : TxContent) :
    handReport c s = { s with
      cue.txq := match s.config.report with
        | none => s.cue.txq
        | some dest => joinReserved ⟨dest, c⟩ s.cue.txq } := by
  unfold handReport
  cases h : s.config.report <;> rfl

@[simp] theorem handReport_part (c : TxContent) : (handReport c s).part = s.part := by
  rw [handReport_spec]

@[simp] theorem handReport_address (c : TxContent) : (handReport c s).address = s.address := by
  rw [handReport_spec]

@[simp] theorem handReport_config (c : TxContent) : (handReport c s).config = s.config := by
  rw [handReport_spec]

@[simp] theorem handReport_configSource (c : TxContent) : (handReport c s).configSource = s.configSource := by
  rw [handReport_spec]

@[simp] theorem handReport_pcu (c : TxContent) : (handReport c s).pcu = s.pcu := by
  rw [handReport_spec]

@[simp] theorem handReport_store (c : TxContent) : (handReport c s).store = s.store := by
  rw [handReport_spec]

@[simp] theorem handReport_arbiter (c : TxContent) : (handReport c s).arbiter = s.arbiter := by
  rw [handReport_spec]

@[simp] theorem handReport_resolver (c : TxContent) : (handReport c s).resolver = s.resolver := by
  rw [handReport_spec]

@[simp] theorem handReport_pipeline (c : TxContent) : (handReport c s).pipeline = s.pipeline := by
  rw [handReport_spec]

@[simp] theorem handReport_handler (c : TxContent) : (handReport c s).handler = s.handler := by
  rw [handReport_spec]

@[simp] theorem handReport_requester (c : TxContent) : (handReport c s).requester = s.requester := by
  rw [handReport_spec]

@[simp] theorem handReport_responder (c : TxContent) : (handReport c s).responder = s.responder := by
  rw [handReport_spec]

@[simp] theorem handReport_gate (c : TxContent) : (handReport c s).gate = s.gate := by
  rw [handReport_spec]

@[simp] theorem handReport_events (c : TxContent) : (handReport c s).events = s.events := by
  rw [handReport_spec]

@[simp] theorem handReport_pending (c : TxContent) : (handReport c s).pending = s.pending := by
  rw [handReport_spec]

@[simp] theorem handReport_cue (c : TxContent) :
    (handReport c s).cue = { s.cue with
      txq := match s.config.report with
        | none => s.cue.txq
        | some dest => joinReserved ⟨dest, c⟩ s.cue.txq } := by
  rw [handReport_spec]

/-! ### raise (R176, R177) -/

/-- A raise in RESET or LOADING does nothing. -/
theorem raise_down (f : EventFlag) (h : s.up = false) : raise f s = s := by
  simp [raise, h]

/-- A raise of a flag already set does nothing. -/
theorem raise_set (f : EventFlag) (h : f.isIn s.events.flags = true) : raise f s = s := by
  simp [raise, h]

/-- A clear-to-set change of a flag that is not enabled sets the flag. -/
theorem raise_disabled (f : EventFlag) (hu : s.up = true) (hf : f.isIn s.events.flags = false)
    (he : f.isIn s.events.enable = false) :
    raise f s = { s with events.flags := s.events.flags ||| f.mask } := by
  simp [raise, hu, hf, he]

/-- A clear-to-set change of an enabled flag sets it and hands a report over. -/
theorem raise_enabled (f : EventFlag) (hu : s.up = true) (hf : f.isIn s.events.flags = false)
    (he : f.isIn s.events.enable = true) :
    raise f s = handReport (.eventReport (s.events.flags ||| f.mask) f.mask s.pcu.snapshot.fieldCount)
      { s with events.flags := s.events.flags ||| f.mask } := by
  simp [raise, hu, hf, he]

/-- Everything a raise can do: nothing but the flag and the queue of the reports. -/
theorem raise_spec (f : EventFlag) :
    raise f s = { s with events.flags := (raise f s).events.flags, cue.txq := (raise f s).cue.txq } := by
  unfold raise
  split
  · dsimp only
    split
    · rw [handReport_spec]
    · rfl
  · rfl

@[simp] theorem raise_part (f : EventFlag) : (raise f s).part = s.part := by
  rw [raise_spec]

@[simp] theorem raise_address (f : EventFlag) : (raise f s).address = s.address := by
  rw [raise_spec]

@[simp] theorem raise_config (f : EventFlag) : (raise f s).config = s.config := by
  rw [raise_spec]

@[simp] theorem raise_configSource (f : EventFlag) : (raise f s).configSource = s.configSource := by
  rw [raise_spec]

@[simp] theorem raise_pcu (f : EventFlag) : (raise f s).pcu = s.pcu := by
  rw [raise_spec]

@[simp] theorem raise_store (f : EventFlag) : (raise f s).store = s.store := by
  rw [raise_spec]

@[simp] theorem raise_arbiter (f : EventFlag) : (raise f s).arbiter = s.arbiter := by
  rw [raise_spec]

@[simp] theorem raise_resolver (f : EventFlag) : (raise f s).resolver = s.resolver := by
  rw [raise_spec]

@[simp] theorem raise_pipeline (f : EventFlag) : (raise f s).pipeline = s.pipeline := by
  rw [raise_spec]

@[simp] theorem raise_handler (f : EventFlag) : (raise f s).handler = s.handler := by
  rw [raise_spec]

@[simp] theorem raise_requester (f : EventFlag) : (raise f s).requester = s.requester := by
  rw [raise_spec]

@[simp] theorem raise_responder (f : EventFlag) : (raise f s).responder = s.responder := by
  rw [raise_spec]

@[simp] theorem raise_gate (f : EventFlag) : (raise f s).gate = s.gate := by
  rw [raise_spec]

@[simp] theorem raise_pending (f : EventFlag) : (raise f s).pending = s.pending := by
  rw [raise_spec]

theorem raise_cue (f : EventFlag) : (raise f s).cue = { s.cue with txq := (raise f s).cue.txq } :=
  congrArg State.cue (raise_spec s f)

theorem raise_events (f : EventFlag) : (raise f s).events = { s.events with flags := (raise f s).events.flags } :=
  congrArg State.events (raise_spec s f)

@[simp] theorem raise_cue_receiverOn (f : EventFlag) : (raise f s).cue.receiverOn = s.cue.receiverOn := by
  rw [raise_cue]

@[simp] theorem raise_cue_rx (f : EventFlag) : (raise f s).cue.rx = s.cue.rx := by
  rw [raise_cue]

@[simp] theorem raise_cue_kindFlags (f : EventFlag) : (raise f s).cue.kindFlags = s.cue.kindFlags := by
  rw [raise_cue]

@[simp] theorem raise_cue_capture (f : EventFlag) : (raise f s).cue.capture = s.cue.capture := by
  rw [raise_cue]

@[simp] theorem raise_cue_lineErrors (f : EventFlag) : (raise f s).cue.lineErrors = s.cue.lineErrors := by
  rw [raise_cue]

@[simp] theorem raise_cue_rxDrops (f : EventFlag) : (raise f s).cue.rxDrops = s.cue.rxDrops := by
  rw [raise_cue]

@[simp] theorem raise_cue_txAbandons (f : EventFlag) : (raise f s).cue.txAbandons = s.cue.txAbandons := by
  rw [raise_cue]

@[simp] theorem raise_cue_inbound (f : EventFlag) : (raise f s).cue.inbound = s.cue.inbound := by
  rw [raise_cue]

@[simp] theorem raise_cue_tx (f : EventFlag) : (raise f s).cue.tx = s.cue.tx := by
  rw [raise_cue]

@[simp] theorem raise_cue_idle (f : EventFlag) : (raise f s).cue.idle = s.cue.idle := by
  rw [raise_cue]

@[simp] theorem raise_cue_yieldMark (f : EventFlag) : (raise f s).cue.yieldMark = s.cue.yieldMark := by
  rw [raise_cue]

@[simp] theorem raise_cue_handover (f : EventFlag) : (raise f s).cue.handover = s.cue.handover := by
  rw [raise_cue]

@[simp] theorem raise_events_enable (f : EventFlag) : (raise f s).events.enable = s.events.enable := by
  rw [raise_events]

@[simp] theorem raise_events_statusEnable (f : EventFlag) : (raise f s).events.statusEnable = s.events.statusEnable := by
  rw [raise_events]

@[simp] theorem raise_events_statusCountdown (f : EventFlag) : (raise f s).events.statusCountdown = s.events.statusCountdown := by
  rw [raise_events]

@[simp] theorem raise_events_corrected (f : EventFlag) : (raise f s).events.corrected = s.events.corrected := by
  rw [raise_events]

@[simp] theorem raise_events_damaged (f : EventFlag) : (raise f s).events.damaged = s.events.damaged := by
  rw [raise_events]

@[simp] theorem raise_events_capture (f : EventFlag) : (raise f s).events.capture = s.events.capture := by
  rw [raise_events]

@[simp] theorem raise_up (f : EventFlag) : (raise f s).up = s.up := by
  simp [State.up]

@[simp] theorem raise_sharedCount (f : EventFlag) : sharedCount (raise f s).cue.txq = sharedCount s.cue.txq :=
  sharedCount_raise f s

@[simp] theorem raise_sharedTaken (f : EventFlag) : (raise f s).sharedTaken = s.sharedTaken := by
  simp [State.sharedTaken]

/-- A raise of a flag in JOINING or RUNNING leaves it set. -/
theorem raise_isIn (f : EventFlag) (hu : s.up = true) : f.isIn (raise f s).events.flags = true := by
  cases hf : f.isIn s.events.flags
  · have hm : f.isIn (s.events.flags ||| f.mask) = true := by
      simp [EventFlag.isIn, EventFlag.mask, EventFlag.index]
      cases f <;> simp
    cases he : f.isIn s.events.enable
    · rw [raise_disabled s f hu hf he]; exact hm
    · rw [raise_enabled s f hu hf he]; simpa using hm
  · rw [raise_set s f hf]; exact hf

/-- A raise clears no flag. -/
theorem raise_keeps (f g : EventFlag) (h : g.isIn s.events.flags = true) : g.isIn (raise f s).events.flags = true := by
  unfold raise
  split
  · dsimp only
    split <;> simp_all [EventFlag.isIn]
  · exact h

/-! ### handShared (R105) -/

/-- With a shared place free the message joins the tail. -/
theorem handShared_room (m : TxMsg) (h : s.sharedTaken < 5) :
    handShared m s = ({ s with cue.txq := s.cue.txq ++ [m] }, true) := by
  simp [handShared, h]

/-- With none free it is dropped, counted and raises TX_ABANDON. -/
theorem handShared_full (m : TxMsg) (h : 5 ≤ s.sharedTaken) :
    handShared m s = (raise .txAbandon { s with cue.txAbandons := satInc s.cue.txAbandons }, false) := by
  simp [handShared, Nat.not_lt.mpr h]

@[simp] theorem handShared_part (m : TxMsg) : ((handShared m s).1).part = s.part := by
  unfold handShared; split <;> simp

@[simp] theorem handShared_address (m : TxMsg) : ((handShared m s).1).address = s.address := by
  unfold handShared; split <;> simp

@[simp] theorem handShared_config (m : TxMsg) : ((handShared m s).1).config = s.config := by
  unfold handShared; split <;> simp

@[simp] theorem handShared_configSource (m : TxMsg) : ((handShared m s).1).configSource = s.configSource := by
  unfold handShared; split <;> simp

@[simp] theorem handShared_pcu (m : TxMsg) : ((handShared m s).1).pcu = s.pcu := by
  unfold handShared; split <;> simp

@[simp] theorem handShared_store (m : TxMsg) : ((handShared m s).1).store = s.store := by
  unfold handShared; split <;> simp

@[simp] theorem handShared_arbiter (m : TxMsg) : ((handShared m s).1).arbiter = s.arbiter := by
  unfold handShared; split <;> simp

@[simp] theorem handShared_resolver (m : TxMsg) : ((handShared m s).1).resolver = s.resolver := by
  unfold handShared; split <;> simp

@[simp] theorem handShared_pipeline (m : TxMsg) : ((handShared m s).1).pipeline = s.pipeline := by
  unfold handShared; split <;> simp

@[simp] theorem handShared_handler (m : TxMsg) : ((handShared m s).1).handler = s.handler := by
  unfold handShared; split <;> simp

@[simp] theorem handShared_requester (m : TxMsg) : ((handShared m s).1).requester = s.requester := by
  unfold handShared; split <;> simp

@[simp] theorem handShared_responder (m : TxMsg) : ((handShared m s).1).responder = s.responder := by
  unfold handShared; split <;> simp

@[simp] theorem handShared_gate (m : TxMsg) : ((handShared m s).1).gate = s.gate := by
  unfold handShared; split <;> simp

@[simp] theorem handShared_pending (m : TxMsg) : ((handShared m s).1).pending = s.pending := by
  unfold handShared; split <;> simp

/-! ### The store arbiter (R41, R42) -/


@[simp] theorem grant_part (c : Client) : (grant c s).part = s.part := by
  cases c <;> rfl

@[simp] theorem grant_address (c : Client) : (grant c s).address = s.address := by
  cases c <;> rfl

@[simp] theorem grant_config (c : Client) : (grant c s).config = s.config := by
  cases c <;> rfl

@[simp] theorem grant_configSource (c : Client) : (grant c s).configSource = s.configSource := by
  cases c <;> rfl

@[simp] theorem grant_pcu (c : Client) : (grant c s).pcu = s.pcu := by
  cases c <;> rfl

@[simp] theorem grant_store (c : Client) : (grant c s).store = s.store := by
  cases c <;> rfl

@[simp] theorem grant_pipeline (c : Client) : (grant c s).pipeline = s.pipeline := by
  cases c <;> rfl

@[simp] theorem grant_cue (c : Client) : (grant c s).cue = s.cue := by
  cases c <;> rfl

@[simp] theorem grant_handler (c : Client) : (grant c s).handler = s.handler := by
  cases c <;> rfl

@[simp] theorem grant_requester (c : Client) : (grant c s).requester = s.requester := by
  cases c <;> rfl

@[simp] theorem grant_gate (c : Client) : (grant c s).gate = s.gate := by
  cases c <;> rfl

@[simp] theorem grant_events (c : Client) : (grant c s).events = s.events := by
  cases c <;> rfl

@[simp] theorem grant_pending (c : Client) : (grant c s).pending = s.pending := by
  cases c <;> rfl

@[simp] theorem grant_arbiter (c : Client) : (grant c s).arbiter = { s.arbiter with holder := some c } := by
  cases c <;> rfl

/-- At its grant the resolver takes the gate frame and the mode setting (R57). -/
@[simp] theorem grant_resolver (c : Client) :
    (grant c s).resolver =
      if c = .resolver then { s.resolver with latch := some ⟨s.pcu.gateFrame, s.resolver.mode⟩ } else s.resolver := by
  cases c <;> rfl

/-- At its grant the responder holds a shared place where room is offered (R149). -/
@[simp] theorem grant_responder (c : Client) :
    (grant c s).responder =
      if c = .responder then { s.responder with placeHeld := offersRoom s.cue.txq } else s.responder := by
  cases c <;> rfl

@[simp] theorem request_part (c : Client) : (request c s).part = s.part := by
  unfold request; split <;> simp

@[simp] theorem request_address (c : Client) : (request c s).address = s.address := by
  unfold request; split <;> simp

@[simp] theorem request_config (c : Client) : (request c s).config = s.config := by
  unfold request; split <;> simp

@[simp] theorem request_configSource (c : Client) : (request c s).configSource = s.configSource := by
  unfold request; split <;> simp

@[simp] theorem request_pcu (c : Client) : (request c s).pcu = s.pcu := by
  unfold request; split <;> simp

@[simp] theorem request_store (c : Client) : (request c s).store = s.store := by
  unfold request; split <;> simp

@[simp] theorem request_pipeline (c : Client) : (request c s).pipeline = s.pipeline := by
  unfold request; split <;> simp

@[simp] theorem request_cue (c : Client) : (request c s).cue = s.cue := by
  unfold request; split <;> simp

@[simp] theorem request_handler (c : Client) : (request c s).handler = s.handler := by
  unfold request; split <;> simp

@[simp] theorem request_requester (c : Client) : (request c s).requester = s.requester := by
  unfold request; split <;> simp

@[simp] theorem request_gate (c : Client) : (request c s).gate = s.gate := by
  unfold request; split <;> simp

@[simp] theorem request_events (c : Client) : (request c s).events = s.events := by
  unfold request; split <;> simp

@[simp] theorem request_pending (c : Client) : (request c s).pending = s.pending := by
  unfold request; split <;> simp

/-- A request of a free store that no client waits for is granted at once. -/
theorem request_free (c : Client) (h : s.arbiter.holder = none) (hw : s.arbiter.noneWaits = true) :
    request c s = grant c s := by
  simp [request, h, hw]

/-- A request of a held store waits. -/
theorem request_held (c d : Client) (h : s.arbiter.holder = some d) :
    request c s = { s with arbiter := s.arbiter.wait c } := by
  simp [request, h]

@[simp] theorem release_part : (release s).part = s.part := by
  unfold release; split; · simp
  split; · simp
  split <;> simp

@[simp] theorem release_address : (release s).address = s.address := by
  unfold release; split; · simp
  split; · simp
  split <;> simp

@[simp] theorem release_config : (release s).config = s.config := by
  unfold release; split; · simp
  split; · simp
  split <;> simp

@[simp] theorem release_configSource : (release s).configSource = s.configSource := by
  unfold release; split; · simp
  split; · simp
  split <;> simp

@[simp] theorem release_pcu : (release s).pcu = s.pcu := by
  unfold release; split; · simp
  split; · simp
  split <;> simp

@[simp] theorem release_store : (release s).store = s.store := by
  unfold release; split; · simp
  split; · simp
  split <;> simp

@[simp] theorem release_pipeline : (release s).pipeline = s.pipeline := by
  unfold release; split; · simp
  split; · simp
  split <;> simp

@[simp] theorem release_cue : (release s).cue = s.cue := by
  unfold release; split; · simp
  split; · simp
  split <;> simp

@[simp] theorem release_handler : (release s).handler = s.handler := by
  unfold release; split; · simp
  split; · simp
  split <;> simp

@[simp] theorem release_requester : (release s).requester = s.requester := by
  unfold release; split; · simp
  split; · simp
  split <;> simp

@[simp] theorem release_gate : (release s).gate = s.gate := by
  unfold release; split; · simp
  split; · simp
  split <;> simp

@[simp] theorem release_events : (release s).events = s.events := by
  unfold release; split; · simp
  split; · simp
  split <;> simp

@[simp] theorem release_pending : (release s).pending = s.pending := by
  unfold release; split; · simp
  split; · simp
  split <;> simp

/-- A release serves the resolver first. -/
theorem release_to_resolver (h : s.arbiter.resolverWaits = true) :
    release s = grant .resolver { s with arbiter.resolverWaits := false } := by
  simp [release, h]

/-- Then the Message Handler. -/
theorem release_to_handler (h : s.arbiter.resolverWaits = false) (h' : s.arbiter.handlerWaits = true) :
    release s = grant .handler { s with arbiter.handlerWaits := false } := by
  simp [release, h, h']

/-- Then the responder. -/
theorem release_to_responder (h : s.arbiter.resolverWaits = false) (h' : s.arbiter.handlerWaits = false)
    (h'' : s.arbiter.responderWaits = true) :
    release s = grant .responder { s with arbiter.responderWaits := false } := by
  simp [release, h, h', h'']

/-- With no client waiting the store becomes free. -/
theorem release_to_none (h : s.arbiter.noneWaits = true) : release s = { s with arbiter.holder := none } := by
  simp [Arbiter.noneWaits] at h
  simp [release, h]

/-! ### The resolution trigger (R55, R56) -/


@[simp] theorem trigger_part : (trigger s).part = s.part := by
  unfold trigger; split; · split <;> simp
  rfl

@[simp] theorem trigger_address : (trigger s).address = s.address := by
  unfold trigger; split; · split <;> simp
  rfl

@[simp] theorem trigger_config : (trigger s).config = s.config := by
  unfold trigger; split; · split <;> simp
  rfl

@[simp] theorem trigger_configSource : (trigger s).configSource = s.configSource := by
  unfold trigger; split; · split <;> simp
  rfl

@[simp] theorem trigger_pcu : (trigger s).pcu = s.pcu := by
  unfold trigger; split; · split <;> simp
  rfl

@[simp] theorem trigger_store : (trigger s).store = s.store := by
  unfold trigger; split; · split <;> simp
  rfl

@[simp] theorem trigger_pipeline : (trigger s).pipeline = s.pipeline := by
  unfold trigger; split; · split <;> simp
  rfl

@[simp] theorem trigger_cue : (trigger s).cue = s.cue := by
  unfold trigger; split; · split <;> simp
  rfl

@[simp] theorem trigger_handler : (trigger s).handler = s.handler := by
  unfold trigger; split; · split <;> simp
  rfl

@[simp] theorem trigger_requester : (trigger s).requester = s.requester := by
  unfold trigger; split; · split <;> simp
  rfl

@[simp] theorem trigger_gate : (trigger s).gate = s.gate := by
  unfold trigger; split; · split <;> simp
  rfl

@[simp] theorem trigger_events : (trigger s).events = s.events := by
  unfold trigger; split; · split <;> simp
  rfl

@[simp] theorem trigger_pending : (trigger s).pending = s.pending := by
  unfold trigger; split; · split <;> simp
  rfl

@[simp] theorem triggerIf_part (b : Bool) : (triggerIf b s).part = s.part := by
  cases b <;> simp [triggerIf]

@[simp] theorem triggerIf_address (b : Bool) : (triggerIf b s).address = s.address := by
  cases b <;> simp [triggerIf]

@[simp] theorem triggerIf_config (b : Bool) : (triggerIf b s).config = s.config := by
  cases b <;> simp [triggerIf]

@[simp] theorem triggerIf_configSource (b : Bool) : (triggerIf b s).configSource = s.configSource := by
  cases b <;> simp [triggerIf]

@[simp] theorem triggerIf_pcu (b : Bool) : (triggerIf b s).pcu = s.pcu := by
  cases b <;> simp [triggerIf]

@[simp] theorem triggerIf_store (b : Bool) : (triggerIf b s).store = s.store := by
  cases b <;> simp [triggerIf]

@[simp] theorem triggerIf_pipeline (b : Bool) : (triggerIf b s).pipeline = s.pipeline := by
  cases b <;> simp [triggerIf]

@[simp] theorem triggerIf_cue (b : Bool) : (triggerIf b s).cue = s.cue := by
  cases b <;> simp [triggerIf]

@[simp] theorem triggerIf_handler (b : Bool) : (triggerIf b s).handler = s.handler := by
  cases b <;> simp [triggerIf]

@[simp] theorem triggerIf_requester (b : Bool) : (triggerIf b s).requester = s.requester := by
  cases b <;> simp [triggerIf]

@[simp] theorem triggerIf_gate (b : Bool) : (triggerIf b s).gate = s.gate := by
  cases b <;> simp [triggerIf]

@[simp] theorem triggerIf_events (b : Bool) : (triggerIf b s).events = s.events := by
  cases b <;> simp [triggerIf]

@[simp] theorem triggerIf_pending (b : Bool) : (triggerIf b s).pending = s.pending := by
  cases b <;> simp [triggerIf]

@[simp] theorem releaseSignal_part (b : Bool) : (releaseSignal b s).part = s.part := by
  simp [releaseSignal]

@[simp] theorem releaseSignal_address (b : Bool) : (releaseSignal b s).address = s.address := by
  simp [releaseSignal]

@[simp] theorem releaseSignal_config (b : Bool) : (releaseSignal b s).config = s.config := by
  simp [releaseSignal]

@[simp] theorem releaseSignal_configSource (b : Bool) : (releaseSignal b s).configSource = s.configSource := by
  simp [releaseSignal]

@[simp] theorem releaseSignal_pcu (b : Bool) : (releaseSignal b s).pcu = s.pcu := by
  simp [releaseSignal]

@[simp] theorem releaseSignal_store (b : Bool) : (releaseSignal b s).store = s.store := by
  simp [releaseSignal]

@[simp] theorem releaseSignal_pipeline (b : Bool) : (releaseSignal b s).pipeline = s.pipeline := by
  simp [releaseSignal]

@[simp] theorem releaseSignal_cue (b : Bool) : (releaseSignal b s).cue = s.cue := by
  simp [releaseSignal]

@[simp] theorem releaseSignal_handler (b : Bool) : (releaseSignal b s).handler = s.handler := by
  simp [releaseSignal]

@[simp] theorem releaseSignal_requester (b : Bool) : (releaseSignal b s).requester = s.requester := by
  simp [releaseSignal]

@[simp] theorem releaseSignal_gate (b : Bool) : (releaseSignal b s).gate = s.gate := by
  simp [releaseSignal]

@[simp] theorem releaseSignal_events (b : Bool) : (releaseSignal b s).events = s.events := by
  simp [releaseSignal]

@[simp] theorem releaseSignal_pending (b : Bool) : (releaseSignal b s).pending = s.pending := by
  simp [releaseSignal]

/-- A trigger taken while a resolution is in flight sets the rerun and starts nothing. -/
theorem trigger_rerun (hu : s.up = true) (h : s.resolver.inFlight = true) :
    trigger s = { s with resolver.rerun := true } := by
  simp [trigger, hu, h]

/-- A trigger taken while none is in flight starts one, which requests the store. -/
theorem trigger_starts (hu : s.up = true) (h : s.resolver.inFlight = false) :
    trigger s = request .resolver { s with resolver.inFlight := true } := by
  simp [trigger, hu, h]

/-- In RESET and LOADING the resolver takes no trigger. -/
theorem trigger_down (hu : s.up = false) : trigger s = s := by
  simp [trigger, hu]

/-! ### The responder's request (R149) -/


@[simp] theorem pokeResponder_part : (pokeResponder s).part = s.part := by
  unfold pokeResponder; split <;> simp

@[simp] theorem pokeResponder_address : (pokeResponder s).address = s.address := by
  unfold pokeResponder; split <;> simp

@[simp] theorem pokeResponder_config : (pokeResponder s).config = s.config := by
  unfold pokeResponder; split <;> simp

@[simp] theorem pokeResponder_configSource : (pokeResponder s).configSource = s.configSource := by
  unfold pokeResponder; split <;> simp

@[simp] theorem pokeResponder_pcu : (pokeResponder s).pcu = s.pcu := by
  unfold pokeResponder; split <;> simp

@[simp] theorem pokeResponder_store : (pokeResponder s).store = s.store := by
  unfold pokeResponder; split <;> simp

@[simp] theorem pokeResponder_pipeline : (pokeResponder s).pipeline = s.pipeline := by
  unfold pokeResponder; split <;> simp

@[simp] theorem pokeResponder_cue : (pokeResponder s).cue = s.cue := by
  unfold pokeResponder; split <;> simp

@[simp] theorem pokeResponder_handler : (pokeResponder s).handler = s.handler := by
  unfold pokeResponder; split <;> simp

@[simp] theorem pokeResponder_requester : (pokeResponder s).requester = s.requester := by
  unfold pokeResponder; split <;> simp

@[simp] theorem pokeResponder_gate : (pokeResponder s).gate = s.gate := by
  unfold pokeResponder; split <;> simp

@[simp] theorem pokeResponder_events : (pokeResponder s).events = s.events := by
  unfold pokeResponder; split <;> simp

@[simp] theorem pokeResponder_pending : (pokeResponder s).pending = s.pending := by
  unfold pokeResponder; split <;> simp

/-! ### The abort of a punch (R161) -/

/-- A punch that does not record is left as it is. -/
theorem abortPunch_other (h : s.gate.punch.state ≠ .recording) : abortPunch s = s := by
  simp [abortPunch, h]

/-- A recording punch drops GATE and becomes ABORTED. -/
theorem abortPunch_recording (h : s.gate.punch.state = .recording) :
    abortPunch s = raise .punchEvent { s with
      gate.gate := false,
      gate.punch := { s.gate.punch with
        state := .aborted, outStamp := s.pcu.snapshot.fieldCount, unread := true } } := by
  simp [abortPunch, h]

@[simp] theorem abortPunch_part : (abortPunch s).part = s.part := by
  unfold abortPunch; split <;> simp

@[simp] theorem abortPunch_address : (abortPunch s).address = s.address := by
  unfold abortPunch; split <;> simp

@[simp] theorem abortPunch_config : (abortPunch s).config = s.config := by
  unfold abortPunch; split <;> simp

@[simp] theorem abortPunch_configSource : (abortPunch s).configSource = s.configSource := by
  unfold abortPunch; split <;> simp

@[simp] theorem abortPunch_pcu : (abortPunch s).pcu = s.pcu := by
  unfold abortPunch; split <;> simp

@[simp] theorem abortPunch_store : (abortPunch s).store = s.store := by
  unfold abortPunch; split <;> simp

@[simp] theorem abortPunch_arbiter : (abortPunch s).arbiter = s.arbiter := by
  unfold abortPunch; split <;> simp

@[simp] theorem abortPunch_resolver : (abortPunch s).resolver = s.resolver := by
  unfold abortPunch; split <;> simp

@[simp] theorem abortPunch_pipeline : (abortPunch s).pipeline = s.pipeline := by
  unfold abortPunch; split <;> simp

@[simp] theorem abortPunch_handler : (abortPunch s).handler = s.handler := by
  unfold abortPunch; split <;> simp

@[simp] theorem abortPunch_requester : (abortPunch s).requester = s.requester := by
  unfold abortPunch; split <;> simp

@[simp] theorem abortPunch_responder : (abortPunch s).responder = s.responder := by
  unfold abortPunch; split <;> simp

@[simp] theorem abortPunch_pending : (abortPunch s).pending = s.pending := by
  unfold abortPunch; split <;> simp

/-! ### Replies and the ends of a message (R114, R118) -/

@[simp] theorem sendReply_part (m : Message) (r : ReplyResult) (b : ReplyBody) : ((sendReply m r b s).1).part = s.part := by
  unfold sendReply; split <;> simp

@[simp] theorem sendReply_address (m : Message) (r : ReplyResult) (b : ReplyBody) : ((sendReply m r b s).1).address = s.address := by
  unfold sendReply; split <;> simp

@[simp] theorem sendReply_config (m : Message) (r : ReplyResult) (b : ReplyBody) : ((sendReply m r b s).1).config = s.config := by
  unfold sendReply; split <;> simp

@[simp] theorem sendReply_configSource (m : Message) (r : ReplyResult) (b : ReplyBody) : ((sendReply m r b s).1).configSource = s.configSource := by
  unfold sendReply; split <;> simp

@[simp] theorem sendReply_pcu (m : Message) (r : ReplyResult) (b : ReplyBody) : ((sendReply m r b s).1).pcu = s.pcu := by
  unfold sendReply; split <;> simp

@[simp] theorem sendReply_store (m : Message) (r : ReplyResult) (b : ReplyBody) : ((sendReply m r b s).1).store = s.store := by
  unfold sendReply; split <;> simp

@[simp] theorem sendReply_arbiter (m : Message) (r : ReplyResult) (b : ReplyBody) : ((sendReply m r b s).1).arbiter = s.arbiter := by
  unfold sendReply; split <;> simp

@[simp] theorem sendReply_resolver (m : Message) (r : ReplyResult) (b : ReplyBody) : ((sendReply m r b s).1).resolver = s.resolver := by
  unfold sendReply; split <;> simp

@[simp] theorem sendReply_pipeline (m : Message) (r : ReplyResult) (b : ReplyBody) : ((sendReply m r b s).1).pipeline = s.pipeline := by
  unfold sendReply; split <;> simp

@[simp] theorem sendReply_handler (m : Message) (r : ReplyResult) (b : ReplyBody) : ((sendReply m r b s).1).handler = s.handler := by
  unfold sendReply; split <;> simp

@[simp] theorem sendReply_requester (m : Message) (r : ReplyResult) (b : ReplyBody) : ((sendReply m r b s).1).requester = s.requester := by
  unfold sendReply; split <;> simp

@[simp] theorem sendReply_responder (m : Message) (r : ReplyResult) (b : ReplyBody) : ((sendReply m r b s).1).responder = s.responder := by
  unfold sendReply; split <;> simp

@[simp] theorem sendReply_gate (m : Message) (r : ReplyResult) (b : ReplyBody) : ((sendReply m r b s).1).gate = s.gate := by
  unfold sendReply; split <;> simp

@[simp] theorem sendReply_pending (m : Message) (r : ReplyResult) (b : ReplyBody) : ((sendReply m r b s).1).pending = s.pending := by
  unfold sendReply; split <;> simp

/-- A message not individually addressed, or from a source above 63, gets no REPLY. -/
theorem sendReply_none (m : Message) (r : ReplyResult) (b : ReplyBody)
    (h : ¬(m.addressing = .individual ∧ m.source.toNat ≤ 63)) : sendReply m r b s = (s, false) := by
  simp [sendReply, h]

/-- An individually addressed message gets a REPLY to its source, where a shared place is free. -/
theorem sendReply_room (m : Message) (r : ReplyResult) (b : ReplyBody)
    (h : m.addressing = .individual ∧ m.source.toNat ≤ 63) (hr : s.sharedTaken < 5) :
    sendReply m r b s = ({ s with cue.txq := s.cue.txq ++ [⟨m.source, .reply m.kind r b⟩] }, true) := by
  simp [sendReply, h, handShared_room s _ hr]

@[simp] theorem endPlain_part (m : Message) (r : ReplyResult) (b : ReplyBody) : (endPlain m r b s).part = s.part := by
  unfold endPlain; simp; split <;> simp

@[simp] theorem endPlain_address (m : Message) (r : ReplyResult) (b : ReplyBody) : (endPlain m r b s).address = s.address := by
  unfold endPlain; simp; split <;> simp

@[simp] theorem endPlain_config (m : Message) (r : ReplyResult) (b : ReplyBody) : (endPlain m r b s).config = s.config := by
  unfold endPlain; simp; split <;> simp

@[simp] theorem endPlain_configSource (m : Message) (r : ReplyResult) (b : ReplyBody) : (endPlain m r b s).configSource = s.configSource := by
  unfold endPlain; simp; split <;> simp

@[simp] theorem endPlain_pcu (m : Message) (r : ReplyResult) (b : ReplyBody) : (endPlain m r b s).pcu = s.pcu := by
  unfold endPlain; simp; split <;> simp

@[simp] theorem endPlain_store (m : Message) (r : ReplyResult) (b : ReplyBody) : (endPlain m r b s).store = s.store := by
  unfold endPlain; simp; split <;> simp

@[simp] theorem endPlain_arbiter (m : Message) (r : ReplyResult) (b : ReplyBody) : (endPlain m r b s).arbiter = s.arbiter := by
  unfold endPlain; simp; split <;> simp

@[simp] theorem endPlain_resolver (m : Message) (r : ReplyResult) (b : ReplyBody) : (endPlain m r b s).resolver = s.resolver := by
  unfold endPlain; simp; split <;> simp

@[simp] theorem endPlain_pipeline (m : Message) (r : ReplyResult) (b : ReplyBody) : (endPlain m r b s).pipeline = s.pipeline := by
  unfold endPlain; simp; split <;> simp

@[simp] theorem endPlain_requester (m : Message) (r : ReplyResult) (b : ReplyBody) : (endPlain m r b s).requester = s.requester := by
  unfold endPlain; simp; split <;> simp

@[simp] theorem endPlain_responder (m : Message) (r : ReplyResult) (b : ReplyBody) : (endPlain m r b s).responder = s.responder := by
  unfold endPlain; simp; split <;> simp

@[simp] theorem endPlain_gate (m : Message) (r : ReplyResult) (b : ReplyBody) : (endPlain m r b s).gate = s.gate := by
  unfold endPlain; simp; split <;> simp

@[simp] theorem endPlain_pending (m : Message) (r : ReplyResult) (b : ReplyBody) : (endPlain m r b s).pending = s.pending := by
  unfold endPlain; simp; split <;> simp

/-! ### Starting and ending a fetch (R139, R146) -/

@[simp] theorem startFetch_part (p : Byte) (a b : Nat) : (startFetch p a b s).part = s.part := by
  simp [startFetch]

@[simp] theorem startFetch_address (p : Byte) (a b : Nat) : (startFetch p a b s).address = s.address := by
  simp [startFetch]

@[simp] theorem startFetch_config (p : Byte) (a b : Nat) : (startFetch p a b s).config = s.config := by
  simp [startFetch]

@[simp] theorem startFetch_configSource (p : Byte) (a b : Nat) : (startFetch p a b s).configSource = s.configSource := by
  simp [startFetch]

@[simp] theorem startFetch_pcu (p : Byte) (a b : Nat) : (startFetch p a b s).pcu = s.pcu := by
  simp [startFetch]

@[simp] theorem startFetch_store (p : Byte) (a b : Nat) : (startFetch p a b s).store = s.store := by
  simp [startFetch]

@[simp] theorem startFetch_arbiter (p : Byte) (a b : Nat) : (startFetch p a b s).arbiter = s.arbiter := by
  simp [startFetch]

@[simp] theorem startFetch_resolver (p : Byte) (a b : Nat) : (startFetch p a b s).resolver = s.resolver := by
  simp [startFetch]

@[simp] theorem startFetch_pipeline (p : Byte) (a b : Nat) : (startFetch p a b s).pipeline = s.pipeline := by
  simp [startFetch]

@[simp] theorem startFetch_handler (p : Byte) (a b : Nat) : (startFetch p a b s).handler = s.handler := by
  simp [startFetch]

@[simp] theorem startFetch_responder (p : Byte) (a b : Nat) : (startFetch p a b s).responder = s.responder := by
  simp [startFetch]

@[simp] theorem startFetch_gate (p : Byte) (a b : Nat) : (startFetch p a b s).gate = s.gate := by
  simp [startFetch]

@[simp] theorem startFetch_pending (p : Byte) (a b : Nat) : (startFetch p a b s).pending = s.pending := by
  simp [startFetch]

@[simp] theorem endFetch_part (r : FetchResult) : (endFetch r s).part = s.part := by
  simp [endFetch]

@[simp] theorem endFetch_address (r : FetchResult) : (endFetch r s).address = s.address := by
  simp [endFetch]

@[simp] theorem endFetch_config (r : FetchResult) : (endFetch r s).config = s.config := by
  simp [endFetch]

@[simp] theorem endFetch_configSource (r : FetchResult) : (endFetch r s).configSource = s.configSource := by
  simp [endFetch]

@[simp] theorem endFetch_pcu (r : FetchResult) : (endFetch r s).pcu = s.pcu := by
  simp [endFetch]

@[simp] theorem endFetch_store (r : FetchResult) : (endFetch r s).store = s.store := by
  simp [endFetch]

@[simp] theorem endFetch_arbiter (r : FetchResult) : (endFetch r s).arbiter = s.arbiter := by
  simp [endFetch]

@[simp] theorem endFetch_resolver (r : FetchResult) : (endFetch r s).resolver = s.resolver := by
  simp [endFetch]

@[simp] theorem endFetch_pipeline (r : FetchResult) : (endFetch r s).pipeline = s.pipeline := by
  simp [endFetch]

@[simp] theorem endFetch_handler (r : FetchResult) : (endFetch r s).handler = s.handler := by
  simp [endFetch]

@[simp] theorem endFetch_responder (r : FetchResult) : (endFetch r s).responder = s.responder := by
  simp [endFetch]

@[simp] theorem endFetch_gate (r : FetchResult) : (endFetch r s).gate = s.gate := by
  simp [endFetch]

@[simp] theorem endFetch_pending (r : FetchResult) : (endFetch r s).pending = s.pending := by
  simp [endFetch]

/-! ### The check of a lookup (R173) -/

@[simp] theorem examineStore_part (stop : Nat → Bool) (chk : Checks) : ((examineStore stop chk s).1).part = s.part := by
  unfold examineStore; dsimp only; split <;> simp

@[simp] theorem examineStore_address (stop : Nat → Bool) (chk : Checks) : ((examineStore stop chk s).1).address = s.address := by
  unfold examineStore; dsimp only; split <;> simp

@[simp] theorem examineStore_config (stop : Nat → Bool) (chk : Checks) : ((examineStore stop chk s).1).config = s.config := by
  unfold examineStore; dsimp only; split <;> simp

@[simp] theorem examineStore_configSource (stop : Nat → Bool) (chk : Checks) : ((examineStore stop chk s).1).configSource = s.configSource := by
  unfold examineStore; dsimp only; split <;> simp

@[simp] theorem examineStore_pcu (stop : Nat → Bool) (chk : Checks) : ((examineStore stop chk s).1).pcu = s.pcu := by
  unfold examineStore; dsimp only; split <;> simp

@[simp] theorem examineStore_arbiter (stop : Nat → Bool) (chk : Checks) : ((examineStore stop chk s).1).arbiter = s.arbiter := by
  unfold examineStore; dsimp only; split <;> simp

@[simp] theorem examineStore_resolver (stop : Nat → Bool) (chk : Checks) : ((examineStore stop chk s).1).resolver = s.resolver := by
  unfold examineStore; dsimp only; split <;> simp

@[simp] theorem examineStore_pipeline (stop : Nat → Bool) (chk : Checks) : ((examineStore stop chk s).1).pipeline = s.pipeline := by
  unfold examineStore; dsimp only; split <;> simp

@[simp] theorem examineStore_handler (stop : Nat → Bool) (chk : Checks) : ((examineStore stop chk s).1).handler = s.handler := by
  unfold examineStore; dsimp only; split <;> simp

@[simp] theorem examineStore_requester (stop : Nat → Bool) (chk : Checks) : ((examineStore stop chk s).1).requester = s.requester := by
  unfold examineStore; dsimp only; split <;> simp

@[simp] theorem examineStore_responder (stop : Nat → Bool) (chk : Checks) : ((examineStore stop chk s).1).responder = s.responder := by
  unfold examineStore; dsimp only; split <;> simp

@[simp] theorem examineStore_gate (stop : Nat → Bool) (chk : Checks) : ((examineStore stop chk s).1).gate = s.gate := by
  unfold examineStore; dsimp only; split <;> simp

@[simp] theorem examineStore_pending (stop : Nat → Bool) (chk : Checks) : ((examineStore stop chk s).1).pending = s.pending := by
  unfold examineStore; dsimp only; split <;> simp

/-- A lookup that finds no new faulty entry changes nothing. -/
theorem examineStore_clean (stop : Nat → Bool) (chk : Checks) (h : (examine stop chk.parity s.store.index).2 = false) :
    examineStore stop chk s = (s, false) := by
  simp [examineStore, h]

/-- One that finds one marks the entries, freezes the store and raises INDEX_FAULT. -/
theorem examineStore_fault (stop : Nat → Bool) (chk : Checks) (h : (examine stop chk.parity s.store.index).2 = true) :
    examineStore stop chk s =
      (raise .indexFault { s with
        store.index := (examine stop chk.parity s.store.index).1, store.frozen := true }, true) := by
  simp [examineStore, h]

/-- With every parity check clean no entry is marked. -/
theorem examine_clean (stop : Nat → Bool) (idx : List Entry) : examine stop [] idx = (idx, false) := by
  induction idx with
  | nil => rfl
  | cons e es ih => simp [examine, ih]

/-- A lookup marks entries and changes nothing else in them. -/
theorem examine_starts (stop : Nat → Bool) (bad : List Nat) (idx : List Entry) :
    (examine stop bad idx).1.map (fun e => { e with faulty := false }) = idx.map (fun e => { e with faulty := false }) := by
  induction idx with
  | nil => rfl
  | cons e es ih =>
    simp only [examine]
    split
    · simp [ih]
    · split
      · simp [ih]
      · split
        · rfl
        · simp [ih]

/-! ### Body reads (R168 to R171) -/


@[simp] theorem readBody_part (op : StoreOp) (chk : Checks) (e : Entry) : ((readBody op chk e s).state).part = s.part := by
  unfold readBody; split; · rfl
  split <;> simp

@[simp] theorem readBody_address (op : StoreOp) (chk : Checks) (e : Entry) : ((readBody op chk e s).state).address = s.address := by
  unfold readBody; split; · rfl
  split <;> simp

@[simp] theorem readBody_config (op : StoreOp) (chk : Checks) (e : Entry) : ((readBody op chk e s).state).config = s.config := by
  unfold readBody; split; · rfl
  split <;> simp

@[simp] theorem readBody_configSource (op : StoreOp) (chk : Checks) (e : Entry) : ((readBody op chk e s).state).configSource = s.configSource := by
  unfold readBody; split; · rfl
  split <;> simp

@[simp] theorem readBody_pcu (op : StoreOp) (chk : Checks) (e : Entry) : ((readBody op chk e s).state).pcu = s.pcu := by
  unfold readBody; split; · rfl
  split <;> simp

@[simp] theorem readBody_arbiter (op : StoreOp) (chk : Checks) (e : Entry) : ((readBody op chk e s).state).arbiter = s.arbiter := by
  unfold readBody; split; · rfl
  split <;> simp

@[simp] theorem readBody_resolver (op : StoreOp) (chk : Checks) (e : Entry) : ((readBody op chk e s).state).resolver = s.resolver := by
  unfold readBody; split; · rfl
  split <;> simp

@[simp] theorem readBody_pipeline (op : StoreOp) (chk : Checks) (e : Entry) : ((readBody op chk e s).state).pipeline = s.pipeline := by
  unfold readBody; split; · rfl
  split <;> simp

@[simp] theorem readBody_handler (op : StoreOp) (chk : Checks) (e : Entry) : ((readBody op chk e s).state).handler = s.handler := by
  unfold readBody; split; · rfl
  split <;> simp

@[simp] theorem readBody_requester (op : StoreOp) (chk : Checks) (e : Entry) : ((readBody op chk e s).state).requester = s.requester := by
  unfold readBody; split; · rfl
  split <;> simp

@[simp] theorem readBody_responder (op : StoreOp) (chk : Checks) (e : Entry) : ((readBody op chk e s).state).responder = s.responder := by
  unfold readBody; split; · rfl
  split <;> simp

@[simp] theorem readBody_gate (op : StoreOp) (chk : Checks) (e : Entry) : ((readBody op chk e s).state).gate = s.gate := by
  unfold readBody; split; · rfl
  split <;> simp

@[simp] theorem readBody_pending (op : StoreOp) (chk : Checks) (e : Entry) : ((readBody op chk e s).state).pending = s.pending := by
  unfold readBody; split; · rfl
  split <;> simp

/-- The body of a damaged record is not read. -/
theorem readBody_damaged (op : StoreOp) (chk : Checks) (e : Entry) (h : e.damaged = true) :
    readBody op chk e s = ⟨s, BodyView.lost, false⟩ := by
  simp [readBody, h]

/-- A clean read changes nothing. -/
theorem readBody_clean (op : StoreOp) (chk : Checks) (e : Entry) (h : e.damaged = false)
    (hc : bodyOutcome chk e.start = .clean) : readBody op chk e s = ⟨s, ⟨false, e.body⟩, false⟩ := by
  simp [readBody, h, hc]

/-- A correctable body is corrected, counted, captured and raises STORE_CE. -/
theorem readBody_correctable (op : StoreOp) (chk : Checks) (e : Entry) (syn : Byte) (h : e.damaged = false)
    (hc : bodyOutcome chk e.start = .correctable syn) :
    readBody op chk e s =
      ⟨raise .storeCe { s with
          events.corrected := satInc s.events.corrected,
          events.capture := s.events.capture.load ⟨.corrected, op, e.start, syn⟩ },
        ⟨false, e.body⟩, true⟩ := by
  simp [readBody, h, hc]

/-- An uncorrectable body is marked damaged, counted, captured and raises STORE_UE. -/
theorem readBody_uncorrectable (op : StoreOp) (chk : Checks) (e : Entry) (syn : Byte) (h : e.damaged = false)
    (hc : bodyOutcome chk e.start = .uncorrectable syn) :
    readBody op chk e s =
      ⟨raise .storeUe { s with
          store.index := updateEntry e.start (fun e => { e with damaged := true }) s.store.index,
          events.damaged := satInc s.events.damaged,
          events.capture := s.events.capture.load ⟨.uncorrectable, op, e.start, syn⟩ },
        BodyView.lost, true⟩ := by
  simp [readBody, h, hc]

end Sys2Proof.Machine
end

