-- ==== Sys2Proof/Laws/Frames.lean ====
section
/-! SUPPORT. What the parts of a pulse, of a field start and of a step at the store leave unchanged: one lemma per field. -/

namespace Sys2Proof.Machine

variable (s : State)

/-! ### Shared operations -/

@[simp] theorem handShared_cue_receiverOn (m : TxMsg) : ((handShared m s).1).cue.receiverOn = s.cue.receiverOn := by
  unfold handShared; split <;> simp

@[simp] theorem handShared_cue_rx (m : TxMsg) : ((handShared m s).1).cue.rx = s.cue.rx := by
  unfold handShared; split <;> simp

@[simp] theorem handShared_cue_kindFlags (m : TxMsg) : ((handShared m s).1).cue.kindFlags = s.cue.kindFlags := by
  unfold handShared; split <;> simp

@[simp] theorem handShared_cue_capture (m : TxMsg) : ((handShared m s).1).cue.capture = s.cue.capture := by
  unfold handShared; split <;> simp

@[simp] theorem handShared_cue_lineErrors (m : TxMsg) : ((handShared m s).1).cue.lineErrors = s.cue.lineErrors := by
  unfold handShared; split <;> simp

@[simp] theorem handShared_cue_rxDrops (m : TxMsg) : ((handShared m s).1).cue.rxDrops = s.cue.rxDrops := by
  unfold handShared; split <;> simp

@[simp] theorem handShared_cue_inbound (m : TxMsg) : ((handShared m s).1).cue.inbound = s.cue.inbound := by
  unfold handShared; split <;> simp

@[simp] theorem handShared_cue_tx (m : TxMsg) : ((handShared m s).1).cue.tx = s.cue.tx := by
  unfold handShared; split <;> simp

@[simp] theorem handShared_cue_idle (m : TxMsg) : ((handShared m s).1).cue.idle = s.cue.idle := by
  unfold handShared; split <;> simp

@[simp] theorem handShared_cue_yieldMark (m : TxMsg) : ((handShared m s).1).cue.yieldMark = s.cue.yieldMark := by
  unfold handShared; split <;> simp

@[simp] theorem handShared_cue_handover (m : TxMsg) : ((handShared m s).1).cue.handover = s.cue.handover := by
  unfold handShared; split <;> simp

@[simp] theorem handShared_events_enable (m : TxMsg) : ((handShared m s).1).events.enable = s.events.enable := by
  unfold handShared; split <;> simp

@[simp] theorem handShared_events_statusEnable (m : TxMsg) : ((handShared m s).1).events.statusEnable = s.events.statusEnable := by
  unfold handShared; split <;> simp

@[simp] theorem handShared_events_statusCountdown (m : TxMsg) : ((handShared m s).1).events.statusCountdown = s.events.statusCountdown := by
  unfold handShared; split <;> simp

@[simp] theorem handShared_events_corrected (m : TxMsg) : ((handShared m s).1).events.corrected = s.events.corrected := by
  unfold handShared; split <;> simp

@[simp] theorem handShared_events_damaged (m : TxMsg) : ((handShared m s).1).events.damaged = s.events.damaged := by
  unfold handShared; split <;> simp

@[simp] theorem handShared_events_capture (m : TxMsg) : ((handShared m s).1).events.capture = s.events.capture := by
  unfold handShared; split <;> simp

@[simp] theorem sendReply_cue_receiverOn (m : Message) (r : ReplyResult) (b : ReplyBody) : ((sendReply m r b s).1).cue.receiverOn = s.cue.receiverOn := by
  unfold sendReply; split <;> simp

@[simp] theorem sendReply_cue_rx (m : Message) (r : ReplyResult) (b : ReplyBody) : ((sendReply m r b s).1).cue.rx = s.cue.rx := by
  unfold sendReply; split <;> simp

@[simp] theorem sendReply_cue_kindFlags (m : Message) (r : ReplyResult) (b : ReplyBody) : ((sendReply m r b s).1).cue.kindFlags = s.cue.kindFlags := by
  unfold sendReply; split <;> simp

@[simp] theorem sendReply_cue_capture (m : Message) (r : ReplyResult) (b : ReplyBody) : ((sendReply m r b s).1).cue.capture = s.cue.capture := by
  unfold sendReply; split <;> simp

@[simp] theorem sendReply_cue_lineErrors (m : Message) (r : ReplyResult) (b : ReplyBody) : ((sendReply m r b s).1).cue.lineErrors = s.cue.lineErrors := by
  unfold sendReply; split <;> simp

@[simp] theorem sendReply_cue_rxDrops (m : Message) (r : ReplyResult) (b : ReplyBody) : ((sendReply m r b s).1).cue.rxDrops = s.cue.rxDrops := by
  unfold sendReply; split <;> simp

@[simp] theorem sendReply_cue_inbound (m : Message) (r : ReplyResult) (b : ReplyBody) : ((sendReply m r b s).1).cue.inbound = s.cue.inbound := by
  unfold sendReply; split <;> simp

@[simp] theorem sendReply_cue_tx (m : Message) (r : ReplyResult) (b : ReplyBody) : ((sendReply m r b s).1).cue.tx = s.cue.tx := by
  unfold sendReply; split <;> simp

@[simp] theorem sendReply_cue_idle (m : Message) (r : ReplyResult) (b : ReplyBody) : ((sendReply m r b s).1).cue.idle = s.cue.idle := by
  unfold sendReply; split <;> simp

@[simp] theorem sendReply_cue_yieldMark (m : Message) (r : ReplyResult) (b : ReplyBody) : ((sendReply m r b s).1).cue.yieldMark = s.cue.yieldMark := by
  unfold sendReply; split <;> simp

@[simp] theorem sendReply_cue_handover (m : Message) (r : ReplyResult) (b : ReplyBody) : ((sendReply m r b s).1).cue.handover = s.cue.handover := by
  unfold sendReply; split <;> simp

@[simp] theorem sendReply_events_enable (m : Message) (r : ReplyResult) (b : ReplyBody) : ((sendReply m r b s).1).events.enable = s.events.enable := by
  unfold sendReply; split <;> simp

@[simp] theorem sendReply_events_statusEnable (m : Message) (r : ReplyResult) (b : ReplyBody) : ((sendReply m r b s).1).events.statusEnable = s.events.statusEnable := by
  unfold sendReply; split <;> simp

@[simp] theorem sendReply_events_statusCountdown (m : Message) (r : ReplyResult) (b : ReplyBody) : ((sendReply m r b s).1).events.statusCountdown = s.events.statusCountdown := by
  unfold sendReply; split <;> simp

@[simp] theorem sendReply_events_corrected (m : Message) (r : ReplyResult) (b : ReplyBody) : ((sendReply m r b s).1).events.corrected = s.events.corrected := by
  unfold sendReply; split <;> simp

@[simp] theorem sendReply_events_damaged (m : Message) (r : ReplyResult) (b : ReplyBody) : ((sendReply m r b s).1).events.damaged = s.events.damaged := by
  unfold sendReply; split <;> simp

@[simp] theorem sendReply_events_capture (m : Message) (r : ReplyResult) (b : ReplyBody) : ((sendReply m r b s).1).events.capture = s.events.capture := by
  unfold sendReply; split <;> simp

@[simp] theorem startFetch_cue_receiverOn (p : Byte) (a b : Nat) : (startFetch p a b s).cue.receiverOn = s.cue.receiverOn := by
  simp [startFetch]

@[simp] theorem startFetch_cue_rx (p : Byte) (a b : Nat) : (startFetch p a b s).cue.rx = s.cue.rx := by
  simp [startFetch]

@[simp] theorem startFetch_cue_kindFlags (p : Byte) (a b : Nat) : (startFetch p a b s).cue.kindFlags = s.cue.kindFlags := by
  simp [startFetch]

@[simp] theorem startFetch_cue_capture (p : Byte) (a b : Nat) : (startFetch p a b s).cue.capture = s.cue.capture := by
  simp [startFetch]

@[simp] theorem startFetch_cue_lineErrors (p : Byte) (a b : Nat) : (startFetch p a b s).cue.lineErrors = s.cue.lineErrors := by
  simp [startFetch]

@[simp] theorem startFetch_cue_rxDrops (p : Byte) (a b : Nat) : (startFetch p a b s).cue.rxDrops = s.cue.rxDrops := by
  simp [startFetch]

@[simp] theorem startFetch_cue_inbound (p : Byte) (a b : Nat) : (startFetch p a b s).cue.inbound = s.cue.inbound := by
  simp [startFetch]

@[simp] theorem startFetch_cue_tx (p : Byte) (a b : Nat) : (startFetch p a b s).cue.tx = s.cue.tx := by
  simp [startFetch]

@[simp] theorem startFetch_cue_idle (p : Byte) (a b : Nat) : (startFetch p a b s).cue.idle = s.cue.idle := by
  simp [startFetch]

@[simp] theorem startFetch_cue_yieldMark (p : Byte) (a b : Nat) : (startFetch p a b s).cue.yieldMark = s.cue.yieldMark := by
  simp [startFetch]

@[simp] theorem startFetch_cue_handover (p : Byte) (a b : Nat) : (startFetch p a b s).cue.handover = s.cue.handover := by
  simp [startFetch]

@[simp] theorem startFetch_events_enable (p : Byte) (a b : Nat) : (startFetch p a b s).events.enable = s.events.enable := by
  simp [startFetch]

@[simp] theorem startFetch_events_statusEnable (p : Byte) (a b : Nat) : (startFetch p a b s).events.statusEnable = s.events.statusEnable := by
  simp [startFetch]

@[simp] theorem startFetch_events_statusCountdown (p : Byte) (a b : Nat) : (startFetch p a b s).events.statusCountdown = s.events.statusCountdown := by
  simp [startFetch]

@[simp] theorem startFetch_events_corrected (p : Byte) (a b : Nat) : (startFetch p a b s).events.corrected = s.events.corrected := by
  simp [startFetch]

@[simp] theorem startFetch_events_damaged (p : Byte) (a b : Nat) : (startFetch p a b s).events.damaged = s.events.damaged := by
  simp [startFetch]

@[simp] theorem startFetch_events_capture (p : Byte) (a b : Nat) : (startFetch p a b s).events.capture = s.events.capture := by
  simp [startFetch]

@[simp] theorem endFetch_cue_receiverOn (r : FetchResult) : (endFetch r s).cue.receiverOn = s.cue.receiverOn := by
  simp [endFetch]

@[simp] theorem endFetch_cue_rx (r : FetchResult) : (endFetch r s).cue.rx = s.cue.rx := by
  simp [endFetch]

@[simp] theorem endFetch_cue_kindFlags (r : FetchResult) : (endFetch r s).cue.kindFlags = s.cue.kindFlags := by
  simp [endFetch]

@[simp] theorem endFetch_cue_capture (r : FetchResult) : (endFetch r s).cue.capture = s.cue.capture := by
  simp [endFetch]

@[simp] theorem endFetch_cue_lineErrors (r : FetchResult) : (endFetch r s).cue.lineErrors = s.cue.lineErrors := by
  simp [endFetch]

@[simp] theorem endFetch_cue_rxDrops (r : FetchResult) : (endFetch r s).cue.rxDrops = s.cue.rxDrops := by
  simp [endFetch]

@[simp] theorem endFetch_cue_txAbandons (r : FetchResult) : (endFetch r s).cue.txAbandons = s.cue.txAbandons := by
  simp [endFetch]

@[simp] theorem endFetch_cue_inbound (r : FetchResult) : (endFetch r s).cue.inbound = s.cue.inbound := by
  simp [endFetch]

@[simp] theorem endFetch_cue_tx (r : FetchResult) : (endFetch r s).cue.tx = s.cue.tx := by
  simp [endFetch]

@[simp] theorem endFetch_cue_idle (r : FetchResult) : (endFetch r s).cue.idle = s.cue.idle := by
  simp [endFetch]

@[simp] theorem endFetch_cue_yieldMark (r : FetchResult) : (endFetch r s).cue.yieldMark = s.cue.yieldMark := by
  simp [endFetch]

@[simp] theorem endFetch_cue_handover (r : FetchResult) : (endFetch r s).cue.handover = s.cue.handover := by
  simp [endFetch]

@[simp] theorem endFetch_events_enable (r : FetchResult) : (endFetch r s).events.enable = s.events.enable := by
  simp [endFetch]

@[simp] theorem endFetch_events_statusEnable (r : FetchResult) : (endFetch r s).events.statusEnable = s.events.statusEnable := by
  simp [endFetch]

@[simp] theorem endFetch_events_statusCountdown (r : FetchResult) : (endFetch r s).events.statusCountdown = s.events.statusCountdown := by
  simp [endFetch]

@[simp] theorem endFetch_events_corrected (r : FetchResult) : (endFetch r s).events.corrected = s.events.corrected := by
  simp [endFetch]

@[simp] theorem endFetch_events_damaged (r : FetchResult) : (endFetch r s).events.damaged = s.events.damaged := by
  simp [endFetch]

@[simp] theorem endFetch_events_capture (r : FetchResult) : (endFetch r s).events.capture = s.events.capture := by
  simp [endFetch]

@[simp] theorem examineStore_store_freeKnots (stop : Nat → Bool) (chk : Checks) : ((examineStore stop chk s).1).store.freeKnots = s.store.freeKnots := by
  unfold examineStore; dsimp only; split <;> simp

@[simp] theorem examineStore_store_scrubCursor (stop : Nat → Bool) (chk : Checks) : ((examineStore stop chk s).1).store.scrubCursor = s.store.scrubCursor := by
  unfold examineStore; dsimp only; split <;> simp

@[simp] theorem examineStore_cue_receiverOn (stop : Nat → Bool) (chk : Checks) : ((examineStore stop chk s).1).cue.receiverOn = s.cue.receiverOn := by
  unfold examineStore; dsimp only; split <;> simp

@[simp] theorem examineStore_cue_rx (stop : Nat → Bool) (chk : Checks) : ((examineStore stop chk s).1).cue.rx = s.cue.rx := by
  unfold examineStore; dsimp only; split <;> simp

@[simp] theorem examineStore_cue_kindFlags (stop : Nat → Bool) (chk : Checks) : ((examineStore stop chk s).1).cue.kindFlags = s.cue.kindFlags := by
  unfold examineStore; dsimp only; split <;> simp

@[simp] theorem examineStore_cue_capture (stop : Nat → Bool) (chk : Checks) : ((examineStore stop chk s).1).cue.capture = s.cue.capture := by
  unfold examineStore; dsimp only; split <;> simp

@[simp] theorem examineStore_cue_lineErrors (stop : Nat → Bool) (chk : Checks) : ((examineStore stop chk s).1).cue.lineErrors = s.cue.lineErrors := by
  unfold examineStore; dsimp only; split <;> simp

@[simp] theorem examineStore_cue_rxDrops (stop : Nat → Bool) (chk : Checks) : ((examineStore stop chk s).1).cue.rxDrops = s.cue.rxDrops := by
  unfold examineStore; dsimp only; split <;> simp

@[simp] theorem examineStore_cue_txAbandons (stop : Nat → Bool) (chk : Checks) : ((examineStore stop chk s).1).cue.txAbandons = s.cue.txAbandons := by
  unfold examineStore; dsimp only; split <;> simp

@[simp] theorem examineStore_cue_inbound (stop : Nat → Bool) (chk : Checks) : ((examineStore stop chk s).1).cue.inbound = s.cue.inbound := by
  unfold examineStore; dsimp only; split <;> simp

@[simp] theorem examineStore_cue_tx (stop : Nat → Bool) (chk : Checks) : ((examineStore stop chk s).1).cue.tx = s.cue.tx := by
  unfold examineStore; dsimp only; split <;> simp

@[simp] theorem examineStore_cue_idle (stop : Nat → Bool) (chk : Checks) : ((examineStore stop chk s).1).cue.idle = s.cue.idle := by
  unfold examineStore; dsimp only; split <;> simp

@[simp] theorem examineStore_cue_yieldMark (stop : Nat → Bool) (chk : Checks) : ((examineStore stop chk s).1).cue.yieldMark = s.cue.yieldMark := by
  unfold examineStore; dsimp only; split <;> simp

@[simp] theorem examineStore_cue_handover (stop : Nat → Bool) (chk : Checks) : ((examineStore stop chk s).1).cue.handover = s.cue.handover := by
  unfold examineStore; dsimp only; split <;> simp

@[simp] theorem examineStore_events_enable (stop : Nat → Bool) (chk : Checks) : ((examineStore stop chk s).1).events.enable = s.events.enable := by
  unfold examineStore; dsimp only; split <;> simp

@[simp] theorem examineStore_events_statusEnable (stop : Nat → Bool) (chk : Checks) : ((examineStore stop chk s).1).events.statusEnable = s.events.statusEnable := by
  unfold examineStore; dsimp only; split <;> simp

@[simp] theorem examineStore_events_statusCountdown (stop : Nat → Bool) (chk : Checks) : ((examineStore stop chk s).1).events.statusCountdown = s.events.statusCountdown := by
  unfold examineStore; dsimp only; split <;> simp

@[simp] theorem examineStore_events_corrected (stop : Nat → Bool) (chk : Checks) : ((examineStore stop chk s).1).events.corrected = s.events.corrected := by
  unfold examineStore; dsimp only; split <;> simp

@[simp] theorem examineStore_events_damaged (stop : Nat → Bool) (chk : Checks) : ((examineStore stop chk s).1).events.damaged = s.events.damaged := by
  unfold examineStore; dsimp only; split <;> simp

@[simp] theorem examineStore_events_capture (stop : Nat → Bool) (chk : Checks) : ((examineStore stop chk s).1).events.capture = s.events.capture := by
  unfold examineStore; dsimp only; split <;> simp

@[simp] theorem readBody_store_freeKnots (op : StoreOp) (chk : Checks) (e : Entry) : ((readBody op chk e s).state).store.freeKnots = s.store.freeKnots := by
  unfold readBody; split; · rfl
  split <;> simp

@[simp] theorem readBody_store_frozen (op : StoreOp) (chk : Checks) (e : Entry) : ((readBody op chk e s).state).store.frozen = s.store.frozen := by
  unfold readBody; split; · rfl
  split <;> simp

@[simp] theorem readBody_store_scrubCursor (op : StoreOp) (chk : Checks) (e : Entry) : ((readBody op chk e s).state).store.scrubCursor = s.store.scrubCursor := by
  unfold readBody; split; · rfl
  split <;> simp

@[simp] theorem readBody_cue_receiverOn (op : StoreOp) (chk : Checks) (e : Entry) : ((readBody op chk e s).state).cue.receiverOn = s.cue.receiverOn := by
  unfold readBody; split; · rfl
  split <;> simp

@[simp] theorem readBody_cue_rx (op : StoreOp) (chk : Checks) (e : Entry) : ((readBody op chk e s).state).cue.rx = s.cue.rx := by
  unfold readBody; split; · rfl
  split <;> simp

@[simp] theorem readBody_cue_kindFlags (op : StoreOp) (chk : Checks) (e : Entry) : ((readBody op chk e s).state).cue.kindFlags = s.cue.kindFlags := by
  unfold readBody; split; · rfl
  split <;> simp

@[simp] theorem readBody_cue_capture (op : StoreOp) (chk : Checks) (e : Entry) : ((readBody op chk e s).state).cue.capture = s.cue.capture := by
  unfold readBody; split; · rfl
  split <;> simp

@[simp] theorem readBody_cue_lineErrors (op : StoreOp) (chk : Checks) (e : Entry) : ((readBody op chk e s).state).cue.lineErrors = s.cue.lineErrors := by
  unfold readBody; split; · rfl
  split <;> simp

@[simp] theorem readBody_cue_rxDrops (op : StoreOp) (chk : Checks) (e : Entry) : ((readBody op chk e s).state).cue.rxDrops = s.cue.rxDrops := by
  unfold readBody; split; · rfl
  split <;> simp

@[simp] theorem readBody_cue_txAbandons (op : StoreOp) (chk : Checks) (e : Entry) : ((readBody op chk e s).state).cue.txAbandons = s.cue.txAbandons := by
  unfold readBody; split; · rfl
  split <;> simp

@[simp] theorem readBody_cue_inbound (op : StoreOp) (chk : Checks) (e : Entry) : ((readBody op chk e s).state).cue.inbound = s.cue.inbound := by
  unfold readBody; split; · rfl
  split <;> simp

@[simp] theorem readBody_cue_tx (op : StoreOp) (chk : Checks) (e : Entry) : ((readBody op chk e s).state).cue.tx = s.cue.tx := by
  unfold readBody; split; · rfl
  split <;> simp

@[simp] theorem readBody_cue_idle (op : StoreOp) (chk : Checks) (e : Entry) : ((readBody op chk e s).state).cue.idle = s.cue.idle := by
  unfold readBody; split; · rfl
  split <;> simp

@[simp] theorem readBody_cue_yieldMark (op : StoreOp) (chk : Checks) (e : Entry) : ((readBody op chk e s).state).cue.yieldMark = s.cue.yieldMark := by
  unfold readBody; split; · rfl
  split <;> simp

@[simp] theorem readBody_cue_handover (op : StoreOp) (chk : Checks) (e : Entry) : ((readBody op chk e s).state).cue.handover = s.cue.handover := by
  unfold readBody; split; · rfl
  split <;> simp

@[simp] theorem readBody_events_enable (op : StoreOp) (chk : Checks) (e : Entry) : ((readBody op chk e s).state).events.enable = s.events.enable := by
  unfold readBody; split; · rfl
  split <;> simp

@[simp] theorem readBody_events_statusEnable (op : StoreOp) (chk : Checks) (e : Entry) : ((readBody op chk e s).state).events.statusEnable = s.events.statusEnable := by
  unfold readBody; split; · rfl
  split <;> simp

@[simp] theorem readBody_events_statusCountdown (op : StoreOp) (chk : Checks) (e : Entry) : ((readBody op chk e s).state).events.statusCountdown = s.events.statusCountdown := by
  unfold readBody; split; · rfl
  split <;> simp

@[simp] theorem abortPunch_cue_receiverOn : (abortPunch s).cue.receiverOn = s.cue.receiverOn := by
  unfold abortPunch; split <;> simp

@[simp] theorem abortPunch_cue_rx : (abortPunch s).cue.rx = s.cue.rx := by
  unfold abortPunch; split <;> simp

@[simp] theorem abortPunch_cue_kindFlags : (abortPunch s).cue.kindFlags = s.cue.kindFlags := by
  unfold abortPunch; split <;> simp

@[simp] theorem abortPunch_cue_capture : (abortPunch s).cue.capture = s.cue.capture := by
  unfold abortPunch; split <;> simp

@[simp] theorem abortPunch_cue_lineErrors : (abortPunch s).cue.lineErrors = s.cue.lineErrors := by
  unfold abortPunch; split <;> simp

@[simp] theorem abortPunch_cue_rxDrops : (abortPunch s).cue.rxDrops = s.cue.rxDrops := by
  unfold abortPunch; split <;> simp

@[simp] theorem abortPunch_cue_txAbandons : (abortPunch s).cue.txAbandons = s.cue.txAbandons := by
  unfold abortPunch; split <;> simp

@[simp] theorem abortPunch_cue_inbound : (abortPunch s).cue.inbound = s.cue.inbound := by
  unfold abortPunch; split <;> simp

@[simp] theorem abortPunch_cue_tx : (abortPunch s).cue.tx = s.cue.tx := by
  unfold abortPunch; split <;> simp

@[simp] theorem abortPunch_cue_idle : (abortPunch s).cue.idle = s.cue.idle := by
  unfold abortPunch; split <;> simp

@[simp] theorem abortPunch_cue_yieldMark : (abortPunch s).cue.yieldMark = s.cue.yieldMark := by
  unfold abortPunch; split <;> simp

@[simp] theorem abortPunch_cue_handover : (abortPunch s).cue.handover = s.cue.handover := by
  unfold abortPunch; split <;> simp

@[simp] theorem abortPunch_gate_target : (abortPunch s).gate.target = s.gate.target := by
  unfold abortPunch; split <;> simp

@[simp] theorem abortPunch_gate_lastEval : (abortPunch s).gate.lastEval = s.gate.lastEval := by
  unfold abortPunch; split <;> simp

@[simp] theorem abortPunch_gate_tally : (abortPunch s).gate.tally = s.gate.tally := by
  unfold abortPunch; split <;> simp

@[simp] theorem abortPunch_gate_amark : (abortPunch s).gate.amark = s.gate.amark := by
  unfold abortPunch; split <;> simp

@[simp] theorem abortPunch_gate_tallyCountdown : (abortPunch s).gate.tallyCountdown = s.gate.tallyCountdown := by
  unfold abortPunch; split <;> simp

@[simp] theorem abortPunch_events_enable : (abortPunch s).events.enable = s.events.enable := by
  unfold abortPunch; split <;> simp

@[simp] theorem abortPunch_events_statusEnable : (abortPunch s).events.statusEnable = s.events.statusEnable := by
  unfold abortPunch; split <;> simp

@[simp] theorem abortPunch_events_statusCountdown : (abortPunch s).events.statusCountdown = s.events.statusCountdown := by
  unfold abortPunch; split <;> simp

@[simp] theorem abortPunch_events_corrected : (abortPunch s).events.corrected = s.events.corrected := by
  unfold abortPunch; split <;> simp

@[simp] theorem abortPunch_events_damaged : (abortPunch s).events.damaged = s.events.damaged := by
  unfold abortPunch; split <;> simp

@[simp] theorem abortPunch_events_capture : (abortPunch s).events.capture = s.events.capture := by
  unfold abortPunch; split <;> simp

@[simp] theorem grant_arbiter_resolverWaits (c : Client) : (grant c s).arbiter.resolverWaits = s.arbiter.resolverWaits := by
  cases c <;> rfl

@[simp] theorem grant_arbiter_handlerWaits (c : Client) : (grant c s).arbiter.handlerWaits = s.arbiter.handlerWaits := by
  cases c <;> rfl

@[simp] theorem grant_arbiter_responderWaits (c : Client) : (grant c s).arbiter.responderWaits = s.arbiter.responderWaits := by
  cases c <;> rfl

@[simp] theorem grant_resolver_inFlight (c : Client) : (grant c s).resolver.inFlight = s.resolver.inFlight := by
  cases c <;> rfl

@[simp] theorem grant_resolver_rerun (c : Client) : (grant c s).resolver.rerun = s.resolver.rerun := by
  cases c <;> rfl

@[simp] theorem grant_resolver_mode (c : Client) : (grant c s).resolver.mode = s.resolver.mode := by
  cases c <;> rfl

@[simp] theorem grant_resolver_lastScene (c : Client) : (grant c s).resolver.lastScene = s.resolver.lastScene := by
  cases c <;> rfl

@[simp] theorem grant_resolver_slot (c : Client) : (grant c s).resolver.slot = s.resolver.slot := by
  cases c <;> rfl

@[simp] theorem grant_resolver_countdown (c : Client) : (grant c s).resolver.countdown = s.resolver.countdown := by
  cases c <;> rfl

@[simp] theorem grant_resolver_late (c : Client) : (grant c s).resolver.late = s.resolver.late := by
  cases c <;> rfl

@[simp] theorem grant_responder_streaming (c : Client) : (grant c s).responder.streaming = s.responder.streaming := by
  cases c <;> rfl

@[simp] theorem grant_responder_stream (c : Client) : (grant c s).responder.stream = s.responder.stream := by
  cases c <;> rfl

@[simp] theorem grant_responder_unfinished (c : Client) : (grant c s).responder.unfinished = s.responder.unfinished := by
  cases c <;> rfl

@[simp] theorem request_resolver_inFlight (c : Client) : (request c s).resolver.inFlight = s.resolver.inFlight := by
  unfold request; split <;> cases c <;> simp

@[simp] theorem request_resolver_rerun (c : Client) : (request c s).resolver.rerun = s.resolver.rerun := by
  unfold request; split <;> cases c <;> simp

@[simp] theorem request_resolver_mode (c : Client) : (request c s).resolver.mode = s.resolver.mode := by
  unfold request; split <;> cases c <;> simp

@[simp] theorem request_resolver_lastScene (c : Client) : (request c s).resolver.lastScene = s.resolver.lastScene := by
  unfold request; split <;> cases c <;> simp

@[simp] theorem request_resolver_slot (c : Client) : (request c s).resolver.slot = s.resolver.slot := by
  unfold request; split <;> cases c <;> simp

@[simp] theorem request_resolver_countdown (c : Client) : (request c s).resolver.countdown = s.resolver.countdown := by
  unfold request; split <;> cases c <;> simp

@[simp] theorem request_resolver_late (c : Client) : (request c s).resolver.late = s.resolver.late := by
  unfold request; split <;> cases c <;> simp

@[simp] theorem request_responder_streaming (c : Client) : (request c s).responder.streaming = s.responder.streaming := by
  unfold request; split <;> cases c <;> simp

@[simp] theorem request_responder_stream (c : Client) : (request c s).responder.stream = s.responder.stream := by
  unfold request; split <;> cases c <;> simp

@[simp] theorem request_responder_unfinished (c : Client) : (request c s).responder.unfinished = s.responder.unfinished := by
  unfold request; split <;> cases c <;> simp

@[simp] theorem request_resolver_responder : (request .resolver s).responder = s.responder := by
  unfold request; split <;> rfl

@[simp] theorem request_handler_responder : (request .handler s).responder = s.responder := by
  unfold request; split <;> rfl

@[simp] theorem request_handler_resolver : (request .handler s).resolver = s.resolver := by
  unfold request; split <;> rfl

@[simp] theorem request_responder_resolver : (request .responder s).resolver = s.resolver := by
  unfold request; split <;> rfl

@[simp] theorem trigger_responder : (trigger s).responder = s.responder := by
  unfold trigger; (repeat' split) <;> first | rfl | simp

@[simp] theorem triggerIf_responder (b : Bool) : (triggerIf b s).responder = s.responder := by
  unfold triggerIf; split <;> simp

@[simp] theorem pokeResponder_resolver : (pokeResponder s).resolver = s.resolver := by
  unfold pokeResponder; split <;> simp

@[simp] theorem release_resolver_inFlight : (release s).resolver.inFlight = s.resolver.inFlight := by
  unfold release; (repeat' split) <;> rfl

@[simp] theorem release_resolver_rerun : (release s).resolver.rerun = s.resolver.rerun := by
  unfold release; (repeat' split) <;> rfl

@[simp] theorem release_resolver_mode : (release s).resolver.mode = s.resolver.mode := by
  unfold release; (repeat' split) <;> rfl

@[simp] theorem release_resolver_lastScene : (release s).resolver.lastScene = s.resolver.lastScene := by
  unfold release; (repeat' split) <;> rfl

@[simp] theorem release_resolver_slot : (release s).resolver.slot = s.resolver.slot := by
  unfold release; (repeat' split) <;> rfl

@[simp] theorem release_resolver_countdown : (release s).resolver.countdown = s.resolver.countdown := by
  unfold release; (repeat' split) <;> rfl

@[simp] theorem release_resolver_late : (release s).resolver.late = s.resolver.late := by
  unfold release; (repeat' split) <;> rfl

@[simp] theorem release_responder_streaming : (release s).responder.streaming = s.responder.streaming := by
  unfold release; (repeat' split) <;> rfl

@[simp] theorem release_responder_stream : (release s).responder.stream = s.responder.stream := by
  unfold release; (repeat' split) <;> rfl

@[simp] theorem release_responder_unfinished : (release s).responder.unfinished = s.responder.unfinished := by
  unfold release; (repeat' split) <;> rfl

@[simp] theorem trigger_resolver_mode : (trigger s).resolver.mode = s.resolver.mode := by
  unfold trigger; split; · split <;> simp
  · rfl

@[simp] theorem trigger_resolver_lastScene : (trigger s).resolver.lastScene = s.resolver.lastScene := by
  unfold trigger; split; · split <;> simp
  · rfl

@[simp] theorem trigger_resolver_slot : (trigger s).resolver.slot = s.resolver.slot := by
  unfold trigger; split; · split <;> simp
  · rfl

@[simp] theorem trigger_resolver_countdown : (trigger s).resolver.countdown = s.resolver.countdown := by
  unfold trigger; split; · split <;> simp
  · rfl

@[simp] theorem trigger_resolver_late : (trigger s).resolver.late = s.resolver.late := by
  unfold trigger; split; · split <;> simp
  · rfl

@[simp] theorem triggerIf_resolver_mode (b : Bool) : (triggerIf b s).resolver.mode = s.resolver.mode := by
  unfold triggerIf; split <;> simp

@[simp] theorem triggerIf_resolver_lastScene (b : Bool) : (triggerIf b s).resolver.lastScene = s.resolver.lastScene := by
  unfold triggerIf; split <;> simp

@[simp] theorem triggerIf_resolver_slot (b : Bool) : (triggerIf b s).resolver.slot = s.resolver.slot := by
  unfold triggerIf; split <;> simp

@[simp] theorem triggerIf_resolver_countdown (b : Bool) : (triggerIf b s).resolver.countdown = s.resolver.countdown := by
  unfold triggerIf; split <;> simp

@[simp] theorem triggerIf_resolver_late (b : Bool) : (triggerIf b s).resolver.late = s.resolver.late := by
  unfold triggerIf; split <;> simp

@[simp] theorem releaseSignal_resolver_mode (b : Bool) : (releaseSignal b s).resolver.mode = s.resolver.mode := by
  simp [releaseSignal]

@[simp] theorem releaseSignal_resolver_lastScene (b : Bool) : (releaseSignal b s).resolver.lastScene = s.resolver.lastScene := by
  simp [releaseSignal]

@[simp] theorem releaseSignal_resolver_slot (b : Bool) : (releaseSignal b s).resolver.slot = s.resolver.slot := by
  simp [releaseSignal]

@[simp] theorem releaseSignal_resolver_countdown (b : Bool) : (releaseSignal b s).resolver.countdown = s.resolver.countdown := by
  simp [releaseSignal]

@[simp] theorem releaseSignal_resolver_late (b : Bool) : (releaseSignal b s).resolver.late = s.resolver.late := by
  simp [releaseSignal]

@[simp] theorem releaseSignal_responder_streaming (b : Bool) : (releaseSignal b s).responder.streaming = s.responder.streaming := by
  simp [releaseSignal]

@[simp] theorem releaseSignal_responder_stream (b : Bool) : (releaseSignal b s).responder.stream = s.responder.stream := by
  simp [releaseSignal]

@[simp] theorem releaseSignal_responder_unfinished (b : Bool) : (releaseSignal b s).responder.unfinished = s.responder.unfinished := by
  simp [releaseSignal]

@[simp] theorem pokeResponder_responder_streaming : (pokeResponder s).responder.streaming = s.responder.streaming := by
  unfold pokeResponder; split <;> simp

@[simp] theorem pokeResponder_responder_stream : (pokeResponder s).responder.stream = s.responder.stream := by
  unfold pokeResponder; split <;> simp

@[simp] theorem pokeResponder_responder_unfinished : (pokeResponder s).responder.unfinished = s.responder.unfinished := by
  unfold pokeResponder; split <;> simp

/-! ### Film position (R1, R8, R9, R11, R13) -/

@[simp] theorem cadenceCheck_part : (cadenceCheck s).part = s.part := by
  unfold cadenceCheck; dsimp only; (repeat' split) <;> first | rfl | simp

@[simp] theorem cadenceCheck_address : (cadenceCheck s).address = s.address := by
  unfold cadenceCheck; dsimp only; (repeat' split) <;> first | rfl | simp

@[simp] theorem cadenceCheck_config : (cadenceCheck s).config = s.config := by
  unfold cadenceCheck; dsimp only; (repeat' split) <;> first | rfl | simp

@[simp] theorem cadenceCheck_configSource : (cadenceCheck s).configSource = s.configSource := by
  unfold cadenceCheck; dsimp only; (repeat' split) <;> first | rfl | simp

@[simp] theorem cadenceCheck_pcu_gateFrame : (cadenceCheck s).pcu.gateFrame = s.pcu.gateFrame := by
  unfold cadenceCheck; dsimp only; (repeat' split) <;> first | rfl | simp

@[simp] theorem cadenceCheck_pcu_rangeClamp : (cadenceCheck s).pcu.rangeClamp = s.pcu.rangeClamp := by
  unfold cadenceCheck; dsimp only; (repeat' split) <;> first | rfl | simp

@[simp] theorem cadenceCheck_pcu_positionState : (cadenceCheck s).pcu.positionState = s.pcu.positionState := by
  unfold cadenceCheck; dsimp only; (repeat' split) <;> first | rfl | simp

@[simp] theorem cadenceCheck_pcu_pulseSeq : (cadenceCheck s).pcu.pulseSeq = s.pcu.pulseSeq := by
  unfold cadenceCheck; dsimp only; (repeat' split) <;> first | rfl | simp

@[simp] theorem cadenceCheck_pcu_direction : (cadenceCheck s).pcu.direction = s.pcu.direction := by
  unfold cadenceCheck; dsimp only; (repeat' split) <;> first | rfl | simp

@[simp] theorem cadenceCheck_pcu_speedClass : (cadenceCheck s).pcu.speedClass = s.pcu.speedClass := by
  unfold cadenceCheck; dsimp only; (repeat' split) <;> first | rfl | simp

@[simp] theorem cadenceCheck_pcu_held : (cadenceCheck s).pcu.held = s.pcu.held := by
  unfold cadenceCheck; dsimp only; (repeat' split) <;> first | rfl | simp

@[simp] theorem cadenceCheck_pcu_fieldCount : (cadenceCheck s).pcu.fieldCount = s.pcu.fieldCount := by
  unfold cadenceCheck; dsimp only; (repeat' split) <;> first | rfl | simp

@[simp] theorem cadenceCheck_pcu_fieldParity : (cadenceCheck s).pcu.fieldParity = s.pcu.fieldParity := by
  unfold cadenceCheck; dsimp only; (repeat' split) <;> first | rfl | simp

@[simp] theorem cadenceCheck_pcu_fieldsInFrame : (cadenceCheck s).pcu.fieldsInFrame = s.pcu.fieldsInFrame := by
  unfold cadenceCheck; dsimp only; (repeat' split) <;> first | rfl | simp

@[simp] theorem cadenceCheck_pcu_snapshot : (cadenceCheck s).pcu.snapshot = s.pcu.snapshot := by
  unfold cadenceCheck; dsimp only; (repeat' split) <;> first | rfl | simp

@[simp] theorem cadenceCheck_pcu_slips : (cadenceCheck s).pcu.slips = s.pcu.slips := by
  unfold cadenceCheck; dsimp only; (repeat' split) <;> first | rfl | simp

@[simp] theorem cadenceCheck_pcu_refTimerRunning : (cadenceCheck s).pcu.refTimerRunning = s.pcu.refTimerRunning := by
  unfold cadenceCheck; dsimp only; (repeat' split) <;> first | rfl | simp

@[simp] theorem cadenceCheck_pcu_lossInProgress : (cadenceCheck s).pcu.lossInProgress = s.pcu.lossInProgress := by
  unfold cadenceCheck; dsimp only; (repeat' split) <;> first | rfl | simp

@[simp] theorem cadenceCheck_store : (cadenceCheck s).store = s.store := by
  unfold cadenceCheck; dsimp only; (repeat' split) <;> first | rfl | simp

@[simp] theorem cadenceCheck_arbiter : (cadenceCheck s).arbiter = s.arbiter := by
  unfold cadenceCheck; dsimp only; (repeat' split) <;> first | rfl | simp

@[simp] theorem cadenceCheck_resolver : (cadenceCheck s).resolver = s.resolver := by
  unfold cadenceCheck; dsimp only; (repeat' split) <;> first | rfl | simp

@[simp] theorem cadenceCheck_pipeline : (cadenceCheck s).pipeline = s.pipeline := by
  unfold cadenceCheck; dsimp only; (repeat' split) <;> first | rfl | simp

@[simp] theorem cadenceCheck_cue_receiverOn : (cadenceCheck s).cue.receiverOn = s.cue.receiverOn := by
  unfold cadenceCheck; dsimp only; (repeat' split) <;> first | rfl | simp

@[simp] theorem cadenceCheck_cue_rx : (cadenceCheck s).cue.rx = s.cue.rx := by
  unfold cadenceCheck; dsimp only; (repeat' split) <;> first | rfl | simp

@[simp] theorem cadenceCheck_cue_kindFlags : (cadenceCheck s).cue.kindFlags = s.cue.kindFlags := by
  unfold cadenceCheck; dsimp only; (repeat' split) <;> first | rfl | simp

@[simp] theorem cadenceCheck_cue_capture : (cadenceCheck s).cue.capture = s.cue.capture := by
  unfold cadenceCheck; dsimp only; (repeat' split) <;> first | rfl | simp

@[simp] theorem cadenceCheck_cue_lineErrors : (cadenceCheck s).cue.lineErrors = s.cue.lineErrors := by
  unfold cadenceCheck; dsimp only; (repeat' split) <;> first | rfl | simp

@[simp] theorem cadenceCheck_cue_rxDrops : (cadenceCheck s).cue.rxDrops = s.cue.rxDrops := by
  unfold cadenceCheck; dsimp only; (repeat' split) <;> first | rfl | simp

@[simp] theorem cadenceCheck_cue_txAbandons : (cadenceCheck s).cue.txAbandons = s.cue.txAbandons := by
  unfold cadenceCheck; dsimp only; (repeat' split) <;> first | rfl | simp

@[simp] theorem cadenceCheck_cue_inbound : (cadenceCheck s).cue.inbound = s.cue.inbound := by
  unfold cadenceCheck; dsimp only; (repeat' split) <;> first | rfl | simp

@[simp] theorem cadenceCheck_cue_tx : (cadenceCheck s).cue.tx = s.cue.tx := by
  unfold cadenceCheck; dsimp only; (repeat' split) <;> first | rfl | simp

@[simp] theorem cadenceCheck_cue_idle : (cadenceCheck s).cue.idle = s.cue.idle := by
  unfold cadenceCheck; dsimp only; (repeat' split) <;> first | rfl | simp

@[simp] theorem cadenceCheck_cue_yieldMark : (cadenceCheck s).cue.yieldMark = s.cue.yieldMark := by
  unfold cadenceCheck; dsimp only; (repeat' split) <;> first | rfl | simp

@[simp] theorem cadenceCheck_cue_handover : (cadenceCheck s).cue.handover = s.cue.handover := by
  unfold cadenceCheck; dsimp only; (repeat' split) <;> first | rfl | simp

@[simp] theorem cadenceCheck_handler : (cadenceCheck s).handler = s.handler := by
  unfold cadenceCheck; dsimp only; (repeat' split) <;> first | rfl | simp

@[simp] theorem cadenceCheck_requester : (cadenceCheck s).requester = s.requester := by
  unfold cadenceCheck; dsimp only; (repeat' split) <;> first | rfl | simp

@[simp] theorem cadenceCheck_responder : (cadenceCheck s).responder = s.responder := by
  unfold cadenceCheck; dsimp only; (repeat' split) <;> first | rfl | simp

@[simp] theorem cadenceCheck_gate : (cadenceCheck s).gate = s.gate := by
  unfold cadenceCheck; dsimp only; (repeat' split) <;> first | rfl | simp

@[simp] theorem cadenceCheck_events_enable : (cadenceCheck s).events.enable = s.events.enable := by
  unfold cadenceCheck; dsimp only; (repeat' split) <;> first | rfl | simp

@[simp] theorem cadenceCheck_events_statusEnable : (cadenceCheck s).events.statusEnable = s.events.statusEnable := by
  unfold cadenceCheck; dsimp only; (repeat' split) <;> first | rfl | simp

@[simp] theorem cadenceCheck_events_statusCountdown : (cadenceCheck s).events.statusCountdown = s.events.statusCountdown := by
  unfold cadenceCheck; dsimp only; (repeat' split) <;> first | rfl | simp

@[simp] theorem cadenceCheck_events_corrected : (cadenceCheck s).events.corrected = s.events.corrected := by
  unfold cadenceCheck; dsimp only; (repeat' split) <;> first | rfl | simp

@[simp] theorem cadenceCheck_events_damaged : (cadenceCheck s).events.damaged = s.events.damaged := by
  unfold cadenceCheck; dsimp only; (repeat' split) <;> first | rfl | simp

@[simp] theorem cadenceCheck_events_capture : (cadenceCheck s).events.capture = s.events.capture := by
  unfold cadenceCheck; dsimp only; (repeat' split) <;> first | rfl | simp

@[simp] theorem cadenceCheck_pending : (cadenceCheck s).pending = s.pending := by
  unfold cadenceCheck; dsimp only; (repeat' split) <;> first | rfl | simp

@[simp] theorem slip_part : (slip s).part = s.part := by
  simp [slip]

@[simp] theorem slip_address : (slip s).address = s.address := by
  simp [slip]

@[simp] theorem slip_config : (slip s).config = s.config := by
  simp [slip]

@[simp] theorem slip_configSource : (slip s).configSource = s.configSource := by
  simp [slip]

@[simp] theorem slip_pcu_gateFrame : (slip s).pcu.gateFrame = s.pcu.gateFrame := by
  simp [slip]

@[simp] theorem slip_pcu_rangeClamp : (slip s).pcu.rangeClamp = s.pcu.rangeClamp := by
  simp [slip]

@[simp] theorem slip_pcu_pulseSeq : (slip s).pcu.pulseSeq = s.pcu.pulseSeq := by
  simp [slip]

@[simp] theorem slip_pcu_direction : (slip s).pcu.direction = s.pcu.direction := by
  simp [slip]

@[simp] theorem slip_pcu_speedClass : (slip s).pcu.speedClass = s.pcu.speedClass := by
  simp [slip]

@[simp] theorem slip_pcu_held : (slip s).pcu.held = s.pcu.held := by
  simp [slip]

@[simp] theorem slip_pcu_fieldCount : (slip s).pcu.fieldCount = s.pcu.fieldCount := by
  simp [slip]

@[simp] theorem slip_pcu_fieldParity : (slip s).pcu.fieldParity = s.pcu.fieldParity := by
  simp [slip]

@[simp] theorem slip_pcu_fieldsInFrame : (slip s).pcu.fieldsInFrame = s.pcu.fieldsInFrame := by
  simp [slip]

@[simp] theorem slip_pcu_cadenceState : (slip s).pcu.cadenceState = s.pcu.cadenceState := by
  simp [slip]

@[simp] theorem slip_pcu_cadencePhase : (slip s).pcu.cadencePhase = s.pcu.cadencePhase := by
  simp [slip]

@[simp] theorem slip_pcu_snapshot : (slip s).pcu.snapshot = s.pcu.snapshot := by
  simp [slip]

@[simp] theorem slip_pcu_breaks : (slip s).pcu.breaks = s.pcu.breaks := by
  simp [slip]

@[simp] theorem slip_pcu_refTimerRunning : (slip s).pcu.refTimerRunning = s.pcu.refTimerRunning := by
  simp [slip]

@[simp] theorem slip_pcu_lossInProgress : (slip s).pcu.lossInProgress = s.pcu.lossInProgress := by
  simp [slip]

@[simp] theorem slip_store : (slip s).store = s.store := by
  simp [slip]

@[simp] theorem slip_arbiter : (slip s).arbiter = s.arbiter := by
  simp [slip]

@[simp] theorem slip_resolver : (slip s).resolver = s.resolver := by
  simp [slip]

@[simp] theorem slip_pipeline : (slip s).pipeline = s.pipeline := by
  simp [slip]

@[simp] theorem slip_cue_receiverOn : (slip s).cue.receiverOn = s.cue.receiverOn := by
  simp [slip]

@[simp] theorem slip_cue_rx : (slip s).cue.rx = s.cue.rx := by
  simp [slip]

@[simp] theorem slip_cue_kindFlags : (slip s).cue.kindFlags = s.cue.kindFlags := by
  simp [slip]

@[simp] theorem slip_cue_capture : (slip s).cue.capture = s.cue.capture := by
  simp [slip]

@[simp] theorem slip_cue_lineErrors : (slip s).cue.lineErrors = s.cue.lineErrors := by
  simp [slip]

@[simp] theorem slip_cue_rxDrops : (slip s).cue.rxDrops = s.cue.rxDrops := by
  simp [slip]

@[simp] theorem slip_cue_txAbandons : (slip s).cue.txAbandons = s.cue.txAbandons := by
  simp [slip]

@[simp] theorem slip_cue_inbound : (slip s).cue.inbound = s.cue.inbound := by
  simp [slip]

@[simp] theorem slip_cue_tx : (slip s).cue.tx = s.cue.tx := by
  simp [slip]

@[simp] theorem slip_cue_idle : (slip s).cue.idle = s.cue.idle := by
  simp [slip]

@[simp] theorem slip_cue_yieldMark : (slip s).cue.yieldMark = s.cue.yieldMark := by
  simp [slip]

@[simp] theorem slip_cue_handover : (slip s).cue.handover = s.cue.handover := by
  simp [slip]

@[simp] theorem slip_handler : (slip s).handler = s.handler := by
  simp [slip]

@[simp] theorem slip_requester : (slip s).requester = s.requester := by
  simp [slip]

@[simp] theorem slip_responder : (slip s).responder = s.responder := by
  simp [slip]

@[simp] theorem slip_gate : (slip s).gate = s.gate := by
  simp [slip]

@[simp] theorem slip_events_enable : (slip s).events.enable = s.events.enable := by
  simp [slip]

@[simp] theorem slip_events_statusEnable : (slip s).events.statusEnable = s.events.statusEnable := by
  simp [slip]

@[simp] theorem slip_events_statusCountdown : (slip s).events.statusCountdown = s.events.statusCountdown := by
  simp [slip]

@[simp] theorem slip_events_corrected : (slip s).events.corrected = s.events.corrected := by
  simp [slip]

@[simp] theorem slip_events_damaged : (slip s).events.damaged = s.events.damaged := by
  simp [slip]

@[simp] theorem slip_events_capture : (slip s).events.capture = s.events.capture := by
  simp [slip]

@[simp] theorem slip_pending : (slip s).pending = s.pending := by
  simp [slip]

@[simp] theorem followPosition_part (v : SpeedClass) (p : Option (BitVec 2)) : (followPosition v p s).part = s.part := by
  unfold followPosition; dsimp only; split <;> simp

@[simp] theorem followPosition_address (v : SpeedClass) (p : Option (BitVec 2)) : (followPosition v p s).address = s.address := by
  unfold followPosition; dsimp only; split <;> simp

@[simp] theorem followPosition_config (v : SpeedClass) (p : Option (BitVec 2)) : (followPosition v p s).config = s.config := by
  unfold followPosition; dsimp only; split <;> simp

@[simp] theorem followPosition_configSource (v : SpeedClass) (p : Option (BitVec 2)) : (followPosition v p s).configSource = s.configSource := by
  unfold followPosition; dsimp only; split <;> simp

@[simp] theorem followPosition_pcu_gateFrame (v : SpeedClass) (p : Option (BitVec 2)) : (followPosition v p s).pcu.gateFrame = s.pcu.gateFrame := by
  unfold followPosition; dsimp only; split <;> simp

@[simp] theorem followPosition_pcu_rangeClamp (v : SpeedClass) (p : Option (BitVec 2)) : (followPosition v p s).pcu.rangeClamp = s.pcu.rangeClamp := by
  unfold followPosition; dsimp only; split <;> simp

@[simp] theorem followPosition_pcu_positionState (v : SpeedClass) (p : Option (BitVec 2)) : (followPosition v p s).pcu.positionState = s.pcu.positionState := by
  unfold followPosition; dsimp only; split <;> simp

@[simp] theorem followPosition_pcu_pulseSeq (v : SpeedClass) (p : Option (BitVec 2)) : (followPosition v p s).pcu.pulseSeq = s.pcu.pulseSeq := by
  unfold followPosition; dsimp only; split <;> simp

@[simp] theorem followPosition_pcu_direction (v : SpeedClass) (p : Option (BitVec 2)) : (followPosition v p s).pcu.direction = s.pcu.direction := by
  unfold followPosition; dsimp only; split <;> simp

@[simp] theorem followPosition_pcu_held (v : SpeedClass) (p : Option (BitVec 2)) : (followPosition v p s).pcu.held = s.pcu.held := by
  unfold followPosition; dsimp only; split <;> simp

@[simp] theorem followPosition_pcu_fieldCount (v : SpeedClass) (p : Option (BitVec 2)) : (followPosition v p s).pcu.fieldCount = s.pcu.fieldCount := by
  unfold followPosition; dsimp only; split <;> simp

@[simp] theorem followPosition_pcu_fieldParity (v : SpeedClass) (p : Option (BitVec 2)) : (followPosition v p s).pcu.fieldParity = s.pcu.fieldParity := by
  unfold followPosition; dsimp only; split <;> simp

@[simp] theorem followPosition_pcu_fieldsInFrame (v : SpeedClass) (p : Option (BitVec 2)) : (followPosition v p s).pcu.fieldsInFrame = s.pcu.fieldsInFrame := by
  unfold followPosition; dsimp only; split <;> simp

@[simp] theorem followPosition_pcu_snapshot (v : SpeedClass) (p : Option (BitVec 2)) : (followPosition v p s).pcu.snapshot = s.pcu.snapshot := by
  unfold followPosition; dsimp only; split <;> simp

@[simp] theorem followPosition_pcu_slips (v : SpeedClass) (p : Option (BitVec 2)) : (followPosition v p s).pcu.slips = s.pcu.slips := by
  unfold followPosition; dsimp only; split <;> simp

@[simp] theorem followPosition_pcu_breaks (v : SpeedClass) (p : Option (BitVec 2)) : (followPosition v p s).pcu.breaks = s.pcu.breaks := by
  unfold followPosition; dsimp only; split <;> simp

@[simp] theorem followPosition_pcu_refTimerRunning (v : SpeedClass) (p : Option (BitVec 2)) : (followPosition v p s).pcu.refTimerRunning = s.pcu.refTimerRunning := by
  unfold followPosition; dsimp only; split <;> simp

@[simp] theorem followPosition_pcu_lossInProgress (v : SpeedClass) (p : Option (BitVec 2)) : (followPosition v p s).pcu.lossInProgress = s.pcu.lossInProgress := by
  unfold followPosition; dsimp only; split <;> simp

@[simp] theorem followPosition_store (v : SpeedClass) (p : Option (BitVec 2)) : (followPosition v p s).store = s.store := by
  unfold followPosition; dsimp only; split <;> simp

@[simp] theorem followPosition_arbiter (v : SpeedClass) (p : Option (BitVec 2)) : (followPosition v p s).arbiter = s.arbiter := by
  unfold followPosition; dsimp only; split <;> simp

@[simp] theorem followPosition_resolver (v : SpeedClass) (p : Option (BitVec 2)) : (followPosition v p s).resolver = s.resolver := by
  unfold followPosition; dsimp only; split <;> simp

@[simp] theorem followPosition_pipeline (v : SpeedClass) (p : Option (BitVec 2)) : (followPosition v p s).pipeline = s.pipeline := by
  unfold followPosition; dsimp only; split <;> simp

@[simp] theorem followPosition_cue_receiverOn (v : SpeedClass) (p : Option (BitVec 2)) : (followPosition v p s).cue.receiverOn = s.cue.receiverOn := by
  unfold followPosition; dsimp only; split <;> simp

@[simp] theorem followPosition_cue_rx (v : SpeedClass) (p : Option (BitVec 2)) : (followPosition v p s).cue.rx = s.cue.rx := by
  unfold followPosition; dsimp only; split <;> simp

@[simp] theorem followPosition_cue_kindFlags (v : SpeedClass) (p : Option (BitVec 2)) : (followPosition v p s).cue.kindFlags = s.cue.kindFlags := by
  unfold followPosition; dsimp only; split <;> simp

@[simp] theorem followPosition_cue_capture (v : SpeedClass) (p : Option (BitVec 2)) : (followPosition v p s).cue.capture = s.cue.capture := by
  unfold followPosition; dsimp only; split <;> simp

@[simp] theorem followPosition_cue_lineErrors (v : SpeedClass) (p : Option (BitVec 2)) : (followPosition v p s).cue.lineErrors = s.cue.lineErrors := by
  unfold followPosition; dsimp only; split <;> simp

@[simp] theorem followPosition_cue_rxDrops (v : SpeedClass) (p : Option (BitVec 2)) : (followPosition v p s).cue.rxDrops = s.cue.rxDrops := by
  unfold followPosition; dsimp only; split <;> simp

@[simp] theorem followPosition_cue_txAbandons (v : SpeedClass) (p : Option (BitVec 2)) : (followPosition v p s).cue.txAbandons = s.cue.txAbandons := by
  unfold followPosition; dsimp only; split <;> simp

@[simp] theorem followPosition_cue_inbound (v : SpeedClass) (p : Option (BitVec 2)) : (followPosition v p s).cue.inbound = s.cue.inbound := by
  unfold followPosition; dsimp only; split <;> simp

@[simp] theorem followPosition_cue_tx (v : SpeedClass) (p : Option (BitVec 2)) : (followPosition v p s).cue.tx = s.cue.tx := by
  unfold followPosition; dsimp only; split <;> simp

@[simp] theorem followPosition_cue_idle (v : SpeedClass) (p : Option (BitVec 2)) : (followPosition v p s).cue.idle = s.cue.idle := by
  unfold followPosition; dsimp only; split <;> simp

@[simp] theorem followPosition_cue_yieldMark (v : SpeedClass) (p : Option (BitVec 2)) : (followPosition v p s).cue.yieldMark = s.cue.yieldMark := by
  unfold followPosition; dsimp only; split <;> simp

@[simp] theorem followPosition_cue_handover (v : SpeedClass) (p : Option (BitVec 2)) : (followPosition v p s).cue.handover = s.cue.handover := by
  unfold followPosition; dsimp only; split <;> simp

@[simp] theorem followPosition_handler (v : SpeedClass) (p : Option (BitVec 2)) : (followPosition v p s).handler = s.handler := by
  unfold followPosition; dsimp only; split <;> simp

@[simp] theorem followPosition_requester (v : SpeedClass) (p : Option (BitVec 2)) : (followPosition v p s).requester = s.requester := by
  unfold followPosition; dsimp only; split <;> simp

@[simp] theorem followPosition_responder (v : SpeedClass) (p : Option (BitVec 2)) : (followPosition v p s).responder = s.responder := by
  unfold followPosition; dsimp only; split <;> simp

@[simp] theorem followPosition_gate_target (v : SpeedClass) (p : Option (BitVec 2)) : (followPosition v p s).gate.target = s.gate.target := by
  unfold followPosition; dsimp only; split <;> simp

@[simp] theorem followPosition_gate_lastEval (v : SpeedClass) (p : Option (BitVec 2)) : (followPosition v p s).gate.lastEval = s.gate.lastEval := by
  unfold followPosition; dsimp only; split <;> simp

@[simp] theorem followPosition_gate_tally (v : SpeedClass) (p : Option (BitVec 2)) : (followPosition v p s).gate.tally = s.gate.tally := by
  unfold followPosition; dsimp only; split <;> simp

@[simp] theorem followPosition_gate_amark (v : SpeedClass) (p : Option (BitVec 2)) : (followPosition v p s).gate.amark = s.gate.amark := by
  unfold followPosition; dsimp only; split <;> simp

@[simp] theorem followPosition_gate_tallyCountdown (v : SpeedClass) (p : Option (BitVec 2)) : (followPosition v p s).gate.tallyCountdown = s.gate.tallyCountdown := by
  unfold followPosition; dsimp only; split <;> simp

@[simp] theorem followPosition_events_enable (v : SpeedClass) (p : Option (BitVec 2)) : (followPosition v p s).events.enable = s.events.enable := by
  unfold followPosition; dsimp only; split <;> simp

@[simp] theorem followPosition_events_statusEnable (v : SpeedClass) (p : Option (BitVec 2)) : (followPosition v p s).events.statusEnable = s.events.statusEnable := by
  unfold followPosition; dsimp only; split <;> simp

@[simp] theorem followPosition_events_statusCountdown (v : SpeedClass) (p : Option (BitVec 2)) : (followPosition v p s).events.statusCountdown = s.events.statusCountdown := by
  unfold followPosition; dsimp only; split <;> simp

@[simp] theorem followPosition_events_corrected (v : SpeedClass) (p : Option (BitVec 2)) : (followPosition v p s).events.corrected = s.events.corrected := by
  unfold followPosition; dsimp only; split <;> simp

@[simp] theorem followPosition_events_damaged (v : SpeedClass) (p : Option (BitVec 2)) : (followPosition v p s).events.damaged = s.events.damaged := by
  unfold followPosition; dsimp only; split <;> simp

@[simp] theorem followPosition_events_capture (v : SpeedClass) (p : Option (BitVec 2)) : (followPosition v p s).events.capture = s.events.capture := by
  unfold followPosition; dsimp only; split <;> simp

@[simp] theorem followPosition_pending (v : SpeedClass) (p : Option (BitVec 2)) : (followPosition v p s).pending = s.pending := by
  unfold followPosition; dsimp only; split <;> simp

@[simp] theorem applyHeld_part (h : HeldPosition) : (applyHeld h s).part = s.part := by
  unfold applyHeld; dsimp only; split <;> simp

@[simp] theorem applyHeld_address (h : HeldPosition) : (applyHeld h s).address = s.address := by
  unfold applyHeld; dsimp only; split <;> simp

@[simp] theorem applyHeld_config (h : HeldPosition) : (applyHeld h s).config = s.config := by
  unfold applyHeld; dsimp only; split <;> simp

@[simp] theorem applyHeld_configSource (h : HeldPosition) : (applyHeld h s).configSource = s.configSource := by
  unfold applyHeld; dsimp only; split <;> simp

@[simp] theorem applyHeld_pcu_pulseSeq (h : HeldPosition) : (applyHeld h s).pcu.pulseSeq = s.pcu.pulseSeq := by
  unfold applyHeld; dsimp only; split <;> simp

@[simp] theorem applyHeld_pcu_direction (h : HeldPosition) : (applyHeld h s).pcu.direction = s.pcu.direction := by
  unfold applyHeld; dsimp only; split <;> simp

@[simp] theorem applyHeld_pcu_fieldCount (h : HeldPosition) : (applyHeld h s).pcu.fieldCount = s.pcu.fieldCount := by
  unfold applyHeld; dsimp only; split <;> simp

@[simp] theorem applyHeld_pcu_fieldParity (h : HeldPosition) : (applyHeld h s).pcu.fieldParity = s.pcu.fieldParity := by
  unfold applyHeld; dsimp only; split <;> simp

@[simp] theorem applyHeld_pcu_fieldsInFrame (h : HeldPosition) : (applyHeld h s).pcu.fieldsInFrame = s.pcu.fieldsInFrame := by
  unfold applyHeld; dsimp only; split <;> simp

@[simp] theorem applyHeld_pcu_snapshot (h : HeldPosition) : (applyHeld h s).pcu.snapshot = s.pcu.snapshot := by
  unfold applyHeld; dsimp only; split <;> simp

@[simp] theorem applyHeld_pcu_breaks (h : HeldPosition) : (applyHeld h s).pcu.breaks = s.pcu.breaks := by
  unfold applyHeld; dsimp only; split <;> simp

@[simp] theorem applyHeld_pcu_refTimerRunning (h : HeldPosition) : (applyHeld h s).pcu.refTimerRunning = s.pcu.refTimerRunning := by
  unfold applyHeld; dsimp only; split <;> simp

@[simp] theorem applyHeld_pcu_lossInProgress (h : HeldPosition) : (applyHeld h s).pcu.lossInProgress = s.pcu.lossInProgress := by
  unfold applyHeld; dsimp only; split <;> simp

@[simp] theorem applyHeld_store (h : HeldPosition) : (applyHeld h s).store = s.store := by
  unfold applyHeld; dsimp only; split <;> simp

@[simp] theorem applyHeld_arbiter (h : HeldPosition) : (applyHeld h s).arbiter = s.arbiter := by
  unfold applyHeld; dsimp only; split <;> simp

@[simp] theorem applyHeld_resolver (h : HeldPosition) : (applyHeld h s).resolver = s.resolver := by
  unfold applyHeld; dsimp only; split <;> simp

@[simp] theorem applyHeld_pipeline (h : HeldPosition) : (applyHeld h s).pipeline = s.pipeline := by
  unfold applyHeld; dsimp only; split <;> simp

@[simp] theorem applyHeld_cue_receiverOn (h : HeldPosition) : (applyHeld h s).cue.receiverOn = s.cue.receiverOn := by
  unfold applyHeld; dsimp only; split <;> simp

@[simp] theorem applyHeld_cue_rx (h : HeldPosition) : (applyHeld h s).cue.rx = s.cue.rx := by
  unfold applyHeld; dsimp only; split <;> simp

@[simp] theorem applyHeld_cue_kindFlags (h : HeldPosition) : (applyHeld h s).cue.kindFlags = s.cue.kindFlags := by
  unfold applyHeld; dsimp only; split <;> simp

@[simp] theorem applyHeld_cue_capture (h : HeldPosition) : (applyHeld h s).cue.capture = s.cue.capture := by
  unfold applyHeld; dsimp only; split <;> simp

@[simp] theorem applyHeld_cue_lineErrors (h : HeldPosition) : (applyHeld h s).cue.lineErrors = s.cue.lineErrors := by
  unfold applyHeld; dsimp only; split <;> simp

@[simp] theorem applyHeld_cue_rxDrops (h : HeldPosition) : (applyHeld h s).cue.rxDrops = s.cue.rxDrops := by
  unfold applyHeld; dsimp only; split <;> simp

@[simp] theorem applyHeld_cue_txAbandons (h : HeldPosition) : (applyHeld h s).cue.txAbandons = s.cue.txAbandons := by
  unfold applyHeld; dsimp only; split <;> simp

@[simp] theorem applyHeld_cue_inbound (h : HeldPosition) : (applyHeld h s).cue.inbound = s.cue.inbound := by
  unfold applyHeld; dsimp only; split <;> simp

@[simp] theorem applyHeld_cue_tx (h : HeldPosition) : (applyHeld h s).cue.tx = s.cue.tx := by
  unfold applyHeld; dsimp only; split <;> simp

@[simp] theorem applyHeld_cue_idle (h : HeldPosition) : (applyHeld h s).cue.idle = s.cue.idle := by
  unfold applyHeld; dsimp only; split <;> simp

@[simp] theorem applyHeld_cue_yieldMark (h : HeldPosition) : (applyHeld h s).cue.yieldMark = s.cue.yieldMark := by
  unfold applyHeld; dsimp only; split <;> simp

@[simp] theorem applyHeld_cue_handover (h : HeldPosition) : (applyHeld h s).cue.handover = s.cue.handover := by
  unfold applyHeld; dsimp only; split <;> simp

@[simp] theorem applyHeld_handler (h : HeldPosition) : (applyHeld h s).handler = s.handler := by
  unfold applyHeld; dsimp only; split <;> simp

@[simp] theorem applyHeld_requester (h : HeldPosition) : (applyHeld h s).requester = s.requester := by
  unfold applyHeld; dsimp only; split <;> simp

@[simp] theorem applyHeld_responder (h : HeldPosition) : (applyHeld h s).responder = s.responder := by
  unfold applyHeld; dsimp only; split <;> simp

@[simp] theorem applyHeld_gate_target (h : HeldPosition) : (applyHeld h s).gate.target = s.gate.target := by
  unfold applyHeld; dsimp only; split <;> simp

@[simp] theorem applyHeld_gate_lastEval (h : HeldPosition) : (applyHeld h s).gate.lastEval = s.gate.lastEval := by
  unfold applyHeld; dsimp only; split <;> simp

@[simp] theorem applyHeld_gate_tally (h : HeldPosition) : (applyHeld h s).gate.tally = s.gate.tally := by
  unfold applyHeld; dsimp only; split <;> simp

@[simp] theorem applyHeld_gate_amark (h : HeldPosition) : (applyHeld h s).gate.amark = s.gate.amark := by
  unfold applyHeld; dsimp only; split <;> simp

@[simp] theorem applyHeld_gate_tallyCountdown (h : HeldPosition) : (applyHeld h s).gate.tallyCountdown = s.gate.tallyCountdown := by
  unfold applyHeld; dsimp only; split <;> simp

@[simp] theorem applyHeld_events_enable (h : HeldPosition) : (applyHeld h s).events.enable = s.events.enable := by
  unfold applyHeld; dsimp only; split <;> simp

@[simp] theorem applyHeld_events_statusEnable (h : HeldPosition) : (applyHeld h s).events.statusEnable = s.events.statusEnable := by
  unfold applyHeld; dsimp only; split <;> simp

@[simp] theorem applyHeld_events_statusCountdown (h : HeldPosition) : (applyHeld h s).events.statusCountdown = s.events.statusCountdown := by
  unfold applyHeld; dsimp only; split <;> simp

@[simp] theorem applyHeld_events_corrected (h : HeldPosition) : (applyHeld h s).events.corrected = s.events.corrected := by
  unfold applyHeld; dsimp only; split <;> simp

@[simp] theorem applyHeld_events_damaged (h : HeldPosition) : (applyHeld h s).events.damaged = s.events.damaged := by
  unfold applyHeld; dsimp only; split <;> simp

@[simp] theorem applyHeld_events_capture (h : HeldPosition) : (applyHeld h s).events.capture = s.events.capture := by
  unfold applyHeld; dsimp only; split <;> simp

@[simp] theorem applyHeld_pending (h : HeldPosition) : (applyHeld h s).pending = s.pending := by
  unfold applyHeld; dsimp only; split <;> simp

@[simp] theorem moveGate_part : (moveGate s).part = s.part := by
  unfold moveGate; dsimp only; (repeat' split) <;> first | rfl | simp

@[simp] theorem moveGate_address : (moveGate s).address = s.address := by
  unfold moveGate; dsimp only; (repeat' split) <;> first | rfl | simp

@[simp] theorem moveGate_config : (moveGate s).config = s.config := by
  unfold moveGate; dsimp only; (repeat' split) <;> first | rfl | simp

@[simp] theorem moveGate_configSource : (moveGate s).configSource = s.configSource := by
  unfold moveGate; dsimp only; (repeat' split) <;> first | rfl | simp

@[simp] theorem moveGate_pcu_pulseSeq : (moveGate s).pcu.pulseSeq = s.pcu.pulseSeq := by
  unfold moveGate; dsimp only; (repeat' split) <;> first | rfl | simp

@[simp] theorem moveGate_pcu_direction : (moveGate s).pcu.direction = s.pcu.direction := by
  unfold moveGate; dsimp only; (repeat' split) <;> first | rfl | simp

@[simp] theorem moveGate_pcu_fieldCount : (moveGate s).pcu.fieldCount = s.pcu.fieldCount := by
  unfold moveGate; dsimp only; (repeat' split) <;> first | rfl | simp

@[simp] theorem moveGate_pcu_fieldParity : (moveGate s).pcu.fieldParity = s.pcu.fieldParity := by
  unfold moveGate; dsimp only; (repeat' split) <;> first | rfl | simp

@[simp] theorem moveGate_pcu_fieldsInFrame : (moveGate s).pcu.fieldsInFrame = s.pcu.fieldsInFrame := by
  unfold moveGate; dsimp only; (repeat' split) <;> first | rfl | simp

@[simp] theorem moveGate_pcu_snapshot : (moveGate s).pcu.snapshot = s.pcu.snapshot := by
  unfold moveGate; dsimp only; (repeat' split) <;> first | rfl | simp

@[simp] theorem moveGate_pcu_breaks : (moveGate s).pcu.breaks = s.pcu.breaks := by
  unfold moveGate; dsimp only; (repeat' split) <;> first | rfl | simp

@[simp] theorem moveGate_pcu_refTimerRunning : (moveGate s).pcu.refTimerRunning = s.pcu.refTimerRunning := by
  unfold moveGate; dsimp only; (repeat' split) <;> first | rfl | simp

@[simp] theorem moveGate_pcu_lossInProgress : (moveGate s).pcu.lossInProgress = s.pcu.lossInProgress := by
  unfold moveGate; dsimp only; (repeat' split) <;> first | rfl | simp

@[simp] theorem moveGate_store : (moveGate s).store = s.store := by
  unfold moveGate; dsimp only; (repeat' split) <;> first | rfl | simp

@[simp] theorem moveGate_arbiter : (moveGate s).arbiter = s.arbiter := by
  unfold moveGate; dsimp only; (repeat' split) <;> first | rfl | simp

@[simp] theorem moveGate_resolver : (moveGate s).resolver = s.resolver := by
  unfold moveGate; dsimp only; (repeat' split) <;> first | rfl | simp

@[simp] theorem moveGate_pipeline : (moveGate s).pipeline = s.pipeline := by
  unfold moveGate; dsimp only; (repeat' split) <;> first | rfl | simp

@[simp] theorem moveGate_cue_receiverOn : (moveGate s).cue.receiverOn = s.cue.receiverOn := by
  unfold moveGate; dsimp only; (repeat' split) <;> first | rfl | simp

@[simp] theorem moveGate_cue_rx : (moveGate s).cue.rx = s.cue.rx := by
  unfold moveGate; dsimp only; (repeat' split) <;> first | rfl | simp

@[simp] theorem moveGate_cue_kindFlags : (moveGate s).cue.kindFlags = s.cue.kindFlags := by
  unfold moveGate; dsimp only; (repeat' split) <;> first | rfl | simp

@[simp] theorem moveGate_cue_capture : (moveGate s).cue.capture = s.cue.capture := by
  unfold moveGate; dsimp only; (repeat' split) <;> first | rfl | simp

@[simp] theorem moveGate_cue_lineErrors : (moveGate s).cue.lineErrors = s.cue.lineErrors := by
  unfold moveGate; dsimp only; (repeat' split) <;> first | rfl | simp

@[simp] theorem moveGate_cue_rxDrops : (moveGate s).cue.rxDrops = s.cue.rxDrops := by
  unfold moveGate; dsimp only; (repeat' split) <;> first | rfl | simp

@[simp] theorem moveGate_cue_txAbandons : (moveGate s).cue.txAbandons = s.cue.txAbandons := by
  unfold moveGate; dsimp only; (repeat' split) <;> first | rfl | simp

@[simp] theorem moveGate_cue_inbound : (moveGate s).cue.inbound = s.cue.inbound := by
  unfold moveGate; dsimp only; (repeat' split) <;> first | rfl | simp

@[simp] theorem moveGate_cue_tx : (moveGate s).cue.tx = s.cue.tx := by
  unfold moveGate; dsimp only; (repeat' split) <;> first | rfl | simp

@[simp] theorem moveGate_cue_idle : (moveGate s).cue.idle = s.cue.idle := by
  unfold moveGate; dsimp only; (repeat' split) <;> first | rfl | simp

@[simp] theorem moveGate_cue_yieldMark : (moveGate s).cue.yieldMark = s.cue.yieldMark := by
  unfold moveGate; dsimp only; (repeat' split) <;> first | rfl | simp

@[simp] theorem moveGate_cue_handover : (moveGate s).cue.handover = s.cue.handover := by
  unfold moveGate; dsimp only; (repeat' split) <;> first | rfl | simp

@[simp] theorem moveGate_handler : (moveGate s).handler = s.handler := by
  unfold moveGate; dsimp only; (repeat' split) <;> first | rfl | simp

@[simp] theorem moveGate_requester : (moveGate s).requester = s.requester := by
  unfold moveGate; dsimp only; (repeat' split) <;> first | rfl | simp

@[simp] theorem moveGate_responder : (moveGate s).responder = s.responder := by
  unfold moveGate; dsimp only; (repeat' split) <;> first | rfl | simp

@[simp] theorem moveGate_gate_target : (moveGate s).gate.target = s.gate.target := by
  unfold moveGate; dsimp only; (repeat' split) <;> first | rfl | simp

@[simp] theorem moveGate_gate_lastEval : (moveGate s).gate.lastEval = s.gate.lastEval := by
  unfold moveGate; dsimp only; (repeat' split) <;> first | rfl | simp

@[simp] theorem moveGate_gate_tally : (moveGate s).gate.tally = s.gate.tally := by
  unfold moveGate; dsimp only; (repeat' split) <;> first | rfl | simp

@[simp] theorem moveGate_gate_amark : (moveGate s).gate.amark = s.gate.amark := by
  unfold moveGate; dsimp only; (repeat' split) <;> first | rfl | simp

@[simp] theorem moveGate_gate_tallyCountdown : (moveGate s).gate.tallyCountdown = s.gate.tallyCountdown := by
  unfold moveGate; dsimp only; (repeat' split) <;> first | rfl | simp

@[simp] theorem moveGate_events_enable : (moveGate s).events.enable = s.events.enable := by
  unfold moveGate; dsimp only; (repeat' split) <;> first | rfl | simp

@[simp] theorem moveGate_events_statusEnable : (moveGate s).events.statusEnable = s.events.statusEnable := by
  unfold moveGate; dsimp only; (repeat' split) <;> first | rfl | simp

@[simp] theorem moveGate_events_statusCountdown : (moveGate s).events.statusCountdown = s.events.statusCountdown := by
  unfold moveGate; dsimp only; (repeat' split) <;> first | rfl | simp

@[simp] theorem moveGate_events_corrected : (moveGate s).events.corrected = s.events.corrected := by
  unfold moveGate; dsimp only; (repeat' split) <;> first | rfl | simp

@[simp] theorem moveGate_events_damaged : (moveGate s).events.damaged = s.events.damaged := by
  unfold moveGate; dsimp only; (repeat' split) <;> first | rfl | simp

@[simp] theorem moveGate_events_capture : (moveGate s).events.capture = s.events.capture := by
  unfold moveGate; dsimp only; (repeat' split) <;> first | rfl | simp

@[simp] theorem moveGate_pending : (moveGate s).pending = s.pending := by
  unfold moveGate; dsimp only; (repeat' split) <;> first | rfl | simp

/-! ### Field starts (R3, R61 to R65, R81, R85, R86, R156, R164, R165, R175, R178) -/

@[simp] theorem countField_part : (countField s).part = s.part := by
  rfl

@[simp] theorem countField_address : (countField s).address = s.address := by
  rfl

@[simp] theorem countField_config : (countField s).config = s.config := by
  rfl

@[simp] theorem countField_configSource : (countField s).configSource = s.configSource := by
  rfl

@[simp] theorem countField_pcu_gateFrame : (countField s).pcu.gateFrame = s.pcu.gateFrame := by
  rfl

@[simp] theorem countField_pcu_rangeClamp : (countField s).pcu.rangeClamp = s.pcu.rangeClamp := by
  rfl

@[simp] theorem countField_pcu_positionState : (countField s).pcu.positionState = s.pcu.positionState := by
  rfl

@[simp] theorem countField_pcu_pulseSeq : (countField s).pcu.pulseSeq = s.pcu.pulseSeq := by
  rfl

@[simp] theorem countField_pcu_direction : (countField s).pcu.direction = s.pcu.direction := by
  rfl

@[simp] theorem countField_pcu_speedClass : (countField s).pcu.speedClass = s.pcu.speedClass := by
  rfl

@[simp] theorem countField_pcu_held : (countField s).pcu.held = s.pcu.held := by
  rfl

@[simp] theorem countField_pcu_cadenceState : (countField s).pcu.cadenceState = s.pcu.cadenceState := by
  rfl

@[simp] theorem countField_pcu_cadencePhase : (countField s).pcu.cadencePhase = s.pcu.cadencePhase := by
  rfl

@[simp] theorem countField_pcu_slips : (countField s).pcu.slips = s.pcu.slips := by
  rfl

@[simp] theorem countField_pcu_breaks : (countField s).pcu.breaks = s.pcu.breaks := by
  rfl

@[simp] theorem countField_store : (countField s).store = s.store := by
  rfl

@[simp] theorem countField_arbiter : (countField s).arbiter = s.arbiter := by
  rfl

@[simp] theorem countField_resolver : (countField s).resolver = s.resolver := by
  rfl

@[simp] theorem countField_pipeline : (countField s).pipeline = s.pipeline := by
  rfl

@[simp] theorem countField_cue : (countField s).cue = s.cue := by
  rfl

@[simp] theorem countField_handler : (countField s).handler = s.handler := by
  rfl

@[simp] theorem countField_requester : (countField s).requester = s.requester := by
  rfl

@[simp] theorem countField_responder : (countField s).responder = s.responder := by
  rfl

@[simp] theorem countField_gate : (countField s).gate = s.gate := by
  rfl

@[simp] theorem countField_events : (countField s).events = s.events := by
  rfl

@[simp] theorem countField_pending : (countField s).pending = s.pending := by
  rfl

@[simp] theorem swapBank_part : (swapBank s).part = s.part := by
  unfold swapBank; split <;> rfl

@[simp] theorem swapBank_address : (swapBank s).address = s.address := by
  unfold swapBank; split <;> rfl

@[simp] theorem swapBank_config : (swapBank s).config = s.config := by
  unfold swapBank; split <;> rfl

@[simp] theorem swapBank_configSource : (swapBank s).configSource = s.configSource := by
  unfold swapBank; split <;> rfl

@[simp] theorem swapBank_pcu : (swapBank s).pcu = s.pcu := by
  unfold swapBank; split <;> rfl

@[simp] theorem swapBank_store : (swapBank s).store = s.store := by
  unfold swapBank; split <;> rfl

@[simp] theorem swapBank_arbiter : (swapBank s).arbiter = s.arbiter := by
  unfold swapBank; split <;> rfl

@[simp] theorem swapBank_resolver : (swapBank s).resolver = s.resolver := by
  unfold swapBank; split <;> rfl

@[simp] theorem swapBank_pipeline_outputMode : (swapBank s).pipeline.outputMode = s.pipeline.outputMode := by
  unfold swapBank; split <;> rfl

@[simp] theorem swapBank_pipeline_clipInProgress : (swapBank s).pipeline.clipInProgress = s.pipeline.clipInProgress := by
  unfold swapBank; split <;> rfl

@[simp] theorem swapBank_pipeline_clipLast : (swapBank s).pipeline.clipLast = s.pipeline.clipLast := by
  unfold swapBank; split <;> rfl

@[simp] theorem swapBank_pipeline_pixelIndex : (swapBank s).pipeline.pixelIndex = s.pipeline.pixelIndex := by
  unfold swapBank; split <;> rfl

@[simp] theorem swapBank_pipeline_lineOpen : (swapBank s).pipeline.lineOpen = s.pipeline.lineOpen := by
  unfold swapBank; split <;> rfl

@[simp] theorem swapBank_pipeline_port : (swapBank s).pipeline.port = s.pipeline.port := by
  unfold swapBank; split <;> rfl

@[simp] theorem swapBank_cue : (swapBank s).cue = s.cue := by
  unfold swapBank; split <;> rfl

@[simp] theorem swapBank_handler : (swapBank s).handler = s.handler := by
  unfold swapBank; split <;> rfl

@[simp] theorem swapBank_requester : (swapBank s).requester = s.requester := by
  unfold swapBank; split <;> rfl

@[simp] theorem swapBank_responder : (swapBank s).responder = s.responder := by
  unfold swapBank; split <;> rfl

@[simp] theorem swapBank_gate : (swapBank s).gate = s.gate := by
  unfold swapBank; split <;> rfl

@[simp] theorem swapBank_events : (swapBank s).events = s.events := by
  unfold swapBank; split <;> rfl

@[simp] theorem swapBank_pending : (swapBank s).pending = s.pending := by
  unfold swapBank; split <;> rfl

@[simp] theorem checkLate_part : (checkLate s).part = s.part := by
  unfold checkLate; split <;> simp

@[simp] theorem checkLate_address : (checkLate s).address = s.address := by
  unfold checkLate; split <;> simp

@[simp] theorem checkLate_config : (checkLate s).config = s.config := by
  unfold checkLate; split <;> simp

@[simp] theorem checkLate_configSource : (checkLate s).configSource = s.configSource := by
  unfold checkLate; split <;> simp

@[simp] theorem checkLate_pcu : (checkLate s).pcu = s.pcu := by
  unfold checkLate; split <;> simp

@[simp] theorem checkLate_store : (checkLate s).store = s.store := by
  unfold checkLate; split <;> simp

@[simp] theorem checkLate_arbiter : (checkLate s).arbiter = s.arbiter := by
  unfold checkLate; split <;> simp

@[simp] theorem checkLate_resolver_inFlight : (checkLate s).resolver.inFlight = s.resolver.inFlight := by
  unfold checkLate; split <;> simp

@[simp] theorem checkLate_resolver_rerun : (checkLate s).resolver.rerun = s.resolver.rerun := by
  unfold checkLate; split <;> simp

@[simp] theorem checkLate_resolver_mode : (checkLate s).resolver.mode = s.resolver.mode := by
  unfold checkLate; split <;> simp

@[simp] theorem checkLate_resolver_lastScene : (checkLate s).resolver.lastScene = s.resolver.lastScene := by
  unfold checkLate; split <;> simp

@[simp] theorem checkLate_resolver_slot : (checkLate s).resolver.slot = s.resolver.slot := by
  unfold checkLate; split <;> simp

@[simp] theorem checkLate_resolver_countdown : (checkLate s).resolver.countdown = s.resolver.countdown := by
  unfold checkLate; split <;> simp

@[simp] theorem checkLate_resolver_latch : (checkLate s).resolver.latch = s.resolver.latch := by
  unfold checkLate; split <;> simp

@[simp] theorem checkLate_pipeline : (checkLate s).pipeline = s.pipeline := by
  unfold checkLate; split <;> simp

@[simp] theorem checkLate_cue_receiverOn : (checkLate s).cue.receiverOn = s.cue.receiverOn := by
  unfold checkLate; split <;> simp

@[simp] theorem checkLate_cue_rx : (checkLate s).cue.rx = s.cue.rx := by
  unfold checkLate; split <;> simp

@[simp] theorem checkLate_cue_kindFlags : (checkLate s).cue.kindFlags = s.cue.kindFlags := by
  unfold checkLate; split <;> simp

@[simp] theorem checkLate_cue_capture : (checkLate s).cue.capture = s.cue.capture := by
  unfold checkLate; split <;> simp

@[simp] theorem checkLate_cue_lineErrors : (checkLate s).cue.lineErrors = s.cue.lineErrors := by
  unfold checkLate; split <;> simp

@[simp] theorem checkLate_cue_rxDrops : (checkLate s).cue.rxDrops = s.cue.rxDrops := by
  unfold checkLate; split <;> simp

@[simp] theorem checkLate_cue_txAbandons : (checkLate s).cue.txAbandons = s.cue.txAbandons := by
  unfold checkLate; split <;> simp

@[simp] theorem checkLate_cue_inbound : (checkLate s).cue.inbound = s.cue.inbound := by
  unfold checkLate; split <;> simp

@[simp] theorem checkLate_cue_tx : (checkLate s).cue.tx = s.cue.tx := by
  unfold checkLate; split <;> simp

@[simp] theorem checkLate_cue_idle : (checkLate s).cue.idle = s.cue.idle := by
  unfold checkLate; split <;> simp

@[simp] theorem checkLate_cue_yieldMark : (checkLate s).cue.yieldMark = s.cue.yieldMark := by
  unfold checkLate; split <;> simp

@[simp] theorem checkLate_cue_handover : (checkLate s).cue.handover = s.cue.handover := by
  unfold checkLate; split <;> simp

@[simp] theorem checkLate_handler : (checkLate s).handler = s.handler := by
  unfold checkLate; split <;> simp

@[simp] theorem checkLate_requester : (checkLate s).requester = s.requester := by
  unfold checkLate; split <;> simp

@[simp] theorem checkLate_responder : (checkLate s).responder = s.responder := by
  unfold checkLate; split <;> simp

@[simp] theorem checkLate_gate : (checkLate s).gate = s.gate := by
  unfold checkLate; split <;> simp

@[simp] theorem checkLate_events_enable : (checkLate s).events.enable = s.events.enable := by
  unfold checkLate; split <;> simp

@[simp] theorem checkLate_events_statusEnable : (checkLate s).events.statusEnable = s.events.statusEnable := by
  unfold checkLate; split <;> simp

@[simp] theorem checkLate_events_statusCountdown : (checkLate s).events.statusCountdown = s.events.statusCountdown := by
  unfold checkLate; split <;> simp

@[simp] theorem checkLate_events_corrected : (checkLate s).events.corrected = s.events.corrected := by
  unfold checkLate; split <;> simp

@[simp] theorem checkLate_events_damaged : (checkLate s).events.damaged = s.events.damaged := by
  unfold checkLate; split <;> simp

@[simp] theorem checkLate_events_capture : (checkLate s).events.capture = s.events.capture := by
  unfold checkLate; split <;> simp

@[simp] theorem checkLate_pending : (checkLate s).pending = s.pending := by
  unfold checkLate; split <;> simp

@[simp] theorem countHoldback_part : (countHoldback s).part = s.part := by
  unfold countHoldback; (repeat' split) <;> first | rfl | simp

@[simp] theorem countHoldback_address : (countHoldback s).address = s.address := by
  unfold countHoldback; (repeat' split) <;> first | rfl | simp

@[simp] theorem countHoldback_config : (countHoldback s).config = s.config := by
  unfold countHoldback; (repeat' split) <;> first | rfl | simp

@[simp] theorem countHoldback_configSource : (countHoldback s).configSource = s.configSource := by
  unfold countHoldback; (repeat' split) <;> first | rfl | simp

@[simp] theorem countHoldback_pcu : (countHoldback s).pcu = s.pcu := by
  unfold countHoldback; (repeat' split) <;> first | rfl | simp

@[simp] theorem countHoldback_store : (countHoldback s).store = s.store := by
  unfold countHoldback; (repeat' split) <;> first | rfl | simp

@[simp] theorem countHoldback_arbiter : (countHoldback s).arbiter = s.arbiter := by
  unfold countHoldback; (repeat' split) <;> first | rfl | simp

@[simp] theorem countHoldback_resolver_inFlight : (countHoldback s).resolver.inFlight = s.resolver.inFlight := by
  unfold countHoldback; (repeat' split) <;> first | rfl | simp

@[simp] theorem countHoldback_resolver_rerun : (countHoldback s).resolver.rerun = s.resolver.rerun := by
  unfold countHoldback; (repeat' split) <;> first | rfl | simp

@[simp] theorem countHoldback_resolver_mode : (countHoldback s).resolver.mode = s.resolver.mode := by
  unfold countHoldback; (repeat' split) <;> first | rfl | simp

@[simp] theorem countHoldback_resolver_lastScene : (countHoldback s).resolver.lastScene = s.resolver.lastScene := by
  unfold countHoldback; (repeat' split) <;> first | rfl | simp

@[simp] theorem countHoldback_resolver_late : (countHoldback s).resolver.late = s.resolver.late := by
  unfold countHoldback; (repeat' split) <;> first | rfl | simp

@[simp] theorem countHoldback_resolver_latch : (countHoldback s).resolver.latch = s.resolver.latch := by
  unfold countHoldback; (repeat' split) <;> first | rfl | simp

@[simp] theorem countHoldback_pipeline : (countHoldback s).pipeline = s.pipeline := by
  unfold countHoldback; (repeat' split) <;> first | rfl | simp

@[simp] theorem countHoldback_cue_receiverOn : (countHoldback s).cue.receiverOn = s.cue.receiverOn := by
  unfold countHoldback; (repeat' split) <;> first | rfl | simp

@[simp] theorem countHoldback_cue_rx : (countHoldback s).cue.rx = s.cue.rx := by
  unfold countHoldback; (repeat' split) <;> first | rfl | simp

@[simp] theorem countHoldback_cue_kindFlags : (countHoldback s).cue.kindFlags = s.cue.kindFlags := by
  unfold countHoldback; (repeat' split) <;> first | rfl | simp

@[simp] theorem countHoldback_cue_capture : (countHoldback s).cue.capture = s.cue.capture := by
  unfold countHoldback; (repeat' split) <;> first | rfl | simp

@[simp] theorem countHoldback_cue_lineErrors : (countHoldback s).cue.lineErrors = s.cue.lineErrors := by
  unfold countHoldback; (repeat' split) <;> first | rfl | simp

@[simp] theorem countHoldback_cue_rxDrops : (countHoldback s).cue.rxDrops = s.cue.rxDrops := by
  unfold countHoldback; (repeat' split) <;> first | rfl | simp

@[simp] theorem countHoldback_cue_txAbandons : (countHoldback s).cue.txAbandons = s.cue.txAbandons := by
  unfold countHoldback; (repeat' split) <;> first | rfl | simp

@[simp] theorem countHoldback_cue_inbound : (countHoldback s).cue.inbound = s.cue.inbound := by
  unfold countHoldback; (repeat' split) <;> first | rfl | simp

@[simp] theorem countHoldback_cue_tx : (countHoldback s).cue.tx = s.cue.tx := by
  unfold countHoldback; (repeat' split) <;> first | rfl | simp

@[simp] theorem countHoldback_cue_idle : (countHoldback s).cue.idle = s.cue.idle := by
  unfold countHoldback; (repeat' split) <;> first | rfl | simp

@[simp] theorem countHoldback_cue_yieldMark : (countHoldback s).cue.yieldMark = s.cue.yieldMark := by
  unfold countHoldback; (repeat' split) <;> first | rfl | simp

@[simp] theorem countHoldback_cue_handover : (countHoldback s).cue.handover = s.cue.handover := by
  unfold countHoldback; (repeat' split) <;> first | rfl | simp

@[simp] theorem countHoldback_handler : (countHoldback s).handler = s.handler := by
  unfold countHoldback; (repeat' split) <;> first | rfl | simp

@[simp] theorem countHoldback_requester : (countHoldback s).requester = s.requester := by
  unfold countHoldback; (repeat' split) <;> first | rfl | simp

@[simp] theorem countHoldback_responder : (countHoldback s).responder = s.responder := by
  unfold countHoldback; (repeat' split) <;> first | rfl | simp

@[simp] theorem countHoldback_gate : (countHoldback s).gate = s.gate := by
  unfold countHoldback; (repeat' split) <;> first | rfl | simp

@[simp] theorem countHoldback_events : (countHoldback s).events = s.events := by
  unfold countHoldback; (repeat' split) <;> first | rfl | simp

@[simp] theorem countHoldback_pending : (countHoldback s).pending = s.pending := by
  unfold countHoldback; (repeat' split) <;> first | rfl | simp

@[simp] theorem enterScene_part : (enterScene s).part = s.part := by
  unfold enterScene; (repeat' split) <;> first | rfl | simp

@[simp] theorem enterScene_address : (enterScene s).address = s.address := by
  unfold enterScene; (repeat' split) <;> first | rfl | simp

@[simp] theorem enterScene_config : (enterScene s).config = s.config := by
  unfold enterScene; (repeat' split) <;> first | rfl | simp

@[simp] theorem enterScene_configSource : (enterScene s).configSource = s.configSource := by
  unfold enterScene; (repeat' split) <;> first | rfl | simp

@[simp] theorem enterScene_pcu : (enterScene s).pcu = s.pcu := by
  unfold enterScene; (repeat' split) <;> first | rfl | simp

@[simp] theorem enterScene_store : (enterScene s).store = s.store := by
  unfold enterScene; (repeat' split) <;> first | rfl | simp

@[simp] theorem enterScene_arbiter : (enterScene s).arbiter = s.arbiter := by
  unfold enterScene; (repeat' split) <;> first | rfl | simp

@[simp] theorem enterScene_resolver_inFlight : (enterScene s).resolver.inFlight = s.resolver.inFlight := by
  unfold enterScene; (repeat' split) <;> first | rfl | simp

@[simp] theorem enterScene_resolver_rerun : (enterScene s).resolver.rerun = s.resolver.rerun := by
  unfold enterScene; (repeat' split) <;> first | rfl | simp

@[simp] theorem enterScene_resolver_mode : (enterScene s).resolver.mode = s.resolver.mode := by
  unfold enterScene; (repeat' split) <;> first | rfl | simp

@[simp] theorem enterScene_resolver_late : (enterScene s).resolver.late = s.resolver.late := by
  unfold enterScene; (repeat' split) <;> first | rfl | simp

@[simp] theorem enterScene_resolver_latch : (enterScene s).resolver.latch = s.resolver.latch := by
  unfold enterScene; (repeat' split) <;> first | rfl | simp

@[simp] theorem enterScene_pipeline : (enterScene s).pipeline = s.pipeline := by
  unfold enterScene; (repeat' split) <;> first | rfl | simp

@[simp] theorem enterScene_cue_receiverOn : (enterScene s).cue.receiverOn = s.cue.receiverOn := by
  unfold enterScene; (repeat' split) <;> first | rfl | simp

@[simp] theorem enterScene_cue_rx : (enterScene s).cue.rx = s.cue.rx := by
  unfold enterScene; (repeat' split) <;> first | rfl | simp

@[simp] theorem enterScene_cue_kindFlags : (enterScene s).cue.kindFlags = s.cue.kindFlags := by
  unfold enterScene; (repeat' split) <;> first | rfl | simp

@[simp] theorem enterScene_cue_capture : (enterScene s).cue.capture = s.cue.capture := by
  unfold enterScene; (repeat' split) <;> first | rfl | simp

@[simp] theorem enterScene_cue_lineErrors : (enterScene s).cue.lineErrors = s.cue.lineErrors := by
  unfold enterScene; (repeat' split) <;> first | rfl | simp

@[simp] theorem enterScene_cue_rxDrops : (enterScene s).cue.rxDrops = s.cue.rxDrops := by
  unfold enterScene; (repeat' split) <;> first | rfl | simp

@[simp] theorem enterScene_cue_txAbandons : (enterScene s).cue.txAbandons = s.cue.txAbandons := by
  unfold enterScene; (repeat' split) <;> first | rfl | simp

@[simp] theorem enterScene_cue_inbound : (enterScene s).cue.inbound = s.cue.inbound := by
  unfold enterScene; (repeat' split) <;> first | rfl | simp

@[simp] theorem enterScene_cue_tx : (enterScene s).cue.tx = s.cue.tx := by
  unfold enterScene; (repeat' split) <;> first | rfl | simp

@[simp] theorem enterScene_cue_idle : (enterScene s).cue.idle = s.cue.idle := by
  unfold enterScene; (repeat' split) <;> first | rfl | simp

@[simp] theorem enterScene_cue_yieldMark : (enterScene s).cue.yieldMark = s.cue.yieldMark := by
  unfold enterScene; (repeat' split) <;> first | rfl | simp

@[simp] theorem enterScene_cue_handover : (enterScene s).cue.handover = s.cue.handover := by
  unfold enterScene; (repeat' split) <;> first | rfl | simp

@[simp] theorem enterScene_handler : (enterScene s).handler = s.handler := by
  unfold enterScene; (repeat' split) <;> first | rfl | simp

@[simp] theorem enterScene_requester : (enterScene s).requester = s.requester := by
  unfold enterScene; (repeat' split) <;> first | rfl | simp

@[simp] theorem enterScene_responder : (enterScene s).responder = s.responder := by
  unfold enterScene; (repeat' split) <;> first | rfl | simp

@[simp] theorem enterScene_gate : (enterScene s).gate = s.gate := by
  unfold enterScene; (repeat' split) <;> first | rfl | simp

@[simp] theorem enterScene_events : (enterScene s).events = s.events := by
  unfold enterScene; (repeat' split) <;> first | rfl | simp

@[simp] theorem enterScene_pending : (enterScene s).pending = s.pending := by
  unfold enterScene; (repeat' split) <;> first | rfl | simp

@[simp] theorem closeClip_pipeline_active : (closeClip s).pipeline.active = s.pipeline.active := by
  rfl

@[simp] theorem closeClip_pipeline_pendingBank : (closeClip s).pipeline.pendingBank = s.pipeline.pendingBank := by
  rfl

@[simp] theorem closeClip_pipeline_outputMode : (closeClip s).pipeline.outputMode = s.pipeline.outputMode := by
  rfl

@[simp] theorem closeClip_pipeline_pixelIndex : (closeClip s).pipeline.pixelIndex = s.pipeline.pixelIndex := by
  rfl

@[simp] theorem closeClip_pipeline_port : (closeClip s).pipeline.port = s.pipeline.port := by
  rfl

@[simp] theorem updateTally_part (b : Bool) : (updateTally b s).part = s.part := by
  unfold updateTally; (repeat' split) <;> rfl

@[simp] theorem updateTally_address (b : Bool) : (updateTally b s).address = s.address := by
  unfold updateTally; (repeat' split) <;> rfl

@[simp] theorem updateTally_config (b : Bool) : (updateTally b s).config = s.config := by
  unfold updateTally; (repeat' split) <;> rfl

@[simp] theorem updateTally_configSource (b : Bool) : (updateTally b s).configSource = s.configSource := by
  unfold updateTally; (repeat' split) <;> rfl

@[simp] theorem updateTally_pcu (b : Bool) : (updateTally b s).pcu = s.pcu := by
  unfold updateTally; (repeat' split) <;> rfl

@[simp] theorem updateTally_store (b : Bool) : (updateTally b s).store = s.store := by
  unfold updateTally; (repeat' split) <;> rfl

@[simp] theorem updateTally_arbiter (b : Bool) : (updateTally b s).arbiter = s.arbiter := by
  unfold updateTally; (repeat' split) <;> rfl

@[simp] theorem updateTally_resolver (b : Bool) : (updateTally b s).resolver = s.resolver := by
  unfold updateTally; (repeat' split) <;> rfl

@[simp] theorem updateTally_pipeline (b : Bool) : (updateTally b s).pipeline = s.pipeline := by
  unfold updateTally; (repeat' split) <;> rfl

@[simp] theorem updateTally_cue (b : Bool) : (updateTally b s).cue = s.cue := by
  unfold updateTally; (repeat' split) <;> rfl

@[simp] theorem updateTally_handler (b : Bool) : (updateTally b s).handler = s.handler := by
  unfold updateTally; (repeat' split) <;> rfl

@[simp] theorem updateTally_requester (b : Bool) : (updateTally b s).requester = s.requester := by
  unfold updateTally; (repeat' split) <;> rfl

@[simp] theorem updateTally_responder (b : Bool) : (updateTally b s).responder = s.responder := by
  unfold updateTally; (repeat' split) <;> rfl

@[simp] theorem updateTally_gate_punch (b : Bool) : (updateTally b s).gate.punch = s.gate.punch := by
  unfold updateTally; (repeat' split) <;> rfl

@[simp] theorem updateTally_gate_target (b : Bool) : (updateTally b s).gate.target = s.gate.target := by
  unfold updateTally; (repeat' split) <;> rfl

@[simp] theorem updateTally_gate_lastEval (b : Bool) : (updateTally b s).gate.lastEval = s.gate.lastEval := by
  unfold updateTally; (repeat' split) <;> rfl

@[simp] theorem updateTally_gate_gate (b : Bool) : (updateTally b s).gate.gate = s.gate.gate := by
  unfold updateTally; (repeat' split) <;> rfl

@[simp] theorem updateTally_gate_amark (b : Bool) : (updateTally b s).gate.amark = s.gate.amark := by
  unfold updateTally; (repeat' split) <;> rfl

@[simp] theorem updateTally_events (b : Bool) : (updateTally b s).events = s.events := by
  unfold updateTally; (repeat' split) <;> rfl

@[simp] theorem updateTally_pending (b : Bool) : (updateTally b s).pending = s.pending := by
  unfold updateTally; (repeat' split) <;> rfl

@[simp] theorem updateAmark_part : (updateAmark s).part = s.part := by
  unfold updateAmark; split <;> rfl

@[simp] theorem updateAmark_address : (updateAmark s).address = s.address := by
  unfold updateAmark; split <;> rfl

@[simp] theorem updateAmark_config : (updateAmark s).config = s.config := by
  unfold updateAmark; split <;> rfl

@[simp] theorem updateAmark_configSource : (updateAmark s).configSource = s.configSource := by
  unfold updateAmark; split <;> rfl

@[simp] theorem updateAmark_pcu : (updateAmark s).pcu = s.pcu := by
  unfold updateAmark; split <;> rfl

@[simp] theorem updateAmark_store : (updateAmark s).store = s.store := by
  unfold updateAmark; split <;> rfl

@[simp] theorem updateAmark_arbiter : (updateAmark s).arbiter = s.arbiter := by
  unfold updateAmark; split <;> rfl

@[simp] theorem updateAmark_resolver : (updateAmark s).resolver = s.resolver := by
  unfold updateAmark; split <;> rfl

@[simp] theorem updateAmark_pipeline : (updateAmark s).pipeline = s.pipeline := by
  unfold updateAmark; split <;> rfl

@[simp] theorem updateAmark_cue : (updateAmark s).cue = s.cue := by
  unfold updateAmark; split <;> rfl

@[simp] theorem updateAmark_handler : (updateAmark s).handler = s.handler := by
  unfold updateAmark; split <;> rfl

@[simp] theorem updateAmark_requester : (updateAmark s).requester = s.requester := by
  unfold updateAmark; split <;> rfl

@[simp] theorem updateAmark_responder : (updateAmark s).responder = s.responder := by
  unfold updateAmark; split <;> rfl

@[simp] theorem updateAmark_gate_punch : (updateAmark s).gate.punch = s.gate.punch := by
  unfold updateAmark; split <;> rfl

@[simp] theorem updateAmark_gate_target : (updateAmark s).gate.target = s.gate.target := by
  unfold updateAmark; split <;> rfl

@[simp] theorem updateAmark_gate_lastEval : (updateAmark s).gate.lastEval = s.gate.lastEval := by
  unfold updateAmark; split <;> rfl

@[simp] theorem updateAmark_gate_gate : (updateAmark s).gate.gate = s.gate.gate := by
  unfold updateAmark; split <;> rfl

@[simp] theorem updateAmark_gate_tally : (updateAmark s).gate.tally = s.gate.tally := by
  unfold updateAmark; split <;> rfl

@[simp] theorem updateAmark_gate_tallyCountdown : (updateAmark s).gate.tallyCountdown = s.gate.tallyCountdown := by
  unfold updateAmark; split <;> rfl

@[simp] theorem updateAmark_events : (updateAmark s).events = s.events := by
  unfold updateAmark; split <;> rfl

@[simp] theorem updateAmark_pending : (updateAmark s).pending = s.pending := by
  unfold updateAmark; split <;> rfl

@[simp] theorem evalArmed_part (b : Bool) : (evalArmed b s).part = s.part := by
  unfold evalArmed; dsimp only; (repeat' split) <;> first | rfl | simp

@[simp] theorem evalArmed_address (b : Bool) : (evalArmed b s).address = s.address := by
  unfold evalArmed; dsimp only; (repeat' split) <;> first | rfl | simp

@[simp] theorem evalArmed_config (b : Bool) : (evalArmed b s).config = s.config := by
  unfold evalArmed; dsimp only; (repeat' split) <;> first | rfl | simp

@[simp] theorem evalArmed_configSource (b : Bool) : (evalArmed b s).configSource = s.configSource := by
  unfold evalArmed; dsimp only; (repeat' split) <;> first | rfl | simp

@[simp] theorem evalArmed_pcu (b : Bool) : (evalArmed b s).pcu = s.pcu := by
  unfold evalArmed; dsimp only; (repeat' split) <;> first | rfl | simp

@[simp] theorem evalArmed_store (b : Bool) : (evalArmed b s).store = s.store := by
  unfold evalArmed; dsimp only; (repeat' split) <;> first | rfl | simp

@[simp] theorem evalArmed_arbiter (b : Bool) : (evalArmed b s).arbiter = s.arbiter := by
  unfold evalArmed; dsimp only; (repeat' split) <;> first | rfl | simp

@[simp] theorem evalArmed_resolver (b : Bool) : (evalArmed b s).resolver = s.resolver := by
  unfold evalArmed; dsimp only; (repeat' split) <;> first | rfl | simp

@[simp] theorem evalArmed_pipeline (b : Bool) : (evalArmed b s).pipeline = s.pipeline := by
  unfold evalArmed; dsimp only; (repeat' split) <;> first | rfl | simp

@[simp] theorem evalArmed_cue_receiverOn (b : Bool) : (evalArmed b s).cue.receiverOn = s.cue.receiverOn := by
  unfold evalArmed; dsimp only; (repeat' split) <;> first | rfl | simp

@[simp] theorem evalArmed_cue_rx (b : Bool) : (evalArmed b s).cue.rx = s.cue.rx := by
  unfold evalArmed; dsimp only; (repeat' split) <;> first | rfl | simp

@[simp] theorem evalArmed_cue_kindFlags (b : Bool) : (evalArmed b s).cue.kindFlags = s.cue.kindFlags := by
  unfold evalArmed; dsimp only; (repeat' split) <;> first | rfl | simp

@[simp] theorem evalArmed_cue_capture (b : Bool) : (evalArmed b s).cue.capture = s.cue.capture := by
  unfold evalArmed; dsimp only; (repeat' split) <;> first | rfl | simp

@[simp] theorem evalArmed_cue_lineErrors (b : Bool) : (evalArmed b s).cue.lineErrors = s.cue.lineErrors := by
  unfold evalArmed; dsimp only; (repeat' split) <;> first | rfl | simp

@[simp] theorem evalArmed_cue_rxDrops (b : Bool) : (evalArmed b s).cue.rxDrops = s.cue.rxDrops := by
  unfold evalArmed; dsimp only; (repeat' split) <;> first | rfl | simp

@[simp] theorem evalArmed_cue_txAbandons (b : Bool) : (evalArmed b s).cue.txAbandons = s.cue.txAbandons := by
  unfold evalArmed; dsimp only; (repeat' split) <;> first | rfl | simp

@[simp] theorem evalArmed_cue_inbound (b : Bool) : (evalArmed b s).cue.inbound = s.cue.inbound := by
  unfold evalArmed; dsimp only; (repeat' split) <;> first | rfl | simp

@[simp] theorem evalArmed_cue_tx (b : Bool) : (evalArmed b s).cue.tx = s.cue.tx := by
  unfold evalArmed; dsimp only; (repeat' split) <;> first | rfl | simp

@[simp] theorem evalArmed_cue_idle (b : Bool) : (evalArmed b s).cue.idle = s.cue.idle := by
  unfold evalArmed; dsimp only; (repeat' split) <;> first | rfl | simp

@[simp] theorem evalArmed_cue_yieldMark (b : Bool) : (evalArmed b s).cue.yieldMark = s.cue.yieldMark := by
  unfold evalArmed; dsimp only; (repeat' split) <;> first | rfl | simp

@[simp] theorem evalArmed_cue_handover (b : Bool) : (evalArmed b s).cue.handover = s.cue.handover := by
  unfold evalArmed; dsimp only; (repeat' split) <;> first | rfl | simp

@[simp] theorem evalArmed_handler (b : Bool) : (evalArmed b s).handler = s.handler := by
  unfold evalArmed; dsimp only; (repeat' split) <;> first | rfl | simp

@[simp] theorem evalArmed_requester (b : Bool) : (evalArmed b s).requester = s.requester := by
  unfold evalArmed; dsimp only; (repeat' split) <;> first | rfl | simp

@[simp] theorem evalArmed_responder (b : Bool) : (evalArmed b s).responder = s.responder := by
  unfold evalArmed; dsimp only; (repeat' split) <;> first | rfl | simp

@[simp] theorem evalArmed_gate_tally (b : Bool) : (evalArmed b s).gate.tally = s.gate.tally := by
  unfold evalArmed; dsimp only; (repeat' split) <;> first | rfl | simp

@[simp] theorem evalArmed_gate_amark (b : Bool) : (evalArmed b s).gate.amark = s.gate.amark := by
  unfold evalArmed; dsimp only; (repeat' split) <;> first | rfl | simp

@[simp] theorem evalArmed_gate_tallyCountdown (b : Bool) : (evalArmed b s).gate.tallyCountdown = s.gate.tallyCountdown := by
  unfold evalArmed; dsimp only; (repeat' split) <;> first | rfl | simp

@[simp] theorem evalArmed_events_enable (b : Bool) : (evalArmed b s).events.enable = s.events.enable := by
  unfold evalArmed; dsimp only; (repeat' split) <;> first | rfl | simp

@[simp] theorem evalArmed_events_statusEnable (b : Bool) : (evalArmed b s).events.statusEnable = s.events.statusEnable := by
  unfold evalArmed; dsimp only; (repeat' split) <;> first | rfl | simp

@[simp] theorem evalArmed_events_statusCountdown (b : Bool) : (evalArmed b s).events.statusCountdown = s.events.statusCountdown := by
  unfold evalArmed; dsimp only; (repeat' split) <;> first | rfl | simp

@[simp] theorem evalArmed_events_corrected (b : Bool) : (evalArmed b s).events.corrected = s.events.corrected := by
  unfold evalArmed; dsimp only; (repeat' split) <;> first | rfl | simp

@[simp] theorem evalArmed_events_damaged (b : Bool) : (evalArmed b s).events.damaged = s.events.damaged := by
  unfold evalArmed; dsimp only; (repeat' split) <;> first | rfl | simp

@[simp] theorem evalArmed_events_capture (b : Bool) : (evalArmed b s).events.capture = s.events.capture := by
  unfold evalArmed; dsimp only; (repeat' split) <;> first | rfl | simp

@[simp] theorem evalArmed_pending (b : Bool) : (evalArmed b s).pending = s.pending := by
  unfold evalArmed; dsimp only; (repeat' split) <;> first | rfl | simp

@[simp] theorem evalRecording_part (b : Bool) : (evalRecording b s).part = s.part := by
  unfold evalRecording; dsimp only; (repeat' split) <;> first | rfl | simp

@[simp] theorem evalRecording_address (b : Bool) : (evalRecording b s).address = s.address := by
  unfold evalRecording; dsimp only; (repeat' split) <;> first | rfl | simp

@[simp] theorem evalRecording_config (b : Bool) : (evalRecording b s).config = s.config := by
  unfold evalRecording; dsimp only; (repeat' split) <;> first | rfl | simp

@[simp] theorem evalRecording_configSource (b : Bool) : (evalRecording b s).configSource = s.configSource := by
  unfold evalRecording; dsimp only; (repeat' split) <;> first | rfl | simp

@[simp] theorem evalRecording_pcu (b : Bool) : (evalRecording b s).pcu = s.pcu := by
  unfold evalRecording; dsimp only; (repeat' split) <;> first | rfl | simp

@[simp] theorem evalRecording_store (b : Bool) : (evalRecording b s).store = s.store := by
  unfold evalRecording; dsimp only; (repeat' split) <;> first | rfl | simp

@[simp] theorem evalRecording_arbiter (b : Bool) : (evalRecording b s).arbiter = s.arbiter := by
  unfold evalRecording; dsimp only; (repeat' split) <;> first | rfl | simp

@[simp] theorem evalRecording_resolver (b : Bool) : (evalRecording b s).resolver = s.resolver := by
  unfold evalRecording; dsimp only; (repeat' split) <;> first | rfl | simp

@[simp] theorem evalRecording_pipeline (b : Bool) : (evalRecording b s).pipeline = s.pipeline := by
  unfold evalRecording; dsimp only; (repeat' split) <;> first | rfl | simp

@[simp] theorem evalRecording_cue_receiverOn (b : Bool) : (evalRecording b s).cue.receiverOn = s.cue.receiverOn := by
  unfold evalRecording; dsimp only; (repeat' split) <;> first | rfl | simp

@[simp] theorem evalRecording_cue_rx (b : Bool) : (evalRecording b s).cue.rx = s.cue.rx := by
  unfold evalRecording; dsimp only; (repeat' split) <;> first | rfl | simp

@[simp] theorem evalRecording_cue_kindFlags (b : Bool) : (evalRecording b s).cue.kindFlags = s.cue.kindFlags := by
  unfold evalRecording; dsimp only; (repeat' split) <;> first | rfl | simp

@[simp] theorem evalRecording_cue_capture (b : Bool) : (evalRecording b s).cue.capture = s.cue.capture := by
  unfold evalRecording; dsimp only; (repeat' split) <;> first | rfl | simp

@[simp] theorem evalRecording_cue_lineErrors (b : Bool) : (evalRecording b s).cue.lineErrors = s.cue.lineErrors := by
  unfold evalRecording; dsimp only; (repeat' split) <;> first | rfl | simp

@[simp] theorem evalRecording_cue_rxDrops (b : Bool) : (evalRecording b s).cue.rxDrops = s.cue.rxDrops := by
  unfold evalRecording; dsimp only; (repeat' split) <;> first | rfl | simp

@[simp] theorem evalRecording_cue_txAbandons (b : Bool) : (evalRecording b s).cue.txAbandons = s.cue.txAbandons := by
  unfold evalRecording; dsimp only; (repeat' split) <;> first | rfl | simp

@[simp] theorem evalRecording_cue_inbound (b : Bool) : (evalRecording b s).cue.inbound = s.cue.inbound := by
  unfold evalRecording; dsimp only; (repeat' split) <;> first | rfl | simp

@[simp] theorem evalRecording_cue_tx (b : Bool) : (evalRecording b s).cue.tx = s.cue.tx := by
  unfold evalRecording; dsimp only; (repeat' split) <;> first | rfl | simp

@[simp] theorem evalRecording_cue_idle (b : Bool) : (evalRecording b s).cue.idle = s.cue.idle := by
  unfold evalRecording; dsimp only; (repeat' split) <;> first | rfl | simp

@[simp] theorem evalRecording_cue_yieldMark (b : Bool) : (evalRecording b s).cue.yieldMark = s.cue.yieldMark := by
  unfold evalRecording; dsimp only; (repeat' split) <;> first | rfl | simp

@[simp] theorem evalRecording_cue_handover (b : Bool) : (evalRecording b s).cue.handover = s.cue.handover := by
  unfold evalRecording; dsimp only; (repeat' split) <;> first | rfl | simp

@[simp] theorem evalRecording_handler (b : Bool) : (evalRecording b s).handler = s.handler := by
  unfold evalRecording; dsimp only; (repeat' split) <;> first | rfl | simp

@[simp] theorem evalRecording_requester (b : Bool) : (evalRecording b s).requester = s.requester := by
  unfold evalRecording; dsimp only; (repeat' split) <;> first | rfl | simp

@[simp] theorem evalRecording_responder (b : Bool) : (evalRecording b s).responder = s.responder := by
  unfold evalRecording; dsimp only; (repeat' split) <;> first | rfl | simp

@[simp] theorem evalRecording_gate_target (b : Bool) : (evalRecording b s).gate.target = s.gate.target := by
  unfold evalRecording; dsimp only; (repeat' split) <;> first | rfl | simp

@[simp] theorem evalRecording_gate_lastEval (b : Bool) : (evalRecording b s).gate.lastEval = s.gate.lastEval := by
  unfold evalRecording; dsimp only; (repeat' split) <;> first | rfl | simp

@[simp] theorem evalRecording_gate_tally (b : Bool) : (evalRecording b s).gate.tally = s.gate.tally := by
  unfold evalRecording; dsimp only; (repeat' split) <;> first | rfl | simp

@[simp] theorem evalRecording_gate_amark (b : Bool) : (evalRecording b s).gate.amark = s.gate.amark := by
  unfold evalRecording; dsimp only; (repeat' split) <;> first | rfl | simp

@[simp] theorem evalRecording_gate_tallyCountdown (b : Bool) : (evalRecording b s).gate.tallyCountdown = s.gate.tallyCountdown := by
  unfold evalRecording; dsimp only; (repeat' split) <;> first | rfl | simp

@[simp] theorem evalRecording_events_enable (b : Bool) : (evalRecording b s).events.enable = s.events.enable := by
  unfold evalRecording; dsimp only; (repeat' split) <;> first | rfl | simp

@[simp] theorem evalRecording_events_statusEnable (b : Bool) : (evalRecording b s).events.statusEnable = s.events.statusEnable := by
  unfold evalRecording; dsimp only; (repeat' split) <;> first | rfl | simp

@[simp] theorem evalRecording_events_statusCountdown (b : Bool) : (evalRecording b s).events.statusCountdown = s.events.statusCountdown := by
  unfold evalRecording; dsimp only; (repeat' split) <;> first | rfl | simp

@[simp] theorem evalRecording_events_corrected (b : Bool) : (evalRecording b s).events.corrected = s.events.corrected := by
  unfold evalRecording; dsimp only; (repeat' split) <;> first | rfl | simp

@[simp] theorem evalRecording_events_damaged (b : Bool) : (evalRecording b s).events.damaged = s.events.damaged := by
  unfold evalRecording; dsimp only; (repeat' split) <;> first | rfl | simp

@[simp] theorem evalRecording_events_capture (b : Bool) : (evalRecording b s).events.capture = s.events.capture := by
  unfold evalRecording; dsimp only; (repeat' split) <;> first | rfl | simp

@[simp] theorem evalRecording_pending (b : Bool) : (evalRecording b s).pending = s.pending := by
  unfold evalRecording; dsimp only; (repeat' split) <;> first | rfl | simp

@[simp] theorem evalPunch_part (b : Bool) : (evalPunch b s).part = s.part := by
  unfold evalPunch; split <;> simp

@[simp] theorem evalPunch_address (b : Bool) : (evalPunch b s).address = s.address := by
  unfold evalPunch; split <;> simp

@[simp] theorem evalPunch_config (b : Bool) : (evalPunch b s).config = s.config := by
  unfold evalPunch; split <;> simp

@[simp] theorem evalPunch_configSource (b : Bool) : (evalPunch b s).configSource = s.configSource := by
  unfold evalPunch; split <;> simp

@[simp] theorem evalPunch_pcu (b : Bool) : (evalPunch b s).pcu = s.pcu := by
  unfold evalPunch; split <;> simp

@[simp] theorem evalPunch_store (b : Bool) : (evalPunch b s).store = s.store := by
  unfold evalPunch; split <;> simp

@[simp] theorem evalPunch_arbiter (b : Bool) : (evalPunch b s).arbiter = s.arbiter := by
  unfold evalPunch; split <;> simp

@[simp] theorem evalPunch_resolver (b : Bool) : (evalPunch b s).resolver = s.resolver := by
  unfold evalPunch; split <;> simp

@[simp] theorem evalPunch_pipeline (b : Bool) : (evalPunch b s).pipeline = s.pipeline := by
  unfold evalPunch; split <;> simp

@[simp] theorem evalPunch_cue_receiverOn (b : Bool) : (evalPunch b s).cue.receiverOn = s.cue.receiverOn := by
  unfold evalPunch; split <;> simp

@[simp] theorem evalPunch_cue_rx (b : Bool) : (evalPunch b s).cue.rx = s.cue.rx := by
  unfold evalPunch; split <;> simp

@[simp] theorem evalPunch_cue_kindFlags (b : Bool) : (evalPunch b s).cue.kindFlags = s.cue.kindFlags := by
  unfold evalPunch; split <;> simp

@[simp] theorem evalPunch_cue_capture (b : Bool) : (evalPunch b s).cue.capture = s.cue.capture := by
  unfold evalPunch; split <;> simp

@[simp] theorem evalPunch_cue_lineErrors (b : Bool) : (evalPunch b s).cue.lineErrors = s.cue.lineErrors := by
  unfold evalPunch; split <;> simp

@[simp] theorem evalPunch_cue_rxDrops (b : Bool) : (evalPunch b s).cue.rxDrops = s.cue.rxDrops := by
  unfold evalPunch; split <;> simp

@[simp] theorem evalPunch_cue_txAbandons (b : Bool) : (evalPunch b s).cue.txAbandons = s.cue.txAbandons := by
  unfold evalPunch; split <;> simp

@[simp] theorem evalPunch_cue_inbound (b : Bool) : (evalPunch b s).cue.inbound = s.cue.inbound := by
  unfold evalPunch; split <;> simp

@[simp] theorem evalPunch_cue_tx (b : Bool) : (evalPunch b s).cue.tx = s.cue.tx := by
  unfold evalPunch; split <;> simp

@[simp] theorem evalPunch_cue_idle (b : Bool) : (evalPunch b s).cue.idle = s.cue.idle := by
  unfold evalPunch; split <;> simp

@[simp] theorem evalPunch_cue_yieldMark (b : Bool) : (evalPunch b s).cue.yieldMark = s.cue.yieldMark := by
  unfold evalPunch; split <;> simp

@[simp] theorem evalPunch_cue_handover (b : Bool) : (evalPunch b s).cue.handover = s.cue.handover := by
  unfold evalPunch; split <;> simp

@[simp] theorem evalPunch_handler (b : Bool) : (evalPunch b s).handler = s.handler := by
  unfold evalPunch; split <;> simp

@[simp] theorem evalPunch_requester (b : Bool) : (evalPunch b s).requester = s.requester := by
  unfold evalPunch; split <;> simp

@[simp] theorem evalPunch_responder (b : Bool) : (evalPunch b s).responder = s.responder := by
  unfold evalPunch; split <;> simp

@[simp] theorem evalPunch_gate_tally (b : Bool) : (evalPunch b s).gate.tally = s.gate.tally := by
  unfold evalPunch; split <;> simp

@[simp] theorem evalPunch_gate_amark (b : Bool) : (evalPunch b s).gate.amark = s.gate.amark := by
  unfold evalPunch; split <;> simp

@[simp] theorem evalPunch_gate_tallyCountdown (b : Bool) : (evalPunch b s).gate.tallyCountdown = s.gate.tallyCountdown := by
  unfold evalPunch; split <;> simp

@[simp] theorem evalPunch_events_enable (b : Bool) : (evalPunch b s).events.enable = s.events.enable := by
  unfold evalPunch; split <;> simp

@[simp] theorem evalPunch_events_statusEnable (b : Bool) : (evalPunch b s).events.statusEnable = s.events.statusEnable := by
  unfold evalPunch; split <;> simp

@[simp] theorem evalPunch_events_statusCountdown (b : Bool) : (evalPunch b s).events.statusCountdown = s.events.statusCountdown := by
  unfold evalPunch; split <;> simp

@[simp] theorem evalPunch_events_corrected (b : Bool) : (evalPunch b s).events.corrected = s.events.corrected := by
  unfold evalPunch; split <;> simp

@[simp] theorem evalPunch_events_damaged (b : Bool) : (evalPunch b s).events.damaged = s.events.damaged := by
  unfold evalPunch; split <;> simp

@[simp] theorem evalPunch_events_capture (b : Bool) : (evalPunch b s).events.capture = s.events.capture := by
  unfold evalPunch; split <;> simp

@[simp] theorem evalPunch_pending (b : Bool) : (evalPunch b s).pending = s.pending := by
  unfold evalPunch; split <;> simp

@[simp] theorem startGrading_part : (startGrading s).part = s.part := by
  unfold startGrading; split <;> rfl

@[simp] theorem startGrading_address : (startGrading s).address = s.address := by
  unfold startGrading; split <;> rfl

@[simp] theorem startGrading_config : (startGrading s).config = s.config := by
  unfold startGrading; split <;> rfl

@[simp] theorem startGrading_configSource : (startGrading s).configSource = s.configSource := by
  unfold startGrading; split <;> rfl

@[simp] theorem startGrading_pcu : (startGrading s).pcu = s.pcu := by
  unfold startGrading; split <;> rfl

@[simp] theorem startGrading_store : (startGrading s).store = s.store := by
  unfold startGrading; split <;> rfl

@[simp] theorem startGrading_arbiter : (startGrading s).arbiter = s.arbiter := by
  unfold startGrading; split <;> rfl

@[simp] theorem startGrading_resolver : (startGrading s).resolver = s.resolver := by
  unfold startGrading; split <;> rfl

@[simp] theorem startGrading_pipeline_active : (startGrading s).pipeline.active = s.pipeline.active := by
  unfold startGrading; split <;> rfl

@[simp] theorem startGrading_pipeline_pendingBank : (startGrading s).pipeline.pendingBank = s.pipeline.pendingBank := by
  unfold startGrading; split <;> rfl

@[simp] theorem startGrading_pipeline_clipInProgress : (startGrading s).pipeline.clipInProgress = s.pipeline.clipInProgress := by
  unfold startGrading; split <;> rfl

@[simp] theorem startGrading_pipeline_clipLast : (startGrading s).pipeline.clipLast = s.pipeline.clipLast := by
  unfold startGrading; split <;> rfl

@[simp] theorem startGrading_pipeline_pixelIndex : (startGrading s).pipeline.pixelIndex = s.pipeline.pixelIndex := by
  unfold startGrading; split <;> rfl

@[simp] theorem startGrading_pipeline_lineOpen : (startGrading s).pipeline.lineOpen = s.pipeline.lineOpen := by
  unfold startGrading; split <;> rfl

@[simp] theorem startGrading_pipeline_port : (startGrading s).pipeline.port = s.pipeline.port := by
  unfold startGrading; split <;> rfl

@[simp] theorem startGrading_cue : (startGrading s).cue = s.cue := by
  unfold startGrading; split <;> rfl

@[simp] theorem startGrading_handler : (startGrading s).handler = s.handler := by
  unfold startGrading; split <;> rfl

@[simp] theorem startGrading_requester : (startGrading s).requester = s.requester := by
  unfold startGrading; split <;> rfl

@[simp] theorem startGrading_responder : (startGrading s).responder = s.responder := by
  unfold startGrading; split <;> rfl

@[simp] theorem startGrading_gate : (startGrading s).gate = s.gate := by
  unfold startGrading; split <;> rfl

@[simp] theorem startGrading_events : (startGrading s).events = s.events := by
  unfold startGrading; split <;> rfl

@[simp] theorem startGrading_pending : (startGrading s).pending = s.pending := by
  unfold startGrading; split <;> rfl

@[simp] theorem emitHeader_pipeline_active (h : HeaderRecord) : (emitHeader h s).pipeline.active = s.pipeline.active := by
  rfl

@[simp] theorem emitHeader_pipeline_pendingBank (h : HeaderRecord) : (emitHeader h s).pipeline.pendingBank = s.pipeline.pendingBank := by
  rfl

@[simp] theorem emitHeader_pipeline_outputMode (h : HeaderRecord) : (emitHeader h s).pipeline.outputMode = s.pipeline.outputMode := by
  rfl

@[simp] theorem emitHeader_pipeline_clipInProgress (h : HeaderRecord) : (emitHeader h s).pipeline.clipInProgress = s.pipeline.clipInProgress := by
  rfl

@[simp] theorem emitHeader_pipeline_clipLast (h : HeaderRecord) : (emitHeader h s).pipeline.clipLast = s.pipeline.clipLast := by
  rfl

@[simp] theorem emitHeader_pipeline_pixelIndex (h : HeaderRecord) : (emitHeader h s).pipeline.pixelIndex = s.pipeline.pixelIndex := by
  rfl

@[simp] theorem emitHeader_pipeline_lineOpen (h : HeaderRecord) : (emitHeader h s).pipeline.lineOpen = s.pipeline.lineOpen := by
  rfl

@[simp] theorem sendStatus_part : (sendStatus s).part = s.part := by
  simp [sendStatus]

@[simp] theorem sendStatus_address : (sendStatus s).address = s.address := by
  simp [sendStatus]

@[simp] theorem sendStatus_config : (sendStatus s).config = s.config := by
  simp [sendStatus]

@[simp] theorem sendStatus_configSource : (sendStatus s).configSource = s.configSource := by
  simp [sendStatus]

@[simp] theorem sendStatus_pcu : (sendStatus s).pcu = s.pcu := by
  simp [sendStatus]

@[simp] theorem sendStatus_store : (sendStatus s).store = s.store := by
  simp [sendStatus]

@[simp] theorem sendStatus_arbiter : (sendStatus s).arbiter = s.arbiter := by
  simp [sendStatus]

@[simp] theorem sendStatus_resolver : (sendStatus s).resolver = s.resolver := by
  simp [sendStatus]

@[simp] theorem sendStatus_pipeline : (sendStatus s).pipeline = s.pipeline := by
  simp [sendStatus]

@[simp] theorem sendStatus_cue_receiverOn : (sendStatus s).cue.receiverOn = s.cue.receiverOn := by
  simp [sendStatus]

@[simp] theorem sendStatus_cue_rx : (sendStatus s).cue.rx = s.cue.rx := by
  simp [sendStatus]

@[simp] theorem sendStatus_cue_kindFlags : (sendStatus s).cue.kindFlags = s.cue.kindFlags := by
  simp [sendStatus]

@[simp] theorem sendStatus_cue_capture : (sendStatus s).cue.capture = s.cue.capture := by
  simp [sendStatus]

@[simp] theorem sendStatus_cue_lineErrors : (sendStatus s).cue.lineErrors = s.cue.lineErrors := by
  simp [sendStatus]

@[simp] theorem sendStatus_cue_rxDrops : (sendStatus s).cue.rxDrops = s.cue.rxDrops := by
  simp [sendStatus]

@[simp] theorem sendStatus_cue_txAbandons : (sendStatus s).cue.txAbandons = s.cue.txAbandons := by
  simp [sendStatus]

@[simp] theorem sendStatus_cue_inbound : (sendStatus s).cue.inbound = s.cue.inbound := by
  simp [sendStatus]

@[simp] theorem sendStatus_cue_tx : (sendStatus s).cue.tx = s.cue.tx := by
  simp [sendStatus]

@[simp] theorem sendStatus_cue_idle : (sendStatus s).cue.idle = s.cue.idle := by
  simp [sendStatus]

@[simp] theorem sendStatus_cue_yieldMark : (sendStatus s).cue.yieldMark = s.cue.yieldMark := by
  simp [sendStatus]

@[simp] theorem sendStatus_cue_handover : (sendStatus s).cue.handover = s.cue.handover := by
  simp [sendStatus]

@[simp] theorem sendStatus_handler : (sendStatus s).handler = s.handler := by
  simp [sendStatus]

@[simp] theorem sendStatus_requester : (sendStatus s).requester = s.requester := by
  simp [sendStatus]

@[simp] theorem sendStatus_responder : (sendStatus s).responder = s.responder := by
  simp [sendStatus]

@[simp] theorem sendStatus_gate : (sendStatus s).gate = s.gate := by
  simp [sendStatus]

@[simp] theorem sendStatus_events_flags : (sendStatus s).events.flags = s.events.flags := by
  simp [sendStatus]

@[simp] theorem sendStatus_events_enable : (sendStatus s).events.enable = s.events.enable := by
  simp [sendStatus]

@[simp] theorem sendStatus_events_statusEnable : (sendStatus s).events.statusEnable = s.events.statusEnable := by
  simp [sendStatus]

@[simp] theorem sendStatus_events_corrected : (sendStatus s).events.corrected = s.events.corrected := by
  simp [sendStatus]

@[simp] theorem sendStatus_events_damaged : (sendStatus s).events.damaged = s.events.damaged := by
  simp [sendStatus]

@[simp] theorem sendStatus_events_capture : (sendStatus s).events.capture = s.events.capture := by
  simp [sendStatus]

@[simp] theorem sendStatus_pending : (sendStatus s).pending = s.pending := by
  simp [sendStatus]

@[simp] theorem countStatus_part : (countStatus s).part = s.part := by
  unfold countStatus; (repeat' split) <;> first | rfl | simp

@[simp] theorem countStatus_address : (countStatus s).address = s.address := by
  unfold countStatus; (repeat' split) <;> first | rfl | simp

@[simp] theorem countStatus_config : (countStatus s).config = s.config := by
  unfold countStatus; (repeat' split) <;> first | rfl | simp

@[simp] theorem countStatus_configSource : (countStatus s).configSource = s.configSource := by
  unfold countStatus; (repeat' split) <;> first | rfl | simp

@[simp] theorem countStatus_pcu : (countStatus s).pcu = s.pcu := by
  unfold countStatus; (repeat' split) <;> first | rfl | simp

@[simp] theorem countStatus_store : (countStatus s).store = s.store := by
  unfold countStatus; (repeat' split) <;> first | rfl | simp

@[simp] theorem countStatus_arbiter : (countStatus s).arbiter = s.arbiter := by
  unfold countStatus; (repeat' split) <;> first | rfl | simp

@[simp] theorem countStatus_resolver : (countStatus s).resolver = s.resolver := by
  unfold countStatus; (repeat' split) <;> first | rfl | simp

@[simp] theorem countStatus_pipeline : (countStatus s).pipeline = s.pipeline := by
  unfold countStatus; (repeat' split) <;> first | rfl | simp

@[simp] theorem countStatus_cue_receiverOn : (countStatus s).cue.receiverOn = s.cue.receiverOn := by
  unfold countStatus; (repeat' split) <;> first | rfl | simp

@[simp] theorem countStatus_cue_rx : (countStatus s).cue.rx = s.cue.rx := by
  unfold countStatus; (repeat' split) <;> first | rfl | simp

@[simp] theorem countStatus_cue_kindFlags : (countStatus s).cue.kindFlags = s.cue.kindFlags := by
  unfold countStatus; (repeat' split) <;> first | rfl | simp

@[simp] theorem countStatus_cue_capture : (countStatus s).cue.capture = s.cue.capture := by
  unfold countStatus; (repeat' split) <;> first | rfl | simp

@[simp] theorem countStatus_cue_lineErrors : (countStatus s).cue.lineErrors = s.cue.lineErrors := by
  unfold countStatus; (repeat' split) <;> first | rfl | simp

@[simp] theorem countStatus_cue_rxDrops : (countStatus s).cue.rxDrops = s.cue.rxDrops := by
  unfold countStatus; (repeat' split) <;> first | rfl | simp

@[simp] theorem countStatus_cue_txAbandons : (countStatus s).cue.txAbandons = s.cue.txAbandons := by
  unfold countStatus; (repeat' split) <;> first | rfl | simp

@[simp] theorem countStatus_cue_inbound : (countStatus s).cue.inbound = s.cue.inbound := by
  unfold countStatus; (repeat' split) <;> first | rfl | simp

@[simp] theorem countStatus_cue_tx : (countStatus s).cue.tx = s.cue.tx := by
  unfold countStatus; (repeat' split) <;> first | rfl | simp

@[simp] theorem countStatus_cue_idle : (countStatus s).cue.idle = s.cue.idle := by
  unfold countStatus; (repeat' split) <;> first | rfl | simp

@[simp] theorem countStatus_cue_yieldMark : (countStatus s).cue.yieldMark = s.cue.yieldMark := by
  unfold countStatus; (repeat' split) <;> first | rfl | simp

@[simp] theorem countStatus_cue_handover : (countStatus s).cue.handover = s.cue.handover := by
  unfold countStatus; (repeat' split) <;> first | rfl | simp

@[simp] theorem countStatus_handler : (countStatus s).handler = s.handler := by
  unfold countStatus; (repeat' split) <;> first | rfl | simp

@[simp] theorem countStatus_requester : (countStatus s).requester = s.requester := by
  unfold countStatus; (repeat' split) <;> first | rfl | simp

@[simp] theorem countStatus_responder : (countStatus s).responder = s.responder := by
  unfold countStatus; (repeat' split) <;> first | rfl | simp

@[simp] theorem countStatus_gate : (countStatus s).gate = s.gate := by
  unfold countStatus; (repeat' split) <;> first | rfl | simp

@[simp] theorem countStatus_events_flags : (countStatus s).events.flags = s.events.flags := by
  unfold countStatus; (repeat' split) <;> first | rfl | simp

@[simp] theorem countStatus_events_enable : (countStatus s).events.enable = s.events.enable := by
  unfold countStatus; (repeat' split) <;> first | rfl | simp

@[simp] theorem countStatus_events_statusEnable : (countStatus s).events.statusEnable = s.events.statusEnable := by
  unfold countStatus; (repeat' split) <;> first | rfl | simp

@[simp] theorem countStatus_events_corrected : (countStatus s).events.corrected = s.events.corrected := by
  unfold countStatus; (repeat' split) <;> first | rfl | simp

@[simp] theorem countStatus_events_damaged : (countStatus s).events.damaged = s.events.damaged := by
  unfold countStatus; (repeat' split) <;> first | rfl | simp

@[simp] theorem countStatus_events_capture : (countStatus s).events.capture = s.events.capture := by
  unfold countStatus; (repeat' split) <;> first | rfl | simp

@[simp] theorem countStatus_pending : (countStatus s).pending = s.pending := by
  unfold countStatus; (repeat' split) <;> first | rfl | simp

@[simp] theorem scrubRecord_part (chk : Checks) (e : Entry) : ((scrubRecord chk e s).1).part = s.part := by
  simp [scrubRecord]

@[simp] theorem scrubRecord_address (chk : Checks) (e : Entry) : ((scrubRecord chk e s).1).address = s.address := by
  simp [scrubRecord]

@[simp] theorem scrubRecord_config (chk : Checks) (e : Entry) : ((scrubRecord chk e s).1).config = s.config := by
  simp [scrubRecord]

@[simp] theorem scrubRecord_configSource (chk : Checks) (e : Entry) : ((scrubRecord chk e s).1).configSource = s.configSource := by
  simp [scrubRecord]

@[simp] theorem scrubRecord_pcu (chk : Checks) (e : Entry) : ((scrubRecord chk e s).1).pcu = s.pcu := by
  simp [scrubRecord]

@[simp] theorem scrubRecord_store_freeKnots (chk : Checks) (e : Entry) : ((scrubRecord chk e s).1).store.freeKnots = s.store.freeKnots := by
  simp [scrubRecord]

@[simp] theorem scrubRecord_arbiter (chk : Checks) (e : Entry) : ((scrubRecord chk e s).1).arbiter = s.arbiter := by
  simp [scrubRecord]

@[simp] theorem scrubRecord_resolver (chk : Checks) (e : Entry) : ((scrubRecord chk e s).1).resolver = s.resolver := by
  simp [scrubRecord]

@[simp] theorem scrubRecord_pipeline (chk : Checks) (e : Entry) : ((scrubRecord chk e s).1).pipeline = s.pipeline := by
  simp [scrubRecord]

@[simp] theorem scrubRecord_cue_receiverOn (chk : Checks) (e : Entry) : ((scrubRecord chk e s).1).cue.receiverOn = s.cue.receiverOn := by
  simp [scrubRecord]

@[simp] theorem scrubRecord_cue_rx (chk : Checks) (e : Entry) : ((scrubRecord chk e s).1).cue.rx = s.cue.rx := by
  simp [scrubRecord]

@[simp] theorem scrubRecord_cue_kindFlags (chk : Checks) (e : Entry) : ((scrubRecord chk e s).1).cue.kindFlags = s.cue.kindFlags := by
  simp [scrubRecord]

@[simp] theorem scrubRecord_cue_capture (chk : Checks) (e : Entry) : ((scrubRecord chk e s).1).cue.capture = s.cue.capture := by
  simp [scrubRecord]

@[simp] theorem scrubRecord_cue_lineErrors (chk : Checks) (e : Entry) : ((scrubRecord chk e s).1).cue.lineErrors = s.cue.lineErrors := by
  simp [scrubRecord]

@[simp] theorem scrubRecord_cue_rxDrops (chk : Checks) (e : Entry) : ((scrubRecord chk e s).1).cue.rxDrops = s.cue.rxDrops := by
  simp [scrubRecord]

@[simp] theorem scrubRecord_cue_txAbandons (chk : Checks) (e : Entry) : ((scrubRecord chk e s).1).cue.txAbandons = s.cue.txAbandons := by
  simp [scrubRecord]

@[simp] theorem scrubRecord_cue_inbound (chk : Checks) (e : Entry) : ((scrubRecord chk e s).1).cue.inbound = s.cue.inbound := by
  simp [scrubRecord]

@[simp] theorem scrubRecord_cue_tx (chk : Checks) (e : Entry) : ((scrubRecord chk e s).1).cue.tx = s.cue.tx := by
  simp [scrubRecord]

@[simp] theorem scrubRecord_cue_idle (chk : Checks) (e : Entry) : ((scrubRecord chk e s).1).cue.idle = s.cue.idle := by
  simp [scrubRecord]

@[simp] theorem scrubRecord_cue_yieldMark (chk : Checks) (e : Entry) : ((scrubRecord chk e s).1).cue.yieldMark = s.cue.yieldMark := by
  simp [scrubRecord]

@[simp] theorem scrubRecord_cue_handover (chk : Checks) (e : Entry) : ((scrubRecord chk e s).1).cue.handover = s.cue.handover := by
  simp [scrubRecord]

@[simp] theorem scrubRecord_handler (chk : Checks) (e : Entry) : ((scrubRecord chk e s).1).handler = s.handler := by
  simp [scrubRecord]

@[simp] theorem scrubRecord_requester (chk : Checks) (e : Entry) : ((scrubRecord chk e s).1).requester = s.requester := by
  simp [scrubRecord]

@[simp] theorem scrubRecord_responder (chk : Checks) (e : Entry) : ((scrubRecord chk e s).1).responder = s.responder := by
  simp [scrubRecord]

@[simp] theorem scrubRecord_gate (chk : Checks) (e : Entry) : ((scrubRecord chk e s).1).gate = s.gate := by
  simp [scrubRecord]

@[simp] theorem scrubRecord_events_enable (chk : Checks) (e : Entry) : ((scrubRecord chk e s).1).events.enable = s.events.enable := by
  simp [scrubRecord]

@[simp] theorem scrubRecord_events_statusEnable (chk : Checks) (e : Entry) : ((scrubRecord chk e s).1).events.statusEnable = s.events.statusEnable := by
  simp [scrubRecord]

@[simp] theorem scrubRecord_events_statusCountdown (chk : Checks) (e : Entry) : ((scrubRecord chk e s).1).events.statusCountdown = s.events.statusCountdown := by
  simp [scrubRecord]

@[simp] theorem scrubRecord_pending (chk : Checks) (e : Entry) : ((scrubRecord chk e s).1).pending = s.pending := by
  simp [scrubRecord]

@[simp] theorem scrub_part (chk : Checks) : (scrub chk s).part = s.part := by
  unfold scrub; dsimp only; (repeat' split) <;> first | rfl | simp

@[simp] theorem scrub_address (chk : Checks) : (scrub chk s).address = s.address := by
  unfold scrub; dsimp only; (repeat' split) <;> first | rfl | simp

@[simp] theorem scrub_config (chk : Checks) : (scrub chk s).config = s.config := by
  unfold scrub; dsimp only; (repeat' split) <;> first | rfl | simp

@[simp] theorem scrub_configSource (chk : Checks) : (scrub chk s).configSource = s.configSource := by
  unfold scrub; dsimp only; (repeat' split) <;> first | rfl | simp

@[simp] theorem scrub_pcu (chk : Checks) : (scrub chk s).pcu = s.pcu := by
  unfold scrub; dsimp only; (repeat' split) <;> first | rfl | simp

@[simp] theorem scrub_store_freeKnots (chk : Checks) : (scrub chk s).store.freeKnots = s.store.freeKnots := by
  unfold scrub; dsimp only; (repeat' split) <;> first | rfl | simp

@[simp] theorem scrub_resolver_mode (chk : Checks) : (scrub chk s).resolver.mode = s.resolver.mode := by
  unfold scrub; dsimp only; (repeat' split) <;> first | rfl | simp

@[simp] theorem scrub_resolver_lastScene (chk : Checks) : (scrub chk s).resolver.lastScene = s.resolver.lastScene := by
  unfold scrub; dsimp only; (repeat' split) <;> first | rfl | simp

@[simp] theorem scrub_resolver_slot (chk : Checks) : (scrub chk s).resolver.slot = s.resolver.slot := by
  unfold scrub; dsimp only; (repeat' split) <;> first | rfl | simp

@[simp] theorem scrub_resolver_countdown (chk : Checks) : (scrub chk s).resolver.countdown = s.resolver.countdown := by
  unfold scrub; dsimp only; (repeat' split) <;> first | rfl | simp

@[simp] theorem scrub_resolver_late (chk : Checks) : (scrub chk s).resolver.late = s.resolver.late := by
  unfold scrub; dsimp only; (repeat' split) <;> first | rfl | simp

@[simp] theorem scrub_pipeline (chk : Checks) : (scrub chk s).pipeline = s.pipeline := by
  unfold scrub; dsimp only; (repeat' split) <;> first | rfl | simp

@[simp] theorem scrub_cue_receiverOn (chk : Checks) : (scrub chk s).cue.receiverOn = s.cue.receiverOn := by
  unfold scrub; dsimp only; (repeat' split) <;> first | rfl | simp

@[simp] theorem scrub_cue_rx (chk : Checks) : (scrub chk s).cue.rx = s.cue.rx := by
  unfold scrub; dsimp only; (repeat' split) <;> first | rfl | simp

@[simp] theorem scrub_cue_kindFlags (chk : Checks) : (scrub chk s).cue.kindFlags = s.cue.kindFlags := by
  unfold scrub; dsimp only; (repeat' split) <;> first | rfl | simp

@[simp] theorem scrub_cue_capture (chk : Checks) : (scrub chk s).cue.capture = s.cue.capture := by
  unfold scrub; dsimp only; (repeat' split) <;> first | rfl | simp

@[simp] theorem scrub_cue_lineErrors (chk : Checks) : (scrub chk s).cue.lineErrors = s.cue.lineErrors := by
  unfold scrub; dsimp only; (repeat' split) <;> first | rfl | simp

@[simp] theorem scrub_cue_rxDrops (chk : Checks) : (scrub chk s).cue.rxDrops = s.cue.rxDrops := by
  unfold scrub; dsimp only; (repeat' split) <;> first | rfl | simp

@[simp] theorem scrub_cue_txAbandons (chk : Checks) : (scrub chk s).cue.txAbandons = s.cue.txAbandons := by
  unfold scrub; dsimp only; (repeat' split) <;> first | rfl | simp

@[simp] theorem scrub_cue_inbound (chk : Checks) : (scrub chk s).cue.inbound = s.cue.inbound := by
  unfold scrub; dsimp only; (repeat' split) <;> first | rfl | simp

@[simp] theorem scrub_cue_tx (chk : Checks) : (scrub chk s).cue.tx = s.cue.tx := by
  unfold scrub; dsimp only; (repeat' split) <;> first | rfl | simp

@[simp] theorem scrub_cue_idle (chk : Checks) : (scrub chk s).cue.idle = s.cue.idle := by
  unfold scrub; dsimp only; (repeat' split) <;> first | rfl | simp

@[simp] theorem scrub_cue_yieldMark (chk : Checks) : (scrub chk s).cue.yieldMark = s.cue.yieldMark := by
  unfold scrub; dsimp only; (repeat' split) <;> first | rfl | simp

@[simp] theorem scrub_cue_handover (chk : Checks) : (scrub chk s).cue.handover = s.cue.handover := by
  unfold scrub; dsimp only; (repeat' split) <;> first | rfl | simp

@[simp] theorem scrub_handler (chk : Checks) : (scrub chk s).handler = s.handler := by
  unfold scrub; dsimp only; (repeat' split) <;> first | rfl | simp

@[simp] theorem scrub_requester (chk : Checks) : (scrub chk s).requester = s.requester := by
  unfold scrub; dsimp only; (repeat' split) <;> first | rfl | simp

@[simp] theorem scrub_responder (chk : Checks) : (scrub chk s).responder = s.responder := by
  unfold scrub; dsimp only; (repeat' split) <;> first | rfl | simp

@[simp] theorem scrub_gate (chk : Checks) : (scrub chk s).gate = s.gate := by
  unfold scrub; dsimp only; (repeat' split) <;> first | rfl | simp

@[simp] theorem scrub_events_enable (chk : Checks) : (scrub chk s).events.enable = s.events.enable := by
  unfold scrub; dsimp only; (repeat' split) <;> first | rfl | simp

@[simp] theorem scrub_events_statusEnable (chk : Checks) : (scrub chk s).events.statusEnable = s.events.statusEnable := by
  unfold scrub; dsimp only; (repeat' split) <;> first | rfl | simp

@[simp] theorem scrub_events_statusCountdown (chk : Checks) : (scrub chk s).events.statusCountdown = s.events.statusCountdown := by
  unfold scrub; dsimp only; (repeat' split) <;> first | rfl | simp

@[simp] theorem scrub_pending (chk : Checks) : (scrub chk s).pending = s.pending := by
  unfold scrub; dsimp only; (repeat' split) <;> first | rfl | simp

/-! ### Steps at the store (R47, R57, R142, R149) -/

@[simp] theorem walkBack_part (chk : Checks) (es : List Entry) : ((walkBack chk es s).1).part = s.part := by
  induction es generalizing s with
  | nil => rfl
  | cons e es ih => simp only [walkBack]; split <;> simp [ih]

@[simp] theorem walkBack_address (chk : Checks) (es : List Entry) : ((walkBack chk es s).1).address = s.address := by
  induction es generalizing s with
  | nil => rfl
  | cons e es ih => simp only [walkBack]; split <;> simp [ih]

@[simp] theorem walkBack_config (chk : Checks) (es : List Entry) : ((walkBack chk es s).1).config = s.config := by
  induction es generalizing s with
  | nil => rfl
  | cons e es ih => simp only [walkBack]; split <;> simp [ih]

@[simp] theorem walkBack_configSource (chk : Checks) (es : List Entry) : ((walkBack chk es s).1).configSource = s.configSource := by
  induction es generalizing s with
  | nil => rfl
  | cons e es ih => simp only [walkBack]; split <;> simp [ih]

@[simp] theorem walkBack_pcu (chk : Checks) (es : List Entry) : ((walkBack chk es s).1).pcu = s.pcu := by
  induction es generalizing s with
  | nil => rfl
  | cons e es ih => simp only [walkBack]; split <;> simp [ih]

@[simp] theorem walkBack_store_freeKnots (chk : Checks) (es : List Entry) : ((walkBack chk es s).1).store.freeKnots = s.store.freeKnots := by
  induction es generalizing s with
  | nil => rfl
  | cons e es ih => simp only [walkBack]; split <;> simp [ih]

@[simp] theorem walkBack_store_frozen (chk : Checks) (es : List Entry) : ((walkBack chk es s).1).store.frozen = s.store.frozen := by
  induction es generalizing s with
  | nil => rfl
  | cons e es ih => simp only [walkBack]; split <;> simp [ih]

@[simp] theorem walkBack_store_scrubCursor (chk : Checks) (es : List Entry) : ((walkBack chk es s).1).store.scrubCursor = s.store.scrubCursor := by
  induction es generalizing s with
  | nil => rfl
  | cons e es ih => simp only [walkBack]; split <;> simp [ih]

@[simp] theorem walkBack_arbiter (chk : Checks) (es : List Entry) : ((walkBack chk es s).1).arbiter = s.arbiter := by
  induction es generalizing s with
  | nil => rfl
  | cons e es ih => simp only [walkBack]; split <;> simp [ih]

@[simp] theorem walkBack_resolver (chk : Checks) (es : List Entry) : ((walkBack chk es s).1).resolver = s.resolver := by
  induction es generalizing s with
  | nil => rfl
  | cons e es ih => simp only [walkBack]; split <;> simp [ih]

@[simp] theorem walkBack_pipeline (chk : Checks) (es : List Entry) : ((walkBack chk es s).1).pipeline = s.pipeline := by
  induction es generalizing s with
  | nil => rfl
  | cons e es ih => simp only [walkBack]; split <;> simp [ih]

@[simp] theorem walkBack_cue_receiverOn (chk : Checks) (es : List Entry) : ((walkBack chk es s).1).cue.receiverOn = s.cue.receiverOn := by
  induction es generalizing s with
  | nil => rfl
  | cons e es ih => simp only [walkBack]; split <;> simp [ih]

@[simp] theorem walkBack_cue_rx (chk : Checks) (es : List Entry) : ((walkBack chk es s).1).cue.rx = s.cue.rx := by
  induction es generalizing s with
  | nil => rfl
  | cons e es ih => simp only [walkBack]; split <;> simp [ih]

@[simp] theorem walkBack_cue_kindFlags (chk : Checks) (es : List Entry) : ((walkBack chk es s).1).cue.kindFlags = s.cue.kindFlags := by
  induction es generalizing s with
  | nil => rfl
  | cons e es ih => simp only [walkBack]; split <;> simp [ih]

@[simp] theorem walkBack_cue_capture (chk : Checks) (es : List Entry) : ((walkBack chk es s).1).cue.capture = s.cue.capture := by
  induction es generalizing s with
  | nil => rfl
  | cons e es ih => simp only [walkBack]; split <;> simp [ih]

@[simp] theorem walkBack_cue_lineErrors (chk : Checks) (es : List Entry) : ((walkBack chk es s).1).cue.lineErrors = s.cue.lineErrors := by
  induction es generalizing s with
  | nil => rfl
  | cons e es ih => simp only [walkBack]; split <;> simp [ih]

@[simp] theorem walkBack_cue_rxDrops (chk : Checks) (es : List Entry) : ((walkBack chk es s).1).cue.rxDrops = s.cue.rxDrops := by
  induction es generalizing s with
  | nil => rfl
  | cons e es ih => simp only [walkBack]; split <;> simp [ih]

@[simp] theorem walkBack_cue_txAbandons (chk : Checks) (es : List Entry) : ((walkBack chk es s).1).cue.txAbandons = s.cue.txAbandons := by
  induction es generalizing s with
  | nil => rfl
  | cons e es ih => simp only [walkBack]; split <;> simp [ih]

@[simp] theorem walkBack_cue_inbound (chk : Checks) (es : List Entry) : ((walkBack chk es s).1).cue.inbound = s.cue.inbound := by
  induction es generalizing s with
  | nil => rfl
  | cons e es ih => simp only [walkBack]; split <;> simp [ih]

@[simp] theorem walkBack_cue_tx (chk : Checks) (es : List Entry) : ((walkBack chk es s).1).cue.tx = s.cue.tx := by
  induction es generalizing s with
  | nil => rfl
  | cons e es ih => simp only [walkBack]; split <;> simp [ih]

@[simp] theorem walkBack_cue_idle (chk : Checks) (es : List Entry) : ((walkBack chk es s).1).cue.idle = s.cue.idle := by
  induction es generalizing s with
  | nil => rfl
  | cons e es ih => simp only [walkBack]; split <;> simp [ih]

@[simp] theorem walkBack_cue_yieldMark (chk : Checks) (es : List Entry) : ((walkBack chk es s).1).cue.yieldMark = s.cue.yieldMark := by
  induction es generalizing s with
  | nil => rfl
  | cons e es ih => simp only [walkBack]; split <;> simp [ih]

@[simp] theorem walkBack_cue_handover (chk : Checks) (es : List Entry) : ((walkBack chk es s).1).cue.handover = s.cue.handover := by
  induction es generalizing s with
  | nil => rfl
  | cons e es ih => simp only [walkBack]; split <;> simp [ih]

@[simp] theorem walkBack_handler (chk : Checks) (es : List Entry) : ((walkBack chk es s).1).handler = s.handler := by
  induction es generalizing s with
  | nil => rfl
  | cons e es ih => simp only [walkBack]; split <;> simp [ih]

@[simp] theorem walkBack_requester (chk : Checks) (es : List Entry) : ((walkBack chk es s).1).requester = s.requester := by
  induction es generalizing s with
  | nil => rfl
  | cons e es ih => simp only [walkBack]; split <;> simp [ih]

@[simp] theorem walkBack_responder (chk : Checks) (es : List Entry) : ((walkBack chk es s).1).responder = s.responder := by
  induction es generalizing s with
  | nil => rfl
  | cons e es ih => simp only [walkBack]; split <;> simp [ih]

@[simp] theorem walkBack_gate (chk : Checks) (es : List Entry) : ((walkBack chk es s).1).gate = s.gate := by
  induction es generalizing s with
  | nil => rfl
  | cons e es ih => simp only [walkBack]; split <;> simp [ih]

@[simp] theorem walkBack_events_enable (chk : Checks) (es : List Entry) : ((walkBack chk es s).1).events.enable = s.events.enable := by
  induction es generalizing s with
  | nil => rfl
  | cons e es ih => simp only [walkBack]; split <;> simp [ih]

@[simp] theorem walkBack_events_statusEnable (chk : Checks) (es : List Entry) : ((walkBack chk es s).1).events.statusEnable = s.events.statusEnable := by
  induction es generalizing s with
  | nil => rfl
  | cons e es ih => simp only [walkBack]; split <;> simp [ih]

@[simp] theorem walkBack_events_statusCountdown (chk : Checks) (es : List Entry) : ((walkBack chk es s).1).events.statusCountdown = s.events.statusCountdown := by
  induction es generalizing s with
  | nil => rfl
  | cons e es ih => simp only [walkBack]; split <;> simp [ih]

@[simp] theorem walkBack_pending (chk : Checks) (es : List Entry) : ((walkBack chk es s).1).pending = s.pending := by
  induction es generalizing s with
  | nil => rfl
  | cons e es ih => simp only [walkBack]; split <;> simp [ih]

@[simp] theorem readGrade_part (chk : Checks) (l : Latch) : ((readGrade chk l s).1).part = s.part := by
  unfold readGrade; dsimp only; (repeat' split) <;> first | rfl | simp

@[simp] theorem readGrade_address (chk : Checks) (l : Latch) : ((readGrade chk l s).1).address = s.address := by
  unfold readGrade; dsimp only; (repeat' split) <;> first | rfl | simp

@[simp] theorem readGrade_config (chk : Checks) (l : Latch) : ((readGrade chk l s).1).config = s.config := by
  unfold readGrade; dsimp only; (repeat' split) <;> first | rfl | simp

@[simp] theorem readGrade_configSource (chk : Checks) (l : Latch) : ((readGrade chk l s).1).configSource = s.configSource := by
  unfold readGrade; dsimp only; (repeat' split) <;> first | rfl | simp

@[simp] theorem readGrade_pcu (chk : Checks) (l : Latch) : ((readGrade chk l s).1).pcu = s.pcu := by
  unfold readGrade; dsimp only; (repeat' split) <;> first | rfl | simp

@[simp] theorem readGrade_store_freeKnots (chk : Checks) (l : Latch) : ((readGrade chk l s).1).store.freeKnots = s.store.freeKnots := by
  unfold readGrade; dsimp only; (repeat' split) <;> first | rfl | simp

@[simp] theorem readGrade_store_frozen (chk : Checks) (l : Latch) : ((readGrade chk l s).1).store.frozen = s.store.frozen := by
  unfold readGrade; dsimp only; (repeat' split) <;> first | rfl | simp

@[simp] theorem readGrade_store_scrubCursor (chk : Checks) (l : Latch) : ((readGrade chk l s).1).store.scrubCursor = s.store.scrubCursor := by
  unfold readGrade; dsimp only; (repeat' split) <;> first | rfl | simp

@[simp] theorem readGrade_arbiter (chk : Checks) (l : Latch) : ((readGrade chk l s).1).arbiter = s.arbiter := by
  unfold readGrade; dsimp only; (repeat' split) <;> first | rfl | simp

@[simp] theorem readGrade_resolver (chk : Checks) (l : Latch) : ((readGrade chk l s).1).resolver = s.resolver := by
  unfold readGrade; dsimp only; (repeat' split) <;> first | rfl | simp

@[simp] theorem readGrade_pipeline (chk : Checks) (l : Latch) : ((readGrade chk l s).1).pipeline = s.pipeline := by
  unfold readGrade; dsimp only; (repeat' split) <;> first | rfl | simp

@[simp] theorem readGrade_cue_receiverOn (chk : Checks) (l : Latch) : ((readGrade chk l s).1).cue.receiverOn = s.cue.receiverOn := by
  unfold readGrade; dsimp only; (repeat' split) <;> first | rfl | simp

@[simp] theorem readGrade_cue_rx (chk : Checks) (l : Latch) : ((readGrade chk l s).1).cue.rx = s.cue.rx := by
  unfold readGrade; dsimp only; (repeat' split) <;> first | rfl | simp

@[simp] theorem readGrade_cue_kindFlags (chk : Checks) (l : Latch) : ((readGrade chk l s).1).cue.kindFlags = s.cue.kindFlags := by
  unfold readGrade; dsimp only; (repeat' split) <;> first | rfl | simp

@[simp] theorem readGrade_cue_capture (chk : Checks) (l : Latch) : ((readGrade chk l s).1).cue.capture = s.cue.capture := by
  unfold readGrade; dsimp only; (repeat' split) <;> first | rfl | simp

@[simp] theorem readGrade_cue_lineErrors (chk : Checks) (l : Latch) : ((readGrade chk l s).1).cue.lineErrors = s.cue.lineErrors := by
  unfold readGrade; dsimp only; (repeat' split) <;> first | rfl | simp

@[simp] theorem readGrade_cue_rxDrops (chk : Checks) (l : Latch) : ((readGrade chk l s).1).cue.rxDrops = s.cue.rxDrops := by
  unfold readGrade; dsimp only; (repeat' split) <;> first | rfl | simp

@[simp] theorem readGrade_cue_txAbandons (chk : Checks) (l : Latch) : ((readGrade chk l s).1).cue.txAbandons = s.cue.txAbandons := by
  unfold readGrade; dsimp only; (repeat' split) <;> first | rfl | simp

@[simp] theorem readGrade_cue_inbound (chk : Checks) (l : Latch) : ((readGrade chk l s).1).cue.inbound = s.cue.inbound := by
  unfold readGrade; dsimp only; (repeat' split) <;> first | rfl | simp

@[simp] theorem readGrade_cue_tx (chk : Checks) (l : Latch) : ((readGrade chk l s).1).cue.tx = s.cue.tx := by
  unfold readGrade; dsimp only; (repeat' split) <;> first | rfl | simp

@[simp] theorem readGrade_cue_idle (chk : Checks) (l : Latch) : ((readGrade chk l s).1).cue.idle = s.cue.idle := by
  unfold readGrade; dsimp only; (repeat' split) <;> first | rfl | simp

@[simp] theorem readGrade_cue_yieldMark (chk : Checks) (l : Latch) : ((readGrade chk l s).1).cue.yieldMark = s.cue.yieldMark := by
  unfold readGrade; dsimp only; (repeat' split) <;> first | rfl | simp

@[simp] theorem readGrade_cue_handover (chk : Checks) (l : Latch) : ((readGrade chk l s).1).cue.handover = s.cue.handover := by
  unfold readGrade; dsimp only; (repeat' split) <;> first | rfl | simp

@[simp] theorem readGrade_handler (chk : Checks) (l : Latch) : ((readGrade chk l s).1).handler = s.handler := by
  unfold readGrade; dsimp only; (repeat' split) <;> first | rfl | simp

@[simp] theorem readGrade_requester (chk : Checks) (l : Latch) : ((readGrade chk l s).1).requester = s.requester := by
  unfold readGrade; dsimp only; (repeat' split) <;> first | rfl | simp

@[simp] theorem readGrade_responder (chk : Checks) (l : Latch) : ((readGrade chk l s).1).responder = s.responder := by
  unfold readGrade; dsimp only; (repeat' split) <;> first | rfl | simp

@[simp] theorem readGrade_gate (chk : Checks) (l : Latch) : ((readGrade chk l s).1).gate = s.gate := by
  unfold readGrade; dsimp only; (repeat' split) <;> first | rfl | simp

@[simp] theorem readGrade_events_enable (chk : Checks) (l : Latch) : ((readGrade chk l s).1).events.enable = s.events.enable := by
  unfold readGrade; dsimp only; (repeat' split) <;> first | rfl | simp

@[simp] theorem readGrade_events_statusEnable (chk : Checks) (l : Latch) : ((readGrade chk l s).1).events.statusEnable = s.events.statusEnable := by
  unfold readGrade; dsimp only; (repeat' split) <;> first | rfl | simp

@[simp] theorem readGrade_events_statusCountdown (chk : Checks) (l : Latch) : ((readGrade chk l s).1).events.statusCountdown = s.events.statusCountdown := by
  unfold readGrade; dsimp only; (repeat' split) <;> first | rfl | simp

@[simp] theorem readGrade_pending (chk : Checks) (l : Latch) : ((readGrade chk l s).1).pending = s.pending := by
  unfold readGrade; dsimp only; (repeat' split) <;> first | rfl | simp

@[simp] theorem streamStep_part (chk : Checks) (c : Stream) : ((streamStep chk c s).1).part = s.part := by
  unfold streamStep; dsimp only; (repeat' split) <;> first | rfl | simp

@[simp] theorem streamStep_address (chk : Checks) (c : Stream) : ((streamStep chk c s).1).address = s.address := by
  unfold streamStep; dsimp only; (repeat' split) <;> first | rfl | simp

@[simp] theorem streamStep_config (chk : Checks) (c : Stream) : ((streamStep chk c s).1).config = s.config := by
  unfold streamStep; dsimp only; (repeat' split) <;> first | rfl | simp

@[simp] theorem streamStep_configSource (chk : Checks) (c : Stream) : ((streamStep chk c s).1).configSource = s.configSource := by
  unfold streamStep; dsimp only; (repeat' split) <;> first | rfl | simp

@[simp] theorem streamStep_pcu (chk : Checks) (c : Stream) : ((streamStep chk c s).1).pcu = s.pcu := by
  unfold streamStep; dsimp only; (repeat' split) <;> first | rfl | simp

@[simp] theorem streamStep_store_freeKnots (chk : Checks) (c : Stream) : ((streamStep chk c s).1).store.freeKnots = s.store.freeKnots := by
  unfold streamStep; dsimp only; (repeat' split) <;> first | rfl | simp

@[simp] theorem streamStep_store_scrubCursor (chk : Checks) (c : Stream) : ((streamStep chk c s).1).store.scrubCursor = s.store.scrubCursor := by
  unfold streamStep; dsimp only; (repeat' split) <;> first | rfl | simp

@[simp] theorem streamStep_arbiter (chk : Checks) (c : Stream) : ((streamStep chk c s).1).arbiter = s.arbiter := by
  unfold streamStep; dsimp only; (repeat' split) <;> first | rfl | simp

@[simp] theorem streamStep_resolver (chk : Checks) (c : Stream) : ((streamStep chk c s).1).resolver = s.resolver := by
  unfold streamStep; dsimp only; (repeat' split) <;> first | rfl | simp

@[simp] theorem streamStep_pipeline (chk : Checks) (c : Stream) : ((streamStep chk c s).1).pipeline = s.pipeline := by
  unfold streamStep; dsimp only; (repeat' split) <;> first | rfl | simp

@[simp] theorem streamStep_cue_receiverOn (chk : Checks) (c : Stream) : ((streamStep chk c s).1).cue.receiverOn = s.cue.receiverOn := by
  unfold streamStep; dsimp only; (repeat' split) <;> first | rfl | simp

@[simp] theorem streamStep_cue_rx (chk : Checks) (c : Stream) : ((streamStep chk c s).1).cue.rx = s.cue.rx := by
  unfold streamStep; dsimp only; (repeat' split) <;> first | rfl | simp

@[simp] theorem streamStep_cue_kindFlags (chk : Checks) (c : Stream) : ((streamStep chk c s).1).cue.kindFlags = s.cue.kindFlags := by
  unfold streamStep; dsimp only; (repeat' split) <;> first | rfl | simp

@[simp] theorem streamStep_cue_capture (chk : Checks) (c : Stream) : ((streamStep chk c s).1).cue.capture = s.cue.capture := by
  unfold streamStep; dsimp only; (repeat' split) <;> first | rfl | simp

@[simp] theorem streamStep_cue_lineErrors (chk : Checks) (c : Stream) : ((streamStep chk c s).1).cue.lineErrors = s.cue.lineErrors := by
  unfold streamStep; dsimp only; (repeat' split) <;> first | rfl | simp

@[simp] theorem streamStep_cue_rxDrops (chk : Checks) (c : Stream) : ((streamStep chk c s).1).cue.rxDrops = s.cue.rxDrops := by
  unfold streamStep; dsimp only; (repeat' split) <;> first | rfl | simp

@[simp] theorem streamStep_cue_inbound (chk : Checks) (c : Stream) : ((streamStep chk c s).1).cue.inbound = s.cue.inbound := by
  unfold streamStep; dsimp only; (repeat' split) <;> first | rfl | simp

@[simp] theorem streamStep_cue_tx (chk : Checks) (c : Stream) : ((streamStep chk c s).1).cue.tx = s.cue.tx := by
  unfold streamStep; dsimp only; (repeat' split) <;> first | rfl | simp

@[simp] theorem streamStep_cue_idle (chk : Checks) (c : Stream) : ((streamStep chk c s).1).cue.idle = s.cue.idle := by
  unfold streamStep; dsimp only; (repeat' split) <;> first | rfl | simp

@[simp] theorem streamStep_cue_yieldMark (chk : Checks) (c : Stream) : ((streamStep chk c s).1).cue.yieldMark = s.cue.yieldMark := by
  unfold streamStep; dsimp only; (repeat' split) <;> first | rfl | simp

@[simp] theorem streamStep_cue_handover (chk : Checks) (c : Stream) : ((streamStep chk c s).1).cue.handover = s.cue.handover := by
  unfold streamStep; dsimp only; (repeat' split) <;> first | rfl | simp

@[simp] theorem streamStep_handler (chk : Checks) (c : Stream) : ((streamStep chk c s).1).handler = s.handler := by
  unfold streamStep; dsimp only; (repeat' split) <;> first | rfl | simp

@[simp] theorem streamStep_requester (chk : Checks) (c : Stream) : ((streamStep chk c s).1).requester = s.requester := by
  unfold streamStep; dsimp only; (repeat' split) <;> first | rfl | simp

@[simp] theorem streamStep_responder (chk : Checks) (c : Stream) : ((streamStep chk c s).1).responder = s.responder := by
  unfold streamStep; dsimp only; (repeat' split) <;> first | rfl | simp

@[simp] theorem streamStep_gate (chk : Checks) (c : Stream) : ((streamStep chk c s).1).gate = s.gate := by
  unfold streamStep; dsimp only; (repeat' split) <;> first | rfl | simp

@[simp] theorem streamStep_events_enable (chk : Checks) (c : Stream) : ((streamStep chk c s).1).events.enable = s.events.enable := by
  unfold streamStep; dsimp only; (repeat' split) <;> first | rfl | simp

@[simp] theorem streamStep_events_statusEnable (chk : Checks) (c : Stream) : ((streamStep chk c s).1).events.statusEnable = s.events.statusEnable := by
  unfold streamStep; dsimp only; (repeat' split) <;> first | rfl | simp

@[simp] theorem streamStep_events_statusCountdown (chk : Checks) (c : Stream) : ((streamStep chk c s).1).events.statusCountdown = s.events.statusCountdown := by
  unfold streamStep; dsimp only; (repeat' split) <;> first | rfl | simp

@[simp] theorem streamStep_pending (chk : Checks) (c : Stream) : ((streamStep chk c s).1).pending = s.pending := by
  unfold streamStep; dsimp only; (repeat' split) <;> first | rfl | simp

@[simp] theorem mergeRecord_part (chk : Checks) (r : Record) : ((mergeRecord chk r s).1).part = s.part := by
  unfold mergeRecord; dsimp only; split <;> simp [insertRecord, rewriteRecord]

@[simp] theorem mergeRecord_address (chk : Checks) (r : Record) : ((mergeRecord chk r s).1).address = s.address := by
  unfold mergeRecord; dsimp only; split <;> simp [insertRecord, rewriteRecord]

@[simp] theorem mergeRecord_config (chk : Checks) (r : Record) : ((mergeRecord chk r s).1).config = s.config := by
  unfold mergeRecord; dsimp only; split <;> simp [insertRecord, rewriteRecord]

@[simp] theorem mergeRecord_configSource (chk : Checks) (r : Record) : ((mergeRecord chk r s).1).configSource = s.configSource := by
  unfold mergeRecord; dsimp only; split <;> simp [insertRecord, rewriteRecord]

@[simp] theorem mergeRecord_pcu (chk : Checks) (r : Record) : ((mergeRecord chk r s).1).pcu = s.pcu := by
  unfold mergeRecord; dsimp only; split <;> simp [insertRecord, rewriteRecord]

@[simp] theorem mergeRecord_store_scrubCursor (chk : Checks) (r : Record) : ((mergeRecord chk r s).1).store.scrubCursor = s.store.scrubCursor := by
  unfold mergeRecord; dsimp only; split <;> simp [insertRecord, rewriteRecord]

@[simp] theorem mergeRecord_arbiter (chk : Checks) (r : Record) : ((mergeRecord chk r s).1).arbiter = s.arbiter := by
  unfold mergeRecord; dsimp only; split <;> simp [insertRecord, rewriteRecord]

@[simp] theorem mergeRecord_resolver (chk : Checks) (r : Record) : ((mergeRecord chk r s).1).resolver = s.resolver := by
  unfold mergeRecord; dsimp only; split <;> simp [insertRecord, rewriteRecord]

@[simp] theorem mergeRecord_pipeline (chk : Checks) (r : Record) : ((mergeRecord chk r s).1).pipeline = s.pipeline := by
  unfold mergeRecord; dsimp only; split <;> simp [insertRecord, rewriteRecord]

@[simp] theorem mergeRecord_cue_receiverOn (chk : Checks) (r : Record) : ((mergeRecord chk r s).1).cue.receiverOn = s.cue.receiverOn := by
  unfold mergeRecord; dsimp only; split <;> simp [insertRecord, rewriteRecord]

@[simp] theorem mergeRecord_cue_rx (chk : Checks) (r : Record) : ((mergeRecord chk r s).1).cue.rx = s.cue.rx := by
  unfold mergeRecord; dsimp only; split <;> simp [insertRecord, rewriteRecord]

@[simp] theorem mergeRecord_cue_kindFlags (chk : Checks) (r : Record) : ((mergeRecord chk r s).1).cue.kindFlags = s.cue.kindFlags := by
  unfold mergeRecord; dsimp only; split <;> simp [insertRecord, rewriteRecord]

@[simp] theorem mergeRecord_cue_capture (chk : Checks) (r : Record) : ((mergeRecord chk r s).1).cue.capture = s.cue.capture := by
  unfold mergeRecord; dsimp only; split <;> simp [insertRecord, rewriteRecord]

@[simp] theorem mergeRecord_cue_lineErrors (chk : Checks) (r : Record) : ((mergeRecord chk r s).1).cue.lineErrors = s.cue.lineErrors := by
  unfold mergeRecord; dsimp only; split <;> simp [insertRecord, rewriteRecord]

@[simp] theorem mergeRecord_cue_rxDrops (chk : Checks) (r : Record) : ((mergeRecord chk r s).1).cue.rxDrops = s.cue.rxDrops := by
  unfold mergeRecord; dsimp only; split <;> simp [insertRecord, rewriteRecord]

@[simp] theorem mergeRecord_cue_txAbandons (chk : Checks) (r : Record) : ((mergeRecord chk r s).1).cue.txAbandons = s.cue.txAbandons := by
  unfold mergeRecord; dsimp only; split <;> simp [insertRecord, rewriteRecord]

@[simp] theorem mergeRecord_cue_inbound (chk : Checks) (r : Record) : ((mergeRecord chk r s).1).cue.inbound = s.cue.inbound := by
  unfold mergeRecord; dsimp only; split <;> simp [insertRecord, rewriteRecord]

@[simp] theorem mergeRecord_cue_tx (chk : Checks) (r : Record) : ((mergeRecord chk r s).1).cue.tx = s.cue.tx := by
  unfold mergeRecord; dsimp only; split <;> simp [insertRecord, rewriteRecord]

@[simp] theorem mergeRecord_cue_idle (chk : Checks) (r : Record) : ((mergeRecord chk r s).1).cue.idle = s.cue.idle := by
  unfold mergeRecord; dsimp only; split <;> simp [insertRecord, rewriteRecord]

@[simp] theorem mergeRecord_cue_yieldMark (chk : Checks) (r : Record) : ((mergeRecord chk r s).1).cue.yieldMark = s.cue.yieldMark := by
  unfold mergeRecord; dsimp only; split <;> simp [insertRecord, rewriteRecord]

@[simp] theorem mergeRecord_cue_handover (chk : Checks) (r : Record) : ((mergeRecord chk r s).1).cue.handover = s.cue.handover := by
  unfold mergeRecord; dsimp only; split <;> simp [insertRecord, rewriteRecord]

@[simp] theorem mergeRecord_handler (chk : Checks) (r : Record) : ((mergeRecord chk r s).1).handler = s.handler := by
  unfold mergeRecord; dsimp only; split <;> simp [insertRecord, rewriteRecord]

@[simp] theorem mergeRecord_requester (chk : Checks) (r : Record) : ((mergeRecord chk r s).1).requester = s.requester := by
  unfold mergeRecord; dsimp only; split <;> simp [insertRecord, rewriteRecord]

@[simp] theorem mergeRecord_responder (chk : Checks) (r : Record) : ((mergeRecord chk r s).1).responder = s.responder := by
  unfold mergeRecord; dsimp only; split <;> simp [insertRecord, rewriteRecord]

@[simp] theorem mergeRecord_gate (chk : Checks) (r : Record) : ((mergeRecord chk r s).1).gate = s.gate := by
  unfold mergeRecord; dsimp only; split <;> simp [insertRecord, rewriteRecord]

@[simp] theorem mergeRecord_events_enable (chk : Checks) (r : Record) : ((mergeRecord chk r s).1).events.enable = s.events.enable := by
  unfold mergeRecord; dsimp only; split <;> simp [insertRecord, rewriteRecord]

@[simp] theorem mergeRecord_events_statusEnable (chk : Checks) (r : Record) : ((mergeRecord chk r s).1).events.statusEnable = s.events.statusEnable := by
  unfold mergeRecord; dsimp only; split <;> simp [insertRecord, rewriteRecord]

@[simp] theorem mergeRecord_events_statusCountdown (chk : Checks) (r : Record) : ((mergeRecord chk r s).1).events.statusCountdown = s.events.statusCountdown := by
  unfold mergeRecord; dsimp only; split <;> simp [insertRecord, rewriteRecord]

@[simp] theorem mergeRecord_pending (chk : Checks) (r : Record) : ((mergeRecord chk r s).1).pending = s.pending := by
  unfold mergeRecord; dsimp only; split <;> simp [insertRecord, rewriteRecord]

end Sys2Proof.Machine
end

