-- ==== Sys2Proof/Laws/Store.lean ====
section
/-! SUPPORT. The lookups over an edited list (R21 to R23), the ranges and counts (00_scope.md, Arithmetic and Terms), and
what the end of a step at the store comes to (R25, R42, R55, R118). -/

namespace Sys2Proof.Machine

/-! ### Counts and ranges -/

theorem satInc_eq_min (n : Nat) : satInc n = min (n + 1) 65535 := by
  unfold satInc; split <;> omega

theorem nextRevision_eq_min (n : Nat) : nextRevision n = min 255 (n + 1) := by
  unfold nextRevision; split <;> omega

theorem addClips_eq_min (n k : Nat) : addClips n k = min (n + k) 65535 := by
  unfold addClips; split <;> omega

theorem clamp_eq (lo hi x : Int) (h : lo ≤ hi) : clamp lo hi x = max lo (min hi x) := by
  unfold clamp
  split
  · omega
  · split <;> omega

theorem stepFrame_fwd (f : Nat) : stepFrame .fwd f = (min (f + 1) 1048575, decide (1048575 ≤ f)) := by
  simp only [stepFrame, project, maxFrame]; split <;> simp <;> omega

theorem stepFrame_rev (f : Nat) : stepFrame .rev f = (f - 1, decide (f = 0)) := by
  simp only [stepFrame, project]; split <;> simp <;> omega

/-! ### States in which the blocks work -/

/-- Whether the blocks work depends on the part's state alone. -/
theorem up_of_part {s t : State} (h : t.part = s.part) : t.up = s.up := by
  simp [State.up, h]

theorem part_of_up {s : State} (h : s.up = true) : s.part = .joining ∨ s.part = .running := by
  simpa [State.up] using h

theorem not_reset_of_up {s : State} (h : s.up = true) : s.part ≠ .reset := by
  rcases part_of_up h with h | h <;> simp [h]

/-! ### Lookups that find no fault -/

/-- With every parity check clean a lookup changes nothing. -/
theorem examineStore_unfailing (stop : Nat → Bool) (chk : Checks) (s : State) (h : chk.parity = []) :
    examineStore stop chk s = (s, false) :=
  examineStore_clean s stop chk (by rw [h, examine_clean])

/-- With every check clean a body read changes nothing. -/
theorem readBody_unfailing (op : StoreOp) (e : Entry) (s : State) :
    readBody op Checks.clean e s = ⟨s, if e.damaged then BodyView.lost else ⟨false, e.body⟩, false⟩ := by
  cases h : e.damaged
  · rw [readBody_clean _ _ _ _ h (by rfl)]; rfl
  · rw [readBody_damaged _ _ _ _ h]; rfl

/-! ### The list after an edit -/

/-- The record found has the start asked for and no faulty mark. -/
theorem recordAtStart_some {n : Nat} {idx : List Entry} {e : Entry} (h : recordAtStart n idx = some e) :
    e.start = n ∧ e.faulty = false ∧ e ∈ idx := by
  have h1 := List.find?_some h
  have h2 := List.mem_of_find?_eq_some h
  simp at h1
  exact ⟨h1.2, h1.1, h2⟩

theorem recordAtStart_cons (n : Nat) (e : Entry) (es : List Entry) :
    recordAtStart n (e :: es) = if e.faulty = false ∧ e.start = n then some e else recordAtStart n es := by
  simp only [recordAtStart, List.find?_cons]
  split <;> simp_all

theorem recordAtStart_insertEntry (n : Nat) (x : Entry) (idx : List Entry) (hx : x.faulty = false)
    (h : recordAtStart x.start idx = none) :
    recordAtStart n (insertEntry x idx) = if n = x.start then some x else recordAtStart n idx := by
  induction idx with
  | nil =>
    simp only [insertEntry, recordAtStart_cons, hx, true_and, eq_comm]
  | cons e es ih =>
    rw [recordAtStart_cons] at h
    split at h
    · simp at h
    · next hne =>
      simp only [insertEntry]
      split
      · rw [recordAtStart_cons, recordAtStart_cons]
        simp only [hx, true_and, eq_comm]
      · rw [recordAtStart_cons, ih h, recordAtStart_cons]
        split
        · next he =>
          split
          · next hn => exact absurd ⟨he.1, by omega⟩ hne
          · rfl
        · rfl

/-- An update that keeps starts and marks rewrites the record found and leaves the others. -/
theorem recordAtStart_updateEntry (n k : Nat) (f : Entry → Entry) (idx : List Entry)
    (hf : ∀ e, e.faulty = false → e.start = k → (f e).faulty = false ∧ (f e).start = k) :
    recordAtStart n (updateEntry k f idx) =
      if n = k then (recordAtStart n idx).map f else recordAtStart n idx := by
  induction idx with
  | nil => simp [updateEntry, recordAtStart]
  | cons e es ih =>
    simp only [updateEntry, List.map_cons] at ih ⊢
    rw [recordAtStart_cons n e es]
    by_cases he : e.faulty = false ∧ e.start = k
    · have h1 := hf e he.1 he.2
      rw [if_pos (by simp [he.1, he.2]), recordAtStart_cons, ih]
      by_cases hn : n = k
      · subst hn; simp [h1, he]
      · have hn' : k ≠ n := fun h => hn h.symm
        simp [h1, he, hn, hn']
    · rw [if_neg (by simpa using he), recordAtStart_cons, ih]
      by_cases hn : n = k
      · subst hn; simp only [if_neg he, if_true]
      · simp only [if_neg hn]

theorem length_updateEntry (k : Nat) (f : Entry → Entry) (idx : List Entry) :
    (updateEntry k f idx).length = idx.length := by
  simp [updateEntry]

theorem length_insertEntry (x : Entry) (idx : List Entry) : (insertEntry x idx).length = idx.length + 1 := by
  induction idx with
  | nil => rfl
  | cons e es ih =>
    simp only [insertEntry]
    split
    · rfl
    · simp [ih]

theorem recordAtStart_filter (n : Nat) (p : Entry → Bool) (idx : List Entry) (q : Bool)
    (h : ∀ e ∈ idx, e.faulty = false → e.start = n → p e = q) :
    recordAtStart n (idx.filter p) = if q then recordAtStart n idx else none := by
  induction idx with
  | nil => simp [recordAtStart]
  | cons e es ih =>
    have ih := ih (fun x hx => h x (List.mem_cons_of_mem _ hx))
    have he := h e List.mem_cons_self
    rw [recordAtStart_cons, List.filter_cons]
    by_cases hc : e.faulty = false ∧ e.start = n
    · rw [he hc.1 hc.2, if_pos hc]
      cases q
      · simpa using ih
      · simp [recordAtStart_cons, hc]
    · rw [if_neg hc]
      split
      · rw [recordAtStart_cons, if_neg hc, ih]
      · exact ih

theorem recordAtStart_removeEntry (n k : Nat) (idx : List Entry) :
    recordAtStart n (removeEntry k idx) = if n = k then none else recordAtStart n idx := by
  unfold removeEntry
  rw [recordAtStart_filter n _ idx (decide (n ≠ k))]
  · by_cases h : n = k <;> simp [h]
  · intro e _ h1 h2
    simp [h1, h2]

/-! ### The ends of a step at the store -/

/-- With at most three entries in the shared places a place is free, held one or not (R105, R149). -/
theorem sharedTaken_lt (s : State) (h : sharedCount s.cue.txq ≤ 3) : s.sharedTaken < 5 := by
  unfold State.sharedTaken; split <;> omega

/-- A REPLY with a place free: it joins where the message gets one (R118). -/
theorem sendReply_joins (m : Message) (r : ReplyResult) (b : ReplyBody) (s : State) (h : s.sharedTaken < 5) :
    (sendReply m r b s).1 = { s with cue.txq := s.cue.txq ++ replyTo m r b } := by
  unfold sendReply replyTo
  split
  · rw [handShared_room _ _ h]
  · simp

/-- A trigger away from the store asks for a resolution. -/
theorem resolutionAsked_trigger (s t : State) (hu : t.up = true) (hr : t.resolver = s.resolver)
    (ha : t.arbiter = s.arbiter) : s.resolutionAsked (trigger t) := by
  cases h : t.resolver.inFlight
  · rw [trigger_starts _ hu h]
    by_cases hf : t.arbiter.holder = none ∧ t.arbiter.noneWaits = true
    · rw [request_free _ _ (by exact hf.1) (by exact hf.2)]
      refine ⟨?_, ?_, ?_⟩
      · simp [← hr]
      · simp [← hr, h]
      · intro _
        rw [← ha, if_pos hf]; simp [← hr]
    · have he : request .resolver { t with resolver.inFlight := true } =
          { t with resolver.inFlight := true, arbiter.resolverWaits := true } := by
        unfold request; rw [if_neg (by simpa using hf)]; rfl
      rw [he]
      refine ⟨?_, ?_, ?_⟩
      · simp [← hr]
      · simp [← hr, h]
      · intro _
        rw [← ha, if_neg hf]; simp [← hr]
  · rw [trigger_rerun _ hu h]
    refine ⟨?_, ?_, ?_⟩
    · simp [← hr, h]
    · simp [← hr, ← ha]
    · simp [← hr, h]

/-- The release of a step that changed the list signals the resolver. -/
theorem signalled_releaseSignal (s u : State) (hu : s.up = true) (hp : u.part = s.part) (ha : u.arbiter = s.arbiter)
    (hr : u.resolver = s.resolver) (hg : u.pcu.gateFrame = s.pcu.gateFrame)
    (hh : s.arbiter.holder = some .handler) : s.signalled (releaseSignal true u) := by
  unfold releaseSignal triggerIf
  rw [if_pos rfl]
  have huu : u.up = true := by rw [up_of_part hp]; exact hu
  cases hf : u.resolver.inFlight
  · rw [trigger_starts _ huu hf, request_held _ _ .handler (by simpa [ha] using hh),
      release_to_resolver _ (by simp [Arbiter.wait])]
    refine ⟨?_, ?_, ?_⟩
    · simp [← hr]
    · simp [← hr, hf]
    · simp [← hr, hg]
  · rw [trigger_rerun _ huu hf]
    refine ⟨?_, ?_, ?_⟩
    · ext <;> simp [← hr, hf]
    · simp
    · simp [← hr, hf]

/-- The signal is seen in the resolver and the arbiter alone. -/
theorem signalled_congr {s t u : State} (hr : t.resolver = u.resolver) (ha : t.arbiter = u.arbiter)
    (h : s.signalled u) : s.signalled t := by
  simpa [State.signalled, hr, ha] using h

/-! ### The request of a walk, the expiries of a field start, the firing of a punch (R35, R37, R65, R158, R164, R178) -/

/-- The request of a walk touches the arbiter alone: asked already it stands, a free store that no client waits for is
granted, and else the handler waits. -/
theorem askForStep_spec (s : State) :
    askForStep s = { s with arbiter := (askForStep s).arbiter }
      ∧ ((askForStep s).arbiter = s.arbiter ∧ (s.arbiter.holder = some .handler ∨ s.arbiter.handlerWaits = true)
        ∨ s.arbiter.holder = none ∧ s.arbiter.noneWaits = true
          ∧ (askForStep s).arbiter = { s.arbiter with holder := some .handler }
        ∨ (s.arbiter.holder ≠ none ∨ s.arbiter.noneWaits = false) ∧ s.arbiter.holder ≠ some .handler
          ∧ (askForStep s).arbiter = { s.arbiter with handlerWaits := true }) := by
  unfold askForStep
  split
  · rename_i h
    exact ⟨rfl, .inl ⟨rfl, by simpa using h⟩⟩
  · rename_i h
    unfold request
    split
    · rename_i g
      exact ⟨rfl, .inr (.inl ⟨by simp_all, by simp_all, rfl⟩)⟩
    · rename_i g
      refine ⟨rfl, .inr (.inr ⟨?_, by simp_all, rfl⟩)⟩
      cases hn : s.arbiter.holder <;> simp_all

@[simp] theorem askForStep_part (s : State) : (askForStep s).part = s.part := by rw [(askForStep_spec s).1]
@[simp] theorem askForStep_store (s : State) : (askForStep s).store = s.store := by rw [(askForStep_spec s).1]
@[simp] theorem askForStep_handler (s : State) : (askForStep s).handler = s.handler := by rw [(askForStep_spec s).1]
@[simp] theorem askForStep_resolver (s : State) : (askForStep s).resolver = s.resolver := by rw [(askForStep_spec s).1]
@[simp] theorem askForStep_responder (s : State) : (askForStep s).responder = s.responder := by
  rw [(askForStep_spec s).1]
@[simp] theorem askForStep_cue (s : State) : (askForStep s).cue = s.cue := by rw [(askForStep_spec s).1]
@[simp] theorem askForStep_pcu (s : State) : (askForStep s).pcu = s.pcu := by rw [(askForStep_spec s).1]
@[simp] theorem askForStep_events (s : State) : (askForStep s).events = s.events := by rw [(askForStep_spec s).1]

/-- Where the handler holds the store, a step of a walk asks for nothing. -/
theorem askForStep_held (s : State) (h : s.arbiter.holder = some .handler) : askForStep s = s := by
  unfold askForStep; simp [h]

/-- A step of a walk is a request, and a step at the store where it is granted. -/
theorem execTrimStep_walk (chk : Checks) (m : Message) (w : Walk) (s : State)
    (h : s.handler.state = .executing m (.walk w)) :
    execTrimStep chk s = .next (if (askForStep s).arbiter.holder = some .handler
      then trimStep chk m w (askForStep s) else askForStep s) := by
  unfold execTrimStep
  rw [h]
  dsimp only
  split <;> rfl

/-- A walk finds its store frozen: it ends, and no record changes. -/
theorem trimStep_frozen (chk : Checks) (m : Message) (w : Walk) (s : State) (h : s.store.frozen = true) :
    trimStep chk m w s = endWalk m .storeFrozen w.changed false s := by
  unfold trimStep; simp [h]

/-- An expiry of a field start is that field start with a clean scrub step, or nothing. -/
theorem fieldStartIf_spec (b : Bool) (s : State) :
    (b = true ∧ fieldStartIf b s = fieldStart Checks.clean s) ∨ (b = false ∧ fieldStartIf b s = s) := by
  cases b
  · exact .inr ⟨rfl, rfl⟩
  · exact .inl ⟨rfl, rfl⟩

@[simp] theorem fieldStartIf_true (s : State) : fieldStartIf true s = fieldStart Checks.clean s := rfl

@[simp] theorem fieldStartIf_false (s : State) : fieldStartIf false s = s := rfl

/-- Each of the three expiries, where its countdown ends at this field, is the field start. -/
theorem expiries_are_field_starts (s : State) :
    (s.holdbackEnds = true → execHoldbackExpiry s = execFieldStart Checks.clean s)
      ∧ (s.tallyEnds = true → execTallyPulseEnd s = execFieldStart Checks.clean s)
      ∧ (s.statusEnds = true → execStatusCountdownExpiry s = execFieldStart Checks.clean s) := by
  refine ⟨?_, ?_, ?_⟩ <;> intro h
  · simp [execHoldbackExpiry, execFieldStart, h]
  · simp [execTallyPulseEnd, execFieldStart, h]
  · simp [execStatusCountdownExpiry, execFieldStart, h]

/-- A punch that fires does so at its target, at the first field of the frame, and not above its out frame. -/
theorem punchFires_bounds {s : State} (h : punchFires s = true) :
    s.gate.target = some s.pcu.snapshot.gateFrame ∧ s.pcu.snapshot.gateFrame ≤ s.gate.punch.outFrame
      ∧ s.pcu.snapshot.fieldIndex = 0 := by
  unfold punchFires at h
  simp only [Bool.and_eq_true, decide_eq_true_eq] at h
  exact ⟨h.1.1.1.1.1.1.2, h.1.1.1.1.1.2, h.1.1.1.1.2⟩

end Sys2Proof.Machine
end

