-- ==== Sys2Proof/WellFormed.lean ====
section
/-! DEFINITION. Which steps the spec allows as they are written: the limits R168 puts on a syndrome, R19 on a start
frame, and the longest boot image R198's length field can name. `exec` does not ask for them. -/

namespace Sys2Proof

/-- A syndrome is 1 to 255 (R168). -/
def WordFault.wf (w : WordFault) : Bool := w.syndrome != 0

/-- Bodies are named by start frames (R19), each at most once, with syndromes of R168; index entries likewise. -/
def Checks.wf (c : Checks) : Bool :=
  c.bodies.all (fun b => decide (b.1 ≤ maxFrame) && b.2.all WordFault.wf)
    && decide ((c.bodies.map Prod.fst).Nodup) && c.parity.all (fun s => decide (s ≤ maxFrame))

/-- The longest image the loader can read: marker 2, length 2, body 65,535, CRC 2 (R182, R198). -/
def maxImage : Nat := 65541

/-- Well-formed steps. -/
def Instr.wf : Instr → Bool
  | .powerOnReset => true
  | .leaveReset _ => true
  | .bootReadEnd image => decide (image.length ≤ maxImage)
  | .receiverStart _ => true
  | .joiningQuietExpiry _ => true
  | .frmPulse _ => true
  | .fieldStart chk => chk.wf
  | .tallyPulseEnd => true
  | .holdbackExpiry => true
  | .statusCountdownExpiry => true
  | .refLossExpiry => true
  | .pixel _ _ _ => true
  | .lineEnd => true
  | .receiveError _ => true
  | .gapExpiry _ => true
  | .messageAccepted _ => true
  | .position => true
  | .mhTake => true
  | .unknownKind => true
  | .sceneSet chk => chk.wf
  | .gradeSet chk => chk.wf
  | .sceneMove chk => chk.wf
  | .sceneDelete chk => chk.wf
  | .rangeTrim => true
  | .trimStep chk => chk.wf
  | .listClear chk => chk.wf
  | .queryStatus => true
  | .queryScene chk => chk.wf
  | .queryPunch => true
  | .queryFetch => true
  | .queryCapture => true
  | .clear => true
  | .setMode => true
  | .resetSoft => true
  | .resetList => true
  | .punchArm => true
  | .punchAbort => true
  | .partnerCheck chk => chk.wf
  | .fetchFrom => true
  | .listQuery => true
  | .responderStep chk => chk.wf
  | .listRec => true
  | .merge chk => chk.wf
  | .listEnd => true
  | .gapTimerExpiry => true
  | .resolutionRead chk => chk.wf
  | .fillingComplete => true
  | .attemptStart _ => true
  | .attemptComplete => true
  | .collision => true
  | .characterTaken _ => true
  | .lineStartBit => true
  | .stoppedCharacterEnd => true

end Sys2Proof
end

