-- ==== Sys2Proof/Tests/Slice0.lean ====
section
/-! SUPPORT. The model's own tests: the form of steps (WellFormed), the worked examples of the manual one step at a time,
and a witness for the hypotheses of every statement. Every expected value is the manual's, or worked by hand from its
rules; CRC values were worked by a separate program from R97's parameters. -/

set_option maxRecDepth 20000

namespace Sys2Proof.Tests

open Sys2Proof Sys2Proof.Machine

/-! ## Well-formed steps -/

theorem test_wf_clean : (Instr.fieldStart Checks.clean).wf = true := by decide

/-- A syndrome is 1 to 255 (R168). -/
theorem test_wf_syndrome_zero : (Instr.sceneSet ⟨[(100, [⟨true, 0⟩])], []⟩).wf = false := by decide

/-- A body is named by a frame of the reel (R19). -/
theorem test_wf_body_frame : (Instr.sceneSet ⟨[(1048576, [⟨true, 1⟩])], []⟩).wf = false := by decide

theorem test_wf_body_last_frame : (Instr.sceneSet ⟨[(1048575, [⟨true, 1⟩])], []⟩).wf = true := by decide

/-- A body is named once. -/
theorem test_wf_body_twice : (Instr.merge ⟨[(100, []), (100, [])], []⟩).wf = false := by decide

/-- An index entry is named by a frame of the reel (R19). -/
theorem test_wf_parity_frame : (Instr.queryScene ⟨[], [1048576]⟩).wf = false := by decide

/-- The loader reads no more than a length field can name (R198). -/
theorem test_wf_image (image : List Byte) (h : image.length = 65542) : (Instr.bootReadEnd image).wf = false := by
  simp [Instr.wf, maxImage, h]

/-! ## Small states -/

/-- What a step leaves. -/
def after (a : Answers) : State :=
  match a with
  | .next s => s
  | .fault _ => State.reset
  | .refused _ => State.reset

/-- The part RUNNING at station 5 with the default configuration, an empty list, and the receiver on. -/
def base : State :=
  { State.reset with
    part := .running, address := 5, cue.receiverOn := true, cue.idle := ⟨true, 0⟩, pcu.refTimerRunning := true }

/-- A message for the part from panel 13. -/
def message (k : MsgKind) (p : List Byte) : Message := ⟨5, .individual, 13, k.code, p⟩

/-- The handler holds a message to carry out at once. -/
def carrying (k : MsgKind) (p : List Byte) (s : State) : State :=
  { s with handler.state := .executing (message k p) .carry }

/-- The handler holds the store with a message. -/
def atTheStore (k : MsgKind) (p : List Byte) (s : State) : State :=
  { s with handler.state := .executing (message k p) .store, arbiter.holder := some .handler }

/-- A grade with a gain and a lift of red, else unity (R19). -/
def gradeOf (gain lift : Int) : Grade := { Grade.unity with gain := ⟨gain, 1024, 1024⟩, lift := ⟨lift, 0, 0⟩ }

/-- A graded entry on preset 0. -/
def graded (start revision len : Nat) (gain lift : Int) : Entry :=
  ⟨start, revision, 0, false, false, ⟨0, len, false, some (gradeOf gain lift)⟩⟩

/-- An ungraded entry. -/
def ungraded (start revision : Nat) : Entry := ⟨start, revision, 0, false, false, ⟨0, 0, false, none⟩⟩

/-- An entry whose grade has a knot list of `n` knots. -/
def knotted (start revision n : Nat) : Entry :=
  ⟨start, revision, n, false, false,
    ⟨0, 0, false, some { Grade.unity with curve := .knots ((List.range n).map (fun i => ⟨i, i⟩)) }⟩⟩

/-- A list of entries with the knots they leave. -/
def withList (es : List Entry) (s : State) : State :=
  { s with store := ⟨es, 2048 - (es.map Entry.knotCount).sum, false, 0⟩ }

/-- The starts, revisions and knots of a list, as the manual's example tables show it. -/
def listed (s : State) : List (Nat × Nat × Nat) := s.store.index.map (fun e => (e.start, e.revision, e.knotCount))

/-- A fault-free character with mark 0 (R93). -/
def char (b : Byte) : RxChar := ⟨b, false, parityOf b false, true⟩

/-- A fault-free character with mark 1 (R93). -/
def destination (b : Byte) : RxChar := ⟨b, true, parityOf b true, true⟩

/-! ## Formats: the manual's worked record (11_message_and_record_formats.md, "one SCENE_SET on the line") -/

/-- The 38 bytes of the SCENE_SET. -/
def sceneSetBytes : List Byte :=
  [0x00, 0x05, 0xDC, 0x00, 0x2A, 0x00, 0x04, 0x02, 0x00, 0x64, 0x00, 0x64, 0x00, 0x64, 0x04, 0x00, 0x04, 0x00, 0x04,
   0x00, 0xFF, 0xF8, 0xFF, 0xF8, 0xFF, 0xF8, 0x04, 0x00, 0x83, 0x00, 0x00, 0x00, 0x40, 0x02, 0x58, 0x7F, 0xFB, 0xFF]

/-- The record of the example. -/
def exampleRecord : Record :=
  ⟨1500, 42, 0, 4, false, false, some ⟨⟨100, 100, 100⟩, ⟨1024, 1024, 1024⟩, ⟨-8, -8, -8⟩, 1024,
    .knots [⟨0, 0⟩, ⟨2048, 600⟩, ⟨4095, 1023⟩]⟩⟩

theorem test_record_reads : recordAt sceneSetBytes 0 = exampleRecord := by decide

theorem test_record_lays_out : exampleRecord.bytes = sceneSetBytes := by decide

theorem test_record_length : requiredLength .sceneSet sceneSetBytes = 38 := by decide

/-- The check value of the CRC of R97 (generator 0x1021, register 0xFFFF) over the characters of "123456789". -/
theorem test_crc_check : crc [0x31, 0x32, 0x33, 0x34, 0x35, 0x36, 0x37, 0x38, 0x39] = 0x29B1 := by decide

/-- The first data bits of the characters that collide in the manual's example: 0x05 sends 1 0 1 0, 0x0B sends 1 1 0 1
(R93). -/
theorem test_character_bits :
    (charBits 0x05 true).take 5 = [false, true, false, true, false]
      ∧ (charBits 0x0B true).take 5 = [false, true, true, false, true] := by decide

/-! ## Start-up -/

theorem test_powerOnReset :
    (after (exec .powerOnReset (withList [graded 100 4 0 1000 0] base))).part = .reset
      ∧ (after (exec .powerOnReset (withList [graded 100 4 0 1000 0] base))).store = ⟨[], 2048, false, 0⟩ := by decide

theorem test_leaveReset :
    (after (exec (.leaveReset 5) State.reset)).part = .loading ∧ (after (exec (.leaveReset 5) State.reset)).address = 5
      ∧ (after (exec (.leaveReset 5) State.reset)).pcu.refTimerRunning = true := by decide

/-- The part in LOADING at station 5. -/
def loading : State := { State.reset with part := .loading, address := 5, pcu.refTimerRunning := true }

/-- A boot image laid out by R198: group 3, 1 Mbit/s, FULL, partner 7, report address 0xFF, interval 4, auto-fetch at
start (the manual's start-up example). -/
def bootImage : List Byte :=
  [0x47, 0x33, 0x00, 0x68] ++ [0x00, 0x00, 0x00, 0x00, 0x00, 0x00, 0x00, 0x08] ++ [0x01, 0xFF, 0x07, 0xFF, 0xFF, 0x02, 0x01, 0x01]
    ++ [0x00, 0x00, 0x00, 0x00, 0x00, 0x00] ++ [0x04, 0x00, 0x04, 0x00, 0x04, 0x00] ++ [0x00, 0x00, 0x00, 0x00, 0x00, 0x00]
    ++ [0x04, 0x00, 0x00] ++ [0x00, 0x00, 0x00, 0x60] ++ [0x04, 0x02, 0x01, 0x04, 0x01, 0x00, 0x01]
    ++ (List.replicate 8 [0x02, 0x00, 0x00, 0x00, 0x7F, 0xFB, 0xFF]).flatten ++ [0x8B, 0x45]

theorem test_bootReadEnd :
    (after (exec (.bootReadEnd bootImage) loading)).part = .joining
      ∧ (after (exec (.bootReadEnd bootImage) loading)).configSource = .boot
      ∧ (after (exec (.bootReadEnd bootImage) loading)).config.groups = 8
      ∧ (after (exec (.bootReadEnd bootImage) loading)).config.partner = some 7
      ∧ (after (exec (.bootReadEnd bootImage) loading)).config.bitRate = .mbit1
      ∧ (after (exec (.bootReadEnd bootImage) loading)).events.statusCountdown = 64 := by decide +kernel

/-- The CRC fails: the defaults (R182). -/
theorem test_bootReadEnd_crc :
    (after (exec (.bootReadEnd (bootImage.dropLast ++ [0x46])) loading)).configSource = .defaults
      ∧ (after (exec (.bootReadEnd (bootImage.dropLast ++ [0x46])) loading)).config.legalRange = .narrow := by decide +kernel

/-- The part in JOINING at 500 kbit/s with partner 7 and auto-fetch at start. -/
def joining : State :=
  { base with
    part := .joining, cue.receiverOn := false, config.partner := some 7, config.autoFetchStart := true }

theorem test_receiverStart :
    (after (exec (.receiverStart 12) joining)).cue.receiverOn = true
      ∧ (after (exec (.receiverStart 11) joining)).cue.receiverOn = false := by decide

theorem test_joiningQuietExpiry :
    (after (exec (.joiningQuietExpiry 10000) joining)).part = .running
      ∧ (after (exec (.joiningQuietExpiry 9999) joining)).part = .joining
      ∧ (after (exec (.joiningQuietExpiry 10000) joining)).cue.txq = [⟨7, .listQuery 1 0 1048575⟩] := by decide

/-! ## Film position and cadence (the examples of 01_film_position_and_field_cadence.md) -/

/-- After pulse 40: frame 7,199 at phase 1, LOCKED, PLACED, three fields. -/
def filming : State :=
  { base with
    pcu.gateFrame := 7199, pcu.positionState := .placed, pcu.pulseSeq := 40, pcu.speedClass := .sound,
    pcu.cadenceState := .locked, pcu.cadencePhase := some 1, pcu.fieldsInFrame := 3 }

theorem test_frmPulse :
    (after (exec (.frmPulse true) filming)).pcu.pulseSeq = 41 ∧ (after (exec (.frmPulse true) filming)).pcu.gateFrame = 7200
      ∧ (after (exec (.frmPulse true) filming)).pcu.cadencePhase = some 2
      ∧ (after (exec (.frmPulse true) filming)).pcu.cadenceState = .locked := by decide

/-- One field too many in frame 502: BROKEN, and the phase moves on. -/
theorem test_frmPulse_breaks :
    (after (exec (.frmPulse true) { filming with pcu.gateFrame := 502, pcu.cadencePhase := some 2 })).pcu.cadenceState = .broken
      ∧ (after (exec (.frmPulse true) { filming with pcu.gateFrame := 502, pcu.cadencePhase := some 2 })).pcu.cadencePhase
          = some 3
      ∧ (after (exec (.frmPulse true) { filming with pcu.gateFrame := 502, pcu.cadencePhase := some 2 })).pcu.breaks = 1 := by
  decide

/-- A POSITION of the transport for a frame, a sequence number, SOUND and a phase. -/
def positionMessage (frameLow seq phase : Byte) : Message :=
  ⟨5, .individual, 1, 0x10, [0x00, 0x1C, frameLow, seq, 2, phase]⟩

/-- Two pulses late, frame 7,200 seq 41 phase 2 after pulse 43: projected to 7,202, confirmed. -/
theorem test_position_late :
    (after (exec .position { filming with
      pcu.gateFrame := 7202, pcu.pulseSeq := 43, pcu.cadencePhase := some 0,
      cue.handover := [positionMessage 0x20 41 2] })).pcu
      = { filming.pcu with gateFrame := 7202, pulseSeq := 43, cadencePhase := some 0 } := by decide

/-- Disagreeing, frame 7,210 after pulse 41: adopted, SUSPECT, one slip. -/
theorem test_position_slips :
    (after (exec .position { filming with
      pcu.gateFrame := 7200, pcu.pulseSeq := 41, cue.handover := [positionMessage 0x2A 41 2] })).pcu.gateFrame = 7210
      ∧ (after (exec .position { filming with
        pcu.gateFrame := 7200, pcu.pulseSeq := 41, cue.handover := [positionMessage 0x2A 41 2] })).pcu.positionState = .suspect
      ∧ (after (exec .position { filming with
        pcu.gateFrame := 7200, pcu.pulseSeq := 41, cue.handover := [positionMessage 0x2A 41 2] })).pcu.slips = 1 := by decide

theorem test_refLossExpiry :
    (after (exec .refLossExpiry base)).pcu.lossInProgress = true ∧ (after (exec .refLossExpiry base)).events.flags = 8 := by
  decide

/-! ## Field starts and the expiries that fall at one -/

/-- A bank for a scene at frames 1,200 to 1,299. -/
def bank1202 : Bank :=
  { Pipeline.reset.active with
    resolvedFrame := 1202, w := 153, scene := ⟨some 1200, 7, 2, false, false, 1200, 1299⟩ }

/-- "A clip count across a field boundary": the count closes at the field start and the READY bank is swapped in. -/
theorem test_fieldStart_closes_clip :
    (after (exec (.fieldStart Checks.clean)
      { base with pipeline.clipInProgress := 4311, pipeline.pendingBank := .ready bank1202 })).pipeline.clipLast = 4311
      ∧ (after (exec (.fieldStart Checks.clean)
        { base with pipeline.clipInProgress := 4311, pipeline.pendingBank := .ready bank1202 })).pipeline.clipInProgress = 0
      ∧ (after (exec (.fieldStart Checks.clean)
        { base with pipeline.clipInProgress := 4311, pipeline.pendingBank := .ready bank1202 })).pipeline.active = bank1202 := by
  decide

/-- Field 5,000 of "an aligned punch over an omitted scene": frame 2,001 at phase 0 fires the punch armed for 2,000. -/
def armed : State :=
  { filming with
    pcu.gateFrame := 2001, pcu.cadencePhase := some 0, pcu.fieldsInFrame := 0, pcu.fieldCount := 4999,
    gate.punch := ⟨2000, 2007, true, .armed, 0, 0, false, false⟩, gate.target := some 2001, gate.lastEval := some 2000,
    pipeline.active := { bank1202 with resolvedFrame := 2001, scene := ⟨some 1900, 0, 1, false, false, 1900, 2003⟩ } }

theorem test_fieldStart_fires :
    (after (exec (.fieldStart Checks.clean) armed)).gate.punch = ⟨2000, 2007, true, .recording, 5000, 0, true, false⟩
      ∧ (after (exec (.fieldStart Checks.clean) armed)).gate.gate = true
      ∧ (after (exec (.fieldStart Checks.clean) armed)).gate.amark = true := by decide

/-- An aligned target above out_frame: the punch cannot fire there (R157). -/
theorem test_fieldStart_target_above_out :
    (after (exec (.fieldStart Checks.clean) { armed with
      gate.punch.outFrame := 2000, gate.lastEval := none })).gate.punch.state = .armed
      ∧ (after (exec (.fieldStart Checks.clean) { armed with
        gate.punch.outFrame := 2000, gate.lastEval := none })).gate.gate = false := by decide

/-- Frame 1,990 at phase 1: the target of that arm is 2,001 (R157). -/
theorem test_punchTarget :
    punchTarget { armed with
      pcu.snapshot := { Snapshot.reset with gateFrame := 1990, cadencePhase := some 1, cadenceState := .locked } }
      = some 2001 := by decide

/-- The entry of scene 800 with one field of hold-back left ("hold-back while the film rocks", field 5). -/
def entry800 : SceneEntry := ⟨802, some 800, 0, 1, 3⟩

/-- With a countdown of 2 no entry is handed over, and nothing happens (R65). -/
theorem test_holdbackExpiry :
    (after (exec .holdbackExpiry
      { base with config.report := some 2, resolver.slot := some entry800, resolver.countdown := 1 })).cue.txq
      = [⟨2, .sceneEntered entry800⟩]
      ∧ (after (exec .holdbackExpiry
        { base with config.report := some 2, resolver.slot := some entry800, resolver.countdown := 2 })).resolver.countdown
        = 2 := by decide

/-- Field 5,011 of "an aligned punch over an omitted scene": the pulse of the entry at 5,007 ends. With a countdown of 2
no pulse ends, and nothing happens (R164). -/
theorem test_tallyPulseEnd :
    (after (exec .tallyPulseEnd
      { base with pcu.fieldCount := 5010, gate.tally := true, gate.tallyCountdown := 1 })).gate.tally = false
      ∧ (after (exec .tallyPulseEnd
        { base with pcu.fieldCount := 5010, gate.tally := true, gate.tallyCountdown := 1 })).pcu.snapshot.fieldCount = 5011
      ∧ (after (exec .tallyPulseEnd { base with gate.tally := true, gate.tallyCountdown := 2 })).gate
        = { base.gate with tally := true, tallyCountdown := 2 } := by
  decide

/-- The countdown is reloaded at a field start, which is counted (R178). -/
theorem test_statusCountdownExpiry :
    (after (exec .statusCountdownExpiry
      { base with
        config.statusInterval := 4, config.report := some 2, events.statusEnable := true,
        events.statusCountdown := 1 })).events.statusCountdown = 64
      ∧ (after (exec .statusCountdownExpiry
        { base with
          config.statusInterval := 4, config.report := some 2, events.statusEnable := true,
          events.statusCountdown := 1 })).pcu.fieldCount = 1 := by decide

/-- A scrub step finds one wrong bit ("errors on a running reel"): corrected, captured, reported, cursor 640. -/
theorem test_scrub_corrects :
    (after (exec (.fieldStart ⟨[(600, [⟨false, 0x2C⟩])], []⟩)
      (withList [ungraded 600 1, ungraded 640 1, ungraded 700 1] base))).events.capture
      = ⟨.holding ⟨.corrected, .scrub, 600, 0x2C⟩, false⟩
      ∧ (after (exec (.fieldStart ⟨[(600, [⟨false, 0x2C⟩])], []⟩)
        (withList [ungraded 600 1, ungraded 640 1, ungraded 700 1] base))).store.scrubCursor = 640 := by decide

/-! ## The picture (the examples of 04_the_correction_pipeline.md) -/

/-- GRADING with a grade, NARROW. -/
def grading (black gain lift : Rgb) (sat : Int) : State :=
  { base with
    pipeline.outputMode := .grading,
    pipeline.active := { Pipeline.reset.active with black := black, gain := gain, lift := lift, sat := sat } }

/-- "An ordinary pixel": (2,100, 1,800, 1,500) leaves as (564, 421, 306), nothing clamped. -/
theorem test_pixel_ordinary :
    (after (exec (.pixel 2100 1800 1500)
      (grading ⟨100, 100, 100⟩ ⟨1100, 1024, 980⟩ ⟨10, 0, -8⟩ 1200))).pipeline.port = [.pixel 564 421 306]
      ∧ (after (exec (.pixel 2100 1800 1500)
        (grading ⟨100, 100, 100⟩ ⟨1100, 1024, 980⟩ ⟨10, 0, -8⟩ 1200))).pipeline.clipInProgress = 0 := by decide

/-- "Saturation at its ends": (1,023, 0, 0) after lift at sat 2,047 leaves as (940, 64, 64), three clamps counted. -/
theorem test_pixel_saturated :
    (after (exec (.pixel 4095 0 0) (grading ⟨0, 0, 0⟩ ⟨1024, 1024, 1024⟩ ⟨0, 0, 0⟩ 2047))).pipeline.port
      = [.pixel 940 64 64]
      ∧ (after (exec (.pixel 4095 0 0)
        (grading ⟨0, 0, 0⟩ ⟨1024, 1024, 1024⟩ ⟨0, 0, 0⟩ 2047))).pipeline.clipInProgress = 3 := by decide

/-- "A falling curve segment". -/
theorem test_curve_falls :
    [1000, 1001, 1500, 1999, 2000, 4095].map (evalKnots [⟨0, 900⟩, ⟨1000, 800⟩, ⟨2000, 200⟩, ⟨4095, 150⟩])
      = [800, 799, 500, 201, 200, 150] := by decide

/-- "Mixing two curves": 537 and 621 at w 102 give 570. -/
theorem test_curve_mixes :
    stageCurve Config.default
      { Pipeline.reset.active with
        w := 102, toCurve := .knots [⟨0, 0⟩, ⟨2048, 600⟩, ⟨4095, 1023⟩], fromCurve := some (.preset 0) } 2148 = 570 := by
  decide

theorem test_lineEnd : (after (exec .lineEnd { base with pipeline.lineOpen := true })).pipeline.lineOpen = false := by
  decide

/-! ## The cue line (the examples of 05_the_cue_line.md) -/

/-- The receiver assembles these characters of an individually addressed message. -/
def assembling (cs : List Byte) : State :=
  { base with cue.rx := .assembling ⟨.individual, cs, false⟩, pcu.snapshot.fieldCount := 40210 }

/-- A frame of 12 payload characters whose CRC does not check: CRC, LOCKED with four header characters and 40,210. -/
def shortFrame : List Byte := [0x05, 0x0D, 0x20, 0x0C] ++ List.replicate 12 0x00 ++ [0x12]

theorem test_receiveError_crc :
    (after (exec (.receiveError (char 0x34)) (assembling shortFrame))).cue.capture
      = ⟨some ⟨.crc, [0x05, 0x0D, 0x20, 0x0C], 40210⟩, false⟩
      ∧ (after (exec (.receiveError (char 0x34)) (assembling shortFrame))).cue.kindFlags = 8
      ∧ (after (exec (.receiveError (char 0x34)) (assembling shortFrame))).cue.rx = .discarding := by decide

/-- 14 bit times of silence after source and kind: GAP. 12 are none (R99). -/
theorem test_gapExpiry :
    (after (exec (.gapExpiry 14) (assembling [0xFF, 0x0D, 0x20]))).cue.kindFlags = 32
      ∧ (after (exec (.gapExpiry 12) (assembling [0xFF, 0x0D, 0x20]))).cue.kindFlags = 0 := by decide

/-- The last CRC character of the manual's SCENE_SET (CRC 0xBEB5 over source 13, kind, length 38 and payload). -/
theorem test_messageAccepted :
    (after (exec (.messageAccepted (char 0xB5))
      (assembling ([0x05, 0x0D, 0x20, 0x26] ++ sceneSetBytes ++ [0xBE])))).cue.inbound
      = [⟨5, .individual, 13, 0x20, sceneSetBytes⟩] := by decide

/-- Group 0 not in the map: DISCARDING; broadcast accepted: ASSEMBLING. -/
theorem test_characterTaken :
    (after (exec (.characterTaken (destination 0x40)) base)).cue.rx = .discarding
      ∧ (after (exec (.characterTaken (destination 0xFF)) base)).cue.rx = .assembling ⟨.broadcast, [0xFF], false⟩ := by decide

/-- A character that breaks off a message is BREAK, and begins its own (R94, R98). -/
theorem test_receiveError_break :
    (after (exec (.receiveError (destination 0x05)) (assembling [0x05, 0x0D]))).cue.kindFlags = 16
      ∧ (after (exec (.receiveError (destination 0x05)) (assembling [0x05, 0x0D]))).cue.rx
          = .assembling ⟨.individual, [0x05], false⟩ := by decide

/-- "Three stations and one collision": the part, station 5, starts after 34 bit times. -/
theorem test_attemptStart :
    (after (exec (.attemptStart 34) { base with cue.txq := [⟨11, .listQuery 1 0 1048575⟩] })).cue.tx
      = .sending ⟨11, .listQuery 1 0 1048575⟩ 0
      ∧ (after (exec (.attemptStart 33) { base with cue.txq := [⟨11, .listQuery 1 0 1048575⟩] })).cue.tx = .empty := by decide

/-- After one failed attempt the wait is 50. -/
theorem test_attemptStart_backs_off :
    (after (exec (.attemptStart 50) { base with cue.tx := .waiting ⟨11, .listQuery 1 0 1048575⟩ 1 })).cue.tx
      = .sending ⟨11, .listQuery 1 0 1048575⟩ 1
      ∧ (after (exec (.attemptStart 49) { base with cue.tx := .waiting ⟨11, .listQuery 1 0 1048575⟩ 1 })).cue.tx
      = .waiting ⟨11, .listQuery 1 0 1048575⟩ 1 := by decide

theorem test_attemptComplete :
    (after (exec .attemptComplete { base with cue.tx := .sending ⟨11, .listQuery 1 0 1048575⟩ 0 })).cue.yieldMark = true := by
  decide

/-- The second failed attempt of the example, and the eighth of a message, which abandons it (R110). -/
theorem test_collision :
    (after (exec .collision { base with cue.tx := .sending ⟨11, .listQuery 1 0 1048575⟩ 1 })).cue.tx
      = .waiting ⟨11, .listQuery 1 0 1048575⟩ 2
      ∧ (after (exec .collision { base with cue.tx := .sending ⟨11, .listQuery 1 0 1048575⟩ 7 })).cue.txAbandons = 1 := by
  decide

/-- The recorder controller's start bit clears the part's yield mark. -/
theorem test_lineStartBit :
    (after (exec .lineStartBit { base with cue.yieldMark := true })).cue.yieldMark = false
      ∧ (after (exec .lineStartBit { base with cue.yieldMark := true })).cue.idle.running = false := by decide

theorem test_stoppedCharacterEnd :
    (after (exec .stoppedCharacterEnd { base with cue.tx := .stopping })).cue.tx = .empty := by decide

/-- "Coalescing in the transmit queue": SCENE_ENTERED for 803 takes the place of that for 800. -/
theorem test_coalescing :
    (handReport (.sceneEntered ⟨803, some 803, 0, 1, 5⟩) { base with
      config.report := some 2,
      cue.txq := [⟨13, .reply 0x20 .ok .plain⟩, ⟨2, .sceneEntered entry800⟩] }).cue.txq
      = [⟨13, .reply 0x20 .ok .plain⟩, ⟨2, .sceneEntered ⟨803, some 803, 0, 1, 5⟩⟩] := by decide

/-! ## The Message Handler -/

/-- The SCENE_SET of the manual is taken and granted the store; cut to 35 bytes it is ignored. -/
theorem test_mhTake :
    (after (exec .mhTake { base with cue.inbound := [message .sceneSet sceneSetBytes] })).handler.state
      = .executing (message .sceneSet sceneSetBytes) .store
      ∧ (after (exec .mhTake { base with cue.inbound := [message .sceneSet sceneSetBytes] })).arbiter.holder = some .handler
      ∧ (after (exec .mhTake { base with cue.inbound := [message .sceneSet (sceneSetBytes.take 35)] })).handler.ignored = 1 := by
  decide

/-- A QUERY STATUS to a group is taken and not carried out: ignored goes from 120 to 121 ("a panel and a group"). -/
theorem test_mhTake_group_query :
    (after (exec .mhTake { base with
      handler.ignored := 120, cue.inbound := [⟨0x43, .group, 14, 0x30, [0]⟩] })).handler.ignored = 121 := by decide

/-- A kind the part does not know is answered UNKNOWN_KIND (R116). -/
theorem test_unknownKind :
    (after (exec .unknownKind { base with
      handler.state := .executing ⟨5, .individual, 13, 0x2F, []⟩ .carry })).cue.txq
      = [⟨13, .reply 0x2F .unknownKind .plain⟩] := by decide

/-! ## Edits: "a run of edits" (02_the_scene_list.md) -/

/-- A SCENE_SET of an ungraded record. -/
def setUngraded (high low : Byte) : List Byte := [0x00, high, low, 0, 0, 0, 0, 0]

/-- The payload of a SCENE_SET 1,500 with 9 knots. -/
def setNineKnots : List Byte :=
  [0x00, 0x05, 0xDC, 0, 0, 0, 0, 2] ++ List.replicate 18 0 ++ [0x04, 0x00, 0x89]
    ++ ((List.range 9).map (fun i => [0x00, BitVec.ofNat 8 (8 * i), 0x00])).flatten

/-- SCENE_SET 1,350, ungraded, is inserted between. -/
theorem test_sceneSet_inserts :
    listed (after (exec (.sceneSet Checks.clean)
      (atTheStore .sceneSet (setUngraded 0x05 0x46) (withList [ungraded 1200 1, knotted 1500 1 5] base))))
      = [(1200, 1, 0), (1350, 1, 0), (1500, 1, 5)] := by decide

/-- SCENE_SET 1,500 with 9 knots replaces: 2,040 + 5 - 9 = 2,036 free. -/
theorem test_sceneSet_replaces :
    listed (after (exec (.sceneSet Checks.clean)
      (atTheStore .sceneSet setNineKnots (withList [ungraded 1200 1, knotted 1350 2 3, knotted 1500 1 5] base))))
      = [(1200, 1, 0), (1350, 2, 3), (1500, 2, 9)]
      ∧ (after (exec (.sceneSet Checks.clean)
        (atTheStore .sceneSet setNineKnots
          (withList [ungraded 1200 1, knotted 1350 2 3, knotted 1500 1 5] base)))).store.freeKnots = 2036 := by decide

/-- A GRADE_SET of three knots at the frame of these two bytes. -/
def gradeThreeKnots (high low : Byte) : List Byte :=
  [0x00, high, low, 2] ++ List.replicate 18 0 ++ [0x04, 0x00, 0x83] ++ [0, 0, 0, 0x40, 2, 0x58, 0x7F, 0xFB, 0xFF]

/-- GRADE_SET 1,350 with 3 knots: revision 2, 2,040 free; GRADE_SET 1,250 finds no record. -/
theorem test_gradeSet :
    listed (after (exec (.gradeSet Checks.clean)
      (atTheStore .gradeSet (gradeThreeKnots 0x05 0x46) (withList [ungraded 1350 1, knotted 1500 1 5] base))))
      = [(1350, 2, 3), (1500, 1, 5)]
      ∧ (after (exec (.gradeSet Checks.clean)
        (atTheStore .gradeSet (gradeThreeKnots 0x04 0xE2) (withList [ungraded 1350 1, knotted 1500 1 5] base)))).cue.txq
        = [⟨13, .reply 0x21 .noScene (.edit 1250 0 0)⟩] := by decide

/-- SCENE_MOVE 1,350 to 1,500 is DUPLICATE; to 1,600 it is carried out. -/
theorem test_sceneMove :
    (after (exec (.sceneMove Checks.clean)
      (atTheStore .sceneMove [0x00, 0x05, 0x46, 0x00, 0x05, 0xDC]
        (withList [knotted 1350 2 3, knotted 1500 2 9] base)))).cue.txq
      = [⟨13, .reply 0x22 .duplicate (.edit 1500 0 0)⟩]
      ∧ listed (after (exec (.sceneMove Checks.clean)
        (atTheStore .sceneMove [0x00, 0x05, 0x46, 0x00, 0x06, 0x40]
          (withList [knotted 1350 2 3, knotted 1500 2 9] base))))
      = [(1500, 2, 9), (1600, 3, 3)] := by decide

/-- SCENE_DELETE 1,200; after it frame 1,499 is of no scene and 1,550 of 1,500. -/
theorem test_sceneDelete :
    listed (after (exec (.sceneDelete Checks.clean)
      (atTheStore .sceneDelete [0x00, 0x04, 0xB0] (withList [ungraded 1200 1, knotted 1500 2 9, knotted 1600 3 3] base))))
      = [(1500, 2, 9), (1600, 3, 3)]
      ∧ governing 1499 [knotted 1500 2 9, knotted 1600 3 3] = none
      ∧ governing 1550 [knotted 1500 2 9, knotted 1600 3 3] = some (knotted 1500 2 9) := by decide

/-- A RANGE_TRIM of 100 to 350 with a gain R delta of +10 ("a trim while the film runs"). -/
def trimBytes : List Byte :=
  [0x00, 0x00, 0x64, 0x00, 0x01, 0x5E] ++ List.replicate 6 0 ++ [0x00, 0x0A] ++ List.replicate 12 0

theorem test_rangeTrim :
    (after (exec .rangeTrim (atTheStore .rangeTrim trimBytes base))).handler.state
      = .executing (message .rangeTrim trimBytes) (.walk ⟨none, 0⟩) := by decide

/-- The list of the example. -/
def trimList : List Entry := [graded 100 4 0 1000 0, ungraded 200 2, graded 300 7 0 4090 0, graded 400 1 0 1024 0]

/-- A walk in hand at the store. -/
def walking (w : Walk) (s : State) : State :=
  { s with handler.state := .executing (message .rangeTrim trimBytes) (.walk w), arbiter.holder := some .handler }

/-- Step 1 trims record 100 to 1,010 and revision 5; step 3 clamps 300 at 4,095, revision 8. -/
theorem test_trimStep :
    (after (exec (.trimStep Checks.clean) (walking ⟨none, 0⟩ (withList trimList base)))).store.index
      = [graded 100 5 0 1010 0, ungraded 200 2, graded 300 7 0 4090 0, graded 400 1 0 1024 0]
      ∧ (after (exec (.trimStep Checks.clean) (walking ⟨some 200, 1⟩ (withList trimList base)))).store.index
      = [graded 100 4 0 1000 0, ungraded 200 2, graded 300 8 0 4095 0, graded 400 1 0 1024 0] := by decide

/-- Between two steps the store is free (R37): step 1 leaves it so, and the next TRIM_STEP asks and is granted at once, or
waits while the resolver holds it ("a trim while the film runs"). -/
theorem test_trimStep_frees_the_store :
    (after (exec (.trimStep Checks.clean) (walking ⟨some 100, 1⟩ (withList trimList base)))).arbiter.holder = none
      ∧ listed (after (exec (.trimStep Checks.clean)
        { walking ⟨some 200, 1⟩ (withList trimList base) with arbiter.holder := none }))
        = [(100, 4, 0), (200, 2, 0), (300, 8, 0), (400, 1, 0)]
      ∧ (after (exec (.trimStep Checks.clean)
        { walking ⟨some 200, 1⟩ (withList trimList base) with arbiter.holder := some .resolver })).arbiter
        = ⟨some .resolver, false, true, false⟩ := by decide

/-- "An index fault during a trim": entry 200 is found faulty, 300 is still trimmed, and the walk ends STORE_FROZEN with
count 2. -/
theorem test_trimStep_index_fault :
    (after (exec (.trimStep ⟨[], [200]⟩) (walking ⟨some 100, 1⟩ (withList trimList base)))).store.index
      = [graded 100 4 0 1000 0, { ungraded 200 2 with faulty := true }, graded 300 8 0 4095 0, graded 400 1 0 1024 0]
      ∧ (after (exec (.trimStep ⟨[], [200]⟩) (walking ⟨some 100, 1⟩ (withList trimList base)))).cue.txq
      = [⟨13, .reply 0x24 .storeFrozen (.edit 100 0 2)⟩] := by decide

/-- A LIST_CLEAR of 200 to 300 deletes two records; a full-range one empties the list and unfreezes it (R38, R39). -/
theorem test_listClear :
    listed (after (exec (.listClear Checks.clean)
      (atTheStore .listClear [0x00, 0x00, 0xC8, 0x00, 0x01, 0x2C] (withList trimList base))))
      = [(100, 4, 0), (400, 1, 0)]
      ∧ (after (exec (.listClear Checks.clean)
        (atTheStore .listClear [0x00, 0x00, 0x00, 0x0F, 0xFF, 0xFF]
          { withList [knotted 100 1 5] base with store.frozen := true }))).store = ⟨[], 2048, false, 0⟩ := by decide

/-! ## Queries and settings -/

theorem test_queryStatus :
    (after (exec .queryStatus (carrying .query [0] (withList trimList base)))).cue.txq.map (fun m => m.content.payload.take 6)
      = [[0x30, 0, 0, 3, 1, 5]] := by decide

/-- Frame 2,050 is governed by 2,000. -/
theorem test_queryScene :
    (after (exec (.queryScene Checks.clean) (atTheStore .query [1, 0x00, 0x08, 0x02] (withList [ungraded 2000 4] base)))).cue.txq
      = [⟨13, .reply 0x30 .ok (.query 1 (.scene ⟨2000, 0, 4, 0, false, false, none⟩))⟩] := by decide

theorem test_queryPunch :
    (after (exec .queryPunch (carrying .query [2] { base with gate.punch.unread := true }))).gate.punch.unread = false := by
  decide

theorem test_queryFetch :
    (after (exec .queryFetch (carrying .query [3] base))).cue.txq
      = [⟨13, .reply 0x30 .ok (.query 3 (.fetch Requester.reset))⟩] := by decide

/-- The answer to QUERY CAPTURE is 24 bytes after the topic (R195). -/
theorem test_queryCapture :
    (after (exec .queryCapture (carrying .query [4] base))).cue.txq.map (fun m => m.content.payload.length) = [27] := by decide

/-- The CLEAR of "errors and the capture record": LINE_ERROR and the line capture bit. -/
theorem test_clear :
    (after (exec .clear (carrying .clear [0x01, 0x00, 0x02] { base with
      events.flags := 0x101, cue.kindFlags := 40, cue.lineErrors := 2,
      cue.capture := ⟨some ⟨.crc, [5, 13, 32, 12], 40210⟩, true⟩ }))).events.flags = 1
      ∧ (after (exec .clear (carrying .clear [0x01, 0x00, 0x02] { base with
        events.flags := 0x101, cue.kindFlags := 40, cue.lineErrors := 2,
        cue.capture := ⟨some ⟨.crc, [5, 13, 32, 12], 40210⟩, true⟩ }))).cue
        = { base.cue with lineErrors := 2, txq := [⟨13, .reply 0x31 .ok .plain⟩] } := by decide

theorem test_setMode :
    (after (exec .setMode (carrying .setMode [2, 0x0F, 0xFF, 0, 0, 0] base))).resolver.mode = ⟨.split, 2047⟩
      ∧ (after (exec .setMode (carrying .setMode [3, 0, 0, 0, 0, 0] base))).resolver.mode = ⟨.off, 0⟩ := by decide

theorem test_resetSoft :
    (after (exec .resetSoft (carrying .reset [0] (withList trimList filming)))).pcu.gateFrame = 0
      ∧ (after (exec .resetSoft (carrying .reset [0] (withList trimList filming)))).store.index = trimList := by decide

/-- "A LIST reset behind an edit": the list and the inbound queue are emptied, and the REPLY is queued alone. -/
theorem test_resetList :
    (after (exec .resetList (atTheStore .reset [1] { withList [ungraded 4000 1] base with
      cue.inbound := [message .sceneDelete [0x00, 0x0F, 0xA0]] }))).store = ⟨[], 2048, false, 0⟩
      ∧ (after (exec .resetList (atTheStore .reset [1] { withList [ungraded 4000 1] base with
        cue.inbound := [message .sceneDelete [0x00, 0x0F, 0xA0]] }))).cue.inbound = []
      ∧ (after (exec .resetList (atTheStore .reset [1] (withList [ungraded 4000 1] base)))).cue.txq
        = [⟨13, .reply 0x33 .ok .plain⟩] := by decide

/-! ## The punch -/

/-- PUNCH_ARM (in 2,000, out 2,007, align yes): ARMED, the target none. -/
theorem test_punchArm :
    (after (exec .punchArm (carrying .punchArm [0x00, 0x07, 0xD0, 0x00, 0x07, 0xD7, 1] base))).gate
      = { base.gate with punch := ⟨2000, 2007, true, .armed, 0, 0, false, false⟩ } := by decide

theorem test_punchAbort :
    (after (exec .punchAbort (carrying .punchAbort [] armed))).gate.punch.state = .idle
      ∧ (after (exec .punchAbort (carrying .punchAbort []
        { armed with gate.punch.state := .recording, gate.gate := true }))).gate.gate = false := by decide

/-! ## The partner and the transfer (the examples of 06_station_messages.md and 07_scene_list_transfer.md) -/

/-- The part of "a partner mismatch": partner 7, auto-fetch on mismatch, records 3,000 and 3,120. -/
def partnered : State :=
  withList [ungraded 3000 1, ungraded 3120 1] { base with config.partner := some 7, config.autoFetchMismatch := true }

/-- A SCENE_ENTERED from station 7 for a frame and a start. -/
def sceneEnteredFrom7 (frame start : Byte × Byte) (s : State) : State :=
  { s with
    handler.state := .executing
      ⟨0xFF, .broadcast, 7, 0x60, [0x00, frame.1, frame.2, 0x00, start.1, start.2, 0, 0, 0, 0, 0, 0]⟩ .store,
    arbiter.holder := some .handler }

/-- Frame 3,101, start 3,100 differs from 3,000: a fetch of the full range from 7; frame and start 3,120 agree. -/
theorem test_partnerCheck :
    (after (exec (.partnerCheck Checks.clean) (sceneEnteredFrom7 (0x0C, 0x1D) (0x0C, 0x1C) partnered))).cue.txq
      = [⟨7, .listQuery 1 0 1048575⟩]
      ∧ (after (exec (.partnerCheck Checks.clean) (sceneEnteredFrom7 (0x0C, 0x30) (0x0C, 0x30) partnered))).cue.txq = [] := by
  decide

/-- FETCH_FROM (7, 0, 1,048,575) with the tag at 11: FETCHING, tag 12, LIST_QUERY to 7, then the REPLY. -/
theorem test_fetchFrom :
    (after (exec .fetchFrom (carrying .fetchFrom [7, 0, 0, 0, 0x0F, 0xFF, 0xFF] { base with requester.tag := 11 }))).cue.txq
      = [⟨7, .listQuery 12 0 1048575⟩, ⟨13, .reply 0x50 .ok .plain⟩]
      ∧ (after (exec .fetchFrom
        (carrying .fetchFrom [7, 0, 0, 0, 0x0F, 0xFF, 0xFF] { base with requester.tag := 11 }))).requester.tag = 12 := by
  decide

/-- B takes the LIST_QUERY: STREAMING to 5 with tag 12 and no cursor. -/
theorem test_listQuery :
    (after (exec .listQuery { base with
      address := 7,
      handler.state := .executing ⟨7, .individual, 5, 0x51, [12, 0, 0, 0, 0x0F, 0xFF, 0xFF]⟩ .carry })).responder.stream
      = ⟨5, 12, 0, 1048575, none, 0⟩ := by decide

/-- B's stream at the store with a place held. -/
def streaming (cursor : Option Nat) (sent : BitVec 16) (s : State) : State :=
  { s with
    arbiter.holder := some .responder, responder := ⟨true, ⟨5, 12, 0, 1048575, cursor, sent⟩, true, none⟩ }

/-- B's first step: LIST_REC 0 of record 100; with no record after 350: LIST_END, OK, total 4, IDLE. -/
theorem test_responderStep :
    (after (exec (.responderStep Checks.clean) (streaming none 0 (withList [ungraded 100 2, ungraded 200 5] base)))).cue.txq
      = [⟨5, .listRec 12 0 ⟨100, 0, 2, 0, false, false, none⟩⟩]
      ∧ (after (exec (.responderStep Checks.clean) (streaming (some 350) 4 (withList [ungraded 350 1] base)))).cue.txq
      = [⟨5, .listEnd 12 false 4⟩]
      ∧ (after (exec (.responderStep Checks.clean) (streaming (some 350) 4 (withList [ungraded 350 1] base)))).responder.streaming
      = false := by decide

/-- A's fetch from 7 with tag 12. -/
def fetching (received : Nat) (s : State) : State :=
  { s with requester := { Requester.reset with
    fetching := true, partner := some 7, tag := 12, last := 1048575, received := received,
    expected := BitVec.ofNat 16 received, gapTimer := true } }

/-- A LIST_REC from 7 of an ungraded record at 300, revision 4. -/
def listRecBytes (index revision : Byte) : List Byte := [12, 0, index, 0x00, 0x01, 0x2C, 0, 0, revision, 0, 0]

/-- A message from B, individually addressed. -/
def fromPartner (k : MsgKind) (p : List Byte) (phase : Phase) (s : State) : State :=
  { s with handler.state := .executing ⟨5, .individual, 7, k.code, p⟩ phase }

/-- In sequence it is counted received; index 3 against 2 ends the fetch with SEQUENCE ("a record lost on the line"). -/
theorem test_listRec :
    (after (exec .listRec (fromPartner .listRec (listRecBytes 2 4) .carry (fetching 2 base)))).requester.received = 3
      ∧ (after (exec .listRec (fromPartner .listRec (listRecBytes 3 4) .carry (fetching 2 base)))).requester.result = .sequence := by
  decide

/-- The merge of LIST_REC 300, revision 4. -/
def merging (es : List Entry) : State :=
  { fromPartner .listRec (listRecBytes 2 4) (.merging 12) (withList es (fetching 3 base)) with arbiter.holder := some .handler }

/-- 4 is greater than 1: replaced; 4 is not greater than 4: kept local. -/
theorem test_merge :
    listed (after (exec (.merge Checks.clean) (merging [ungraded 300 1]))) = [(300, 4, 0)]
      ∧ (after (exec (.merge Checks.clean) (merging [ungraded 300 1]))).requester.replaced = 1
      ∧ (after (exec (.merge Checks.clean) (merging [ungraded 300 4]))).requester.keptLocal = 1 := by decide

/-- Total 4 equals received 4: DONE; total 5 is COUNT. -/
theorem test_listEnd :
    (after (exec .listEnd (fromPartner .listEnd [12, 0, 0, 4] .carry (fetching 4 base)))).requester.result = .done
      ∧ (after (exec .listEnd (fromPartner .listEnd [12, 0, 0, 5] .carry (fetching 4 base)))).requester.result = .count := by
  decide

theorem test_gapTimerExpiry :
    (after (exec .gapTimerExpiry (fetching 2 base))).requester.result = .timeout
      ∧ (after (exec .gapTimerExpiry base)).requester.result = .noResult := by decide

/-! ## The run of a resolution: "a four-frame dissolve" (03_grade_resolution_and_transitions.md) -/

/-- The resolver holds the store for a frame. -/
def resolving (frame : Nat) (s : State) : State :=
  { s with
    arbiter.holder := some .resolver, resolver.inFlight := true, resolver.latch := some ⟨frame, ModeSetting.off⟩ }

/-- The list of the example. -/
def dissolveList : List Entry := [graded 1100 1 0 1024 10, graded 1200 1 4 1100 (-8), graded 1300 1 0 1024 0]

/-- The pending bank after the reading and the filling for a frame: its weight, gain R, lift R. -/
def dissolved (frame : Nat) : Option (Nat × Int × Int) :=
  match (after (exec .fillingComplete
    (after (exec (.resolutionRead Checks.clean) (resolving frame (withList dissolveList base)))))).pipeline.pendingBank with
  | .ready b => some (b.w, b.gain.r, b.lift.r)
  | .empty => none
  | .filling _ => none

theorem test_resolution_dissolves :
    [1199, 1200, 1201, 1202, 1203, 1204].map dissolved
      = [some (256, 1024, 10), some (51, 1039, 6), some (102, 1054, 3), some (153, 1069, -1), some (204, 1085, -4),
          some (256, 1100, -8)] := by decide

/-- A filling in progress with a rerun asked for. -/
def filling : State :=
  { base with
    pipeline.pendingBank := .filling ⟨0, ModeSetting.off, 256, Grade.unity, none, true, SceneDesc.none⟩,
    resolver.inFlight := true, resolver.rerun := true }

/-- A rerun asked for starts at once (R56, R58). -/
theorem test_fillingComplete_reruns : (after (exec .fillingComplete filling)).arbiter.holder = some .resolver := by decide

/-! ## Witnesses: for every statement with hypotheses, values that meet them together, clause by clause -/

/-- A running part with a list, film and a command waiting. -/
def rich : State := { withList (trimList ++ [knotted 500 1 5]) filming with pending := [.frmPulse true, .lineEnd] }

/-- A knot list at the limits of R27. -/
def limitKnots : List Knot := [⟨0, 0⟩, ⟨1, 1023⟩, ⟨4095, 0⟩]

theorem witness_StepRunsFrontCommand : rich.pending = .frmPulse true :: [.lineEnd] ∧ base.pending = [] := by decide

theorem witness_StoreKeepsItsForm : rich.store.ok ∧ ∃ t, step rich = .next t := ⟨by decide, _, rfl⟩

theorem witness_BlocksHoldBeforeJoining :
    ({ loading with pending := [.fieldStart Checks.clean] } : State).quietOk
      ∧ ∃ t, step { loading with pending := [.fieldStart Checks.clean] } = .next t := ⟨by decide, _, rfl⟩

theorem witness_CadenceStaysConsistent :
    rich.quietOk ∧ rich.pcu.ok rich.config.cadenceMode ∧ ∃ t, step rich = .next t := ⟨by decide, by decide, _, rfl⟩

theorem witness_ArbiterStaysConsistent :
    rich.quietOk ∧ rich.arbiterOk ∧ ∃ t, step rich = .next t := ⟨by decide, by decide, _, rfl⟩

theorem witness_QueuesStayWithinTheirPlaces :
    rich.arbiterOk ∧ rich.queuesOk ∧ ∃ t, step rich = .next t := ⟨by decide, by decide, _, rfl⟩

theorem witness_GateOnlyWhileRecording :
    ({ armed with pending := [.fieldStart Checks.clean] } : State).gateOk
      ∧ ∃ t, step { armed with pending := [.fieldStart Checks.clean] } = .next t := ⟨by decide, _, rfl⟩

/-- GATE active on the fired frame, with a known scene. -/
theorem witness_GateOnlyWhileRecording_active :
    (after (exec (.fieldStart Checks.clean) armed)).gateOk
      ∧ (after (exec (.fieldStart Checks.clean) armed)).gate.gate = true := by decide

/-- The banks of the rich state. -/
theorem rich_banks : rich.banksOk := by
  have h1 : rich.pipeline.pendingBank.reading = none := by decide
  have h2 : rich.pipeline.pendingBank.bank = none := by decide
  exact ⟨by decide, by simp [h1], by simp [h2], by decide⟩

theorem witness_BanksStayInRange :
    rich.config.ok ∧ rich.store.ok ∧ rich.pcu.ok rich.config.cadenceMode ∧ rich.banksOk ∧ ∃ t, step rich = .next t :=
  ⟨by decide, by decide, by decide, rich_banks, _, rfl⟩

theorem witness_PixelsLeaveWithinTheLegalRange :
    rich.quietOk ∧ rich.portOk ∧ ∃ t, step { rich with pending := [.pixel 2100 1800 1500] } = .next t :=
  ⟨by decide, by decide, _, rfl⟩

theorem witness_CountsStayInRange :
    rich.quietOk ∧ rich.config.ok ∧ rich.countersOk ∧ rich.countdownsOk ∧ rich.fetchOk ∧ ∃ t, step rich = .next t :=
  ⟨by decide, by decide, by decide, by decide, by decide, _, rfl⟩

theorem witness_HeldUntilTheirEvents :
    (joining.up = true ∧ Instr.joiningQuietExpiry 10000 ≠ .powerOnReset
        ∧ ∃ t, exec (.joiningQuietExpiry 10000) joining = .next t)
      ∧ (∀ chk, Instr.lineEnd ≠ .fieldStart chk)
      ∧ Instr.lineEnd ∉ [Instr.holdbackExpiry, .tallyPulseEnd, .statusCountdownExpiry]
      ∧ (∀ image, Instr.lineEnd ≠ .bootReadEnd image) ∧ Instr.lineEnd ≠ .powerOnReset ∧ ∃ t, exec .lineEnd base = .next t :=
  ⟨⟨by decide, by decide, _, rfl⟩, nofun, by decide, nofun, nofun, _, rfl⟩

/-- A command that is no field start, no reset and no setting, for the statements on what changes at field starts only. -/
theorem witness_OutsideFieldStarts :
    (∀ chk, Instr.refLossExpiry ≠ .fieldStart chk) ∧ (∀ image, Instr.refLossExpiry ≠ .bootReadEnd image)
      ∧ Instr.refLossExpiry ∉ [Instr.holdbackExpiry, .tallyPulseEnd, .statusCountdownExpiry, .setMode, .resetSoft,
        .resetList, .powerOnReset]
      ∧ ∃ t, exec .refLossExpiry base = .next t := ⟨nofun, nofun, by decide, _, rfl⟩

/-- The list of the trim with its second entry faulty: frozen (R173). -/
def frozenState : State :=
  { withList [graded 100 4 0 1000 0, { ungraded 200 2 with faulty := true }] base with store.frozen := true }

theorem witness_FrozenStoreTakesNoEdit :
    frozenState.store.frozen = true ∧ ∃ t, exec (.fieldStart Checks.clean) frozenState = .next t := ⟨by decide, _, rfl⟩

theorem witness_SceneRecordRoundTrip :
    exampleRecord.carried
      ∧ (⟨16777215, 65535, 255, 255, true, true, some { Grade.unity with
          black := ⟨65535, 0, 0⟩, lift := ⟨-32768, 32767, 0⟩, sat := 65535, curve := .preset 127 }⟩ : Record).carried
      ∧ (⟨0, 0, 0, 0, false, false, none⟩ : Record).carried := by
  refine ⟨?_, ?_, ?_⟩
  · refine ⟨by decide, by decide, by decide, by decide, ?_⟩
    intro g h; cases h; refine ⟨by decide, by decide, by decide, by decide, ?_⟩; decide
  · refine ⟨by decide, by decide, by decide, by decide, ?_⟩
    intro g h; cases h; refine ⟨by decide, by decide, by decide, by decide, ?_⟩; decide
  · refine ⟨by decide, by decide, by decide, by decide, ?_⟩
    intro g h; cases h

/-- Seven messages wait in the inbound queue. -/
def sevenWaiting : List Message := List.replicate 7 (message .setMode [0, 0, 0, 0, 0, 0])

theorem witness_SentMessageIsReceived :
    base.up = true ∧ ({ base with cue.inbound := sevenWaiting } : State).cue.inbound.length < inboundLimit
      ∧ base.cue.receiverOn = true ∧ base.cue.rx = .idle ∧ base.driving = false
      ∧ (⟨5, .listRec 12 3 exampleRecord⟩ : TxMsg).dest = base.station
      ∧ (TxContent.listRec 12 3 exampleRecord).payload.length ≤ 64 := by decide

theorem witness_PowerOnResetAndLeaving : State.reset.part = .reset := by decide

theorem witness_BootReadEntersJoining :
    loading.part = .loading ∧ loading.quietOk
      ∧ bootImage.take 2 = [0x47, 0x33] ∧ u16 bootImage 2 = 104
      ∧ ((bootImage.set 0 0x48).take 2 ≠ [0x47, 0x33]) ∧ u16 (bootImage.set 3 0x67) 2 = 103
      ∧ u16 ((bootImage.set 2 0x01).set 3 0x11) 2 = 273
      ∧ 2 < u8 (((bootImage.set 17 3).drop 4).take 104) 13 := by decide

/-- The 48 fixed bytes of the boot image of the example, and the presets at the limits of R199. -/
def bootHead : List Byte := (bootImage.drop 4).take 48

/-- Presets of 2 and of 9 knots, the last x 4,095, the largest y a knot can carry. -/
def bootPresets : List (List Knot) :=
  List.replicate 7 [⟨0, 0⟩, ⟨4095, 2047⟩]
    ++ [[⟨0, 0⟩, ⟨1, 0⟩, ⟨2, 0⟩, ⟨3, 0⟩, ⟨4, 0⟩, ⟨5, 0⟩, ⟨6, 0⟩, ⟨7, 0⟩, ⟨8, 0⟩]]

theorem witness_BootRead_good_image :
    bootHead.length = 48 ∧ bootPresets.length = 8 ∧ (∀ ks ∈ bootPresets, knotsFault ks = false ∧ ∀ k ∈ ks, k.y < 2048)
      ∧ u8 bootHead 9 = 0xFF ∧ u8 (bootHead.set 9 0x80) 9 ≤ 0x80 ∧ u8 bootHead 10 ≤ 63 ∧ u8 bootHead 11 = 0xFF
      ∧ u8 bootHead 12 = 0xFF ∧ u8 bootHead 13 = 2 ∧ u8 bootHead 14 = 1 ∧ u8 bootHead 15 = 1 ∧ u8 bootHead 36 ≤ 7
      ∧ u8 bootHead 43 ≤ 2 ∧ u8 bootHead 45 ≤ 1 := by decide

/-- A preset fault of each kind, after seven good presets; and a byte after the eighth. -/
theorem witness_BootRead_preset_faults :
    (bootPresets.take 7).length < 8 ∧ (∀ ks ∈ bootPresets, 2 ≤ ks.length ∧ ks.length ≤ 9 ∧ ∀ k ∈ ks, k.x < 8192 ∧ k.y < 2048)
      ∧ u8 ([1, 0, 0, 0] : List Byte) 0 < 2 ∧ 9 < u8 ([10] : List Byte) 0
      ∧ (presetBytes [⟨0, 0⟩, ⟨1, 0⟩]).dropLast.length < 1 + 3 * u8 (presetBytes [⟨0, 0⟩, ⟨1, 0⟩]).dropLast 0
      ∧ (0 + 1 < u8 (presetBytes [⟨7, 0⟩, ⟨7, 0⟩]) 0
        ∧ u24 (presetBytes [⟨7, 0⟩, ⟨7, 0⟩]) (4 + 3 * 0) / 2048 ≤ u24 (presetBytes [⟨7, 0⟩, ⟨7, 0⟩]) (1 + 3 * 0) / 2048)
      ∧ (1 < u8 (presetBytes [⟨0, 0⟩, ⟨4096, 0⟩]) 0 ∧ 4095 < u24 (presetBytes [⟨0, 0⟩, ⟨4096, 0⟩]) (1 + 3 * 1) / 2048)
      ∧ (([0] : List Byte) ≠ []) := by decide

theorem witness_QuietLineStartsAndRuns :
    (joining.up = true ∧ joining.cue.receiverOn = false ∧ joining.cue.idle.running = true
        ∧ 12 ≤ joining.cue.idle.bits + 12)
      ∧ joining.part = .joining ∧ joining.sharedTaken < 5 ∧ joining.config.bitRate = .kbit500
      ∧ 10000 ≤ joining.cue.idle.bits + 10000
      ∧ 5000 ≤ ({ joining with config.bitRate := .kbit250 } : State).cue.idle.bits + 5000
      ∧ 20000 ≤ ({ joining with config.bitRate := .mbit1 } : State).cue.idle.bits + 20000 := by decide

theorem witness_FramePulseStepsTheGate :
    filming.up = true ∧ (∀ h ∈ filming.pcu.held, h.seq ≠ filming.pcu.pulseSeq + 1)
      ∧ ∀ h ∈ ({ filming with pcu.held := some ⟨7200, 43, .sound, none⟩ } : State).pcu.held,
          h.seq ≠ filming.pcu.pulseSeq + 1 := by decide

theorem witness_FramePulse_loading : loading.part = .loading ∧ loading.quietOk ∧ State.reset.part = .reset := by decide

/-- The held POSITION of "message first". -/
def heldState : State := { filming with pcu.held := some ⟨7200, 41, .sound, some 2⟩ }

theorem witness_HeldPositionAppliedAtItsPulse :
    heldState.up = true ∧ heldState.pcu.held = some ⟨7200, 41, .sound, some 2⟩ ∧ 41 = heldState.pcu.pulseSeq + 1 := by decide

/-- A held POSITION at SOUND without a phase, in UNITY, and of another class. -/
theorem witness_HeldPosition_classes :
    ({ heldState with pcu.held := some ⟨7200, 41, .sound, none⟩ } : State).pcu.held = some ⟨7200, 41, .sound, none⟩
      ∧ ({ heldState with pcu.held := some ⟨7200, 41, .jog, none⟩ } : State).pcu.held = some ⟨7200, 41, .jog, none⟩
      ∧ ({ heldState with config.cadenceMode := .unity, pcu.cadencePhase := none } : State).up = true := by decide

/-- A POSITION handed over after a pulse. -/
def handed (seq : BitVec 8) (m : Message) : State := { filming with pcu.pulseSeq := seq, cue.handover := [m] }

theorem witness_PositionIsReconciledOrHeld :
    ((handed 45 (positionMessage 0x20 41 2)).up = true
        ∧ (handed 45 (positionMessage 0x20 41 2)).cue.handover = positionMessage 0x20 41 2 :: []
        ∧ filming.config.transport = none
        ∧ positionOf (positionMessage 0x20 41 2).payload = some ⟨7200, 41, .sound, some 2⟩
        ∧ (45 + 256 - 41) % 256 = 4 ∧ (46 + 256 - 41) % 256 = 5 ∧ (36 + 256 - 41) % 256 = 251)
      ∧ 252 ≤ (37 + 256 - 41) % 256 ∧ 252 ≤ (40 + 256 - 41) % 256
      ∧ (∃ a, ({ handed 45 (positionMessage 0x20 41 2) with config.transport := some 2 } : State).config.transport = some a
          ∧ a ≠ (positionMessage 0x20 41 2).source)
      ∧ (positionMessage 0x20 41 2).payload.dropLast.length < 6 ∧ 1048575 < u24 [0x10, 0, 0, 0, 0, 0] 0
      ∧ 3 < u8 [0, 0, 0, 0, 4, 0] 4 ∧ 4 ≤ u8 (positionMessage 0x20 41 4).payload 5
      ∧ u8 (positionMessage 0x20 41 254).payload 5 ≤ 254 :=
  ⟨by decide, by decide, by decide, ⟨2, rfl, by decide⟩, by decide⟩

/-- A payload at the limits of its fields: frame 1,048,575, SHUTTLE, no phase; and frame 0, STILL, phase 3 (R192). -/
theorem witness_PositionPayload :
    (1048575 = (0x0F : Byte).toNat * 65536 + (0xFF : Byte).toNat * 256 + (0xFF : Byte).toNat ∧ (3 : Byte).toNat ≤ 3)
      ∧ (0 = (0 : Byte).toNat * 65536 + (0 : Byte).toNat * 256 + (0 : Byte).toNat ∧ (0 : Byte).toNat ≤ 3)
      ∧ positionOf [0x0F, 0xFF, 0xFF, 41, 3, 0xFF] = some ⟨1048575, 41, .shuttle, none⟩
      ∧ positionOf [0, 0, 0, 255, 0, 3, 9] = some ⟨0, 255, .still, some 3⟩ := by decide

/-- Reports to a group, REF_LOSS enabled, and an EVENT_REPORT of another flag in the queue. -/
def reporting : State :=
  { base with
    config.report := some 0x40, events.enable := 0x7FFF,
    cue.txq := [⟨13, .reply 0x20 .ok .plain⟩, ⟨0x40, .eventReport 1 1 7⟩] }

theorem witness_ReferenceLossBegins :
    base.up = true ∧ base.pcu.refTimerRunning = true ∧ base.gate.punch.state ≠ .recording
      ∧ (loading.part = .loading ∧ loading.quietOk ∧ loading.pcu.refTimerRunning = true)
      ∧ (reporting.up = true ∧ EventFlag.refLoss.isIn reporting.events.flags = false
        ∧ EventFlag.refLoss.isIn reporting.events.enable = true ∧ reporting.config.report = some 0x40
        ∧ reporting.cue.txq = [⟨13, .reply 0x20 .ok .plain⟩] ++ [⟨0x40, .eventReport 1 1 7⟩] ++ []
        ∧ ∀ e ∈ [(⟨13, .reply 0x20 .ok .plain⟩ : TxMsg)] ++ [], e.content.kind ≠ .eventReport) := by decide

/-- A raise is reported in the place of the report queued, with the new flags of both (R106, R177). -/
theorem test_raise_coalesces :
    (raise .refLoss reporting).cue.txq = [⟨13, .reply 0x20 .ok .plain⟩, ⟨0x40, .eventReport 8 9 0⟩] := by decide

theorem witness_FieldStart : base.up = true ∧ base.part ≠ .reset ∧ loading.part = .loading := by decide

/-- The hold-back of field 5 of "hold-back while the film rocks". -/
def holding (n : Nat) : State :=
  { base with resolver.slot := some entry800, resolver.countdown := n, resolver.lastScene := none }

theorem witness_SceneEntryDrivesItsSignals :
    (base.up = true ∧ 1 ≤ ({ base with config.holdback := 1 } : State).config.holdback
        ∧ armed.bankAtField.scene.start ≠ armed.resolver.lastScene)
      ∧ ((holding 2).bankAtField.scene.start = (holding 2).resolver.lastScene ∧ (holding 2).resolver.slot = some entry800
        ∧ 2 ≤ (holding 2).resolver.countdown)
      ∧ ((holding 1).resolver.slot = some entry800 ∧ (holding 1).resolver.countdown = 1
        ∧ (holding 1).bankAtField.scene.start = (holding 1).resolver.lastScene)
      ∧ (({ armed with config.holdback := 0 } : State).config.holdback = 0 ∧ armed.resolver.slot = none ∧ armed.config.report = none
        ∧ ({ armed with config.report := some 2 } : State).config.report = some 2)
      ∧ base.config.tallyMode = .pulse ∧ ({ base with gate.tallyCountdown := 1 } : State).gate.tallyCountdown = 1
        ∧ ({ base with gate.tallyCountdown := 1 } : State).bankAtField.scene.start = base.resolver.lastScene := by decide

/-- The punch of the example armed without alignment, its target 2,001. -/
def armedPlain (frame : Nat) : State :=
  { armed with gate.punch.align := false, gate.punch.inFrame := 2001, pcu.gateFrame := frame }

/-- The punch of the example recording at a frame whose bank is resolved. -/
def recordingAt (frame : Nat) : State :=
  { armed with
    gate.punch.state := .recording, pcu.gateFrame := frame,
    pipeline.active := { bank1202 with resolvedFrame := frame, scene := ⟨some 1900, 0, 1, false, false, 1900, 2010⟩ } }

theorem witness_PunchFollowsTheFields :
    (armed.part = .running ∧ armed.gate.punch.state = .armed ∧ armed.pcu.fieldsInFrame = 0
        ∧ armed.pcu.positionState = .placed ∧ armed.pcu.speedClass = .sound ∧ armed.pcu.direction = .fwd
        ∧ armed.pcu.cadenceState = .locked ∧ armed.pcu.cadencePhase = some 0
        ∧ armed.gate.punch.inFrame ≤ armed.pcu.gateFrame ∧ armed.pcu.gateFrame < armed.gate.punch.inFrame + 4
        ∧ 2003 < ({ armed with pcu.gateFrame := 2003 } : State).gate.punch.inFrame + 4
        ∧ (armedPlain 2001).gate.target = some 2001
        ∧ armed.pcu.gateFrame ≤ armed.gate.punch.outFrame
        ∧ ({ armed with gate.punch.outFrame := 2000 } : State).gate.punch.outFrame < armed.pcu.gateFrame)
      ∧ ((recordingAt 2008).up = true ∧ (recordingAt 2008).gate.punch.state = .recording
        ∧ (recordingAt 2008).gate.punch.outFrame < (recordingAt 2008).pcu.gateFrame)
      ∧ ((recordingAt 2007).gate.target = some 2001
        ∧ (recordingAt 2007).pcu.gateFrame ≤ (recordingAt 2007).gate.punch.outFrame
        ∧ (recordingAt 2007).bankAtField.resolvedFrame = (recordingAt 2007).pcu.gateFrame)
      ∧ (armedPlain 2002).gate.punch.align = false ∧ (armedPlain 2002).gate.lastEval = some 2000
        ∧ (armedPlain 2002).gate.target = some 2001 ∧ (armedPlain 2002).gate.target ≠ some 2002
        ∧ 2000 ≤ 2001 ∧ 2001 < (armedPlain 2002).pcu.gateFrame := by decide

/-- An aligned punch whose target, worked out at frame 2,002 of phase 1, lies at 2,001, which the film has passed; and one
whose out frame it has passed ("a slip at the target"). -/
theorem witness_PunchMissed_aligned :
    armed.gate.punch.align = true ∧ armed.gate.lastEval = some 2000
      ∧ some 2001 = some (armed.gate.punch.inFrame
          + ((((2002 : Nat) : Int) - (1 : BitVec 2).toNat - armed.gate.punch.inFrame) % 4).toNat)
      ∧ 2000 ≤ 2001 ∧ 2001 < 2002
      ∧ ({ armed with gate.lastEval := some 2007, pcu.gateFrame := 2008 } : State).gate.punch.outFrame = 2007 := by decide

/-- A late field whose frame lies outside the bank's span, so that its scene is unknown (R63). -/
def unknownScene (s : State) : State :=
  { s with pipeline.active := { s.pipeline.active with resolvedFrame := 1999, scene := ⟨some 1900, 0, 1, false, false, 1900, 1999⟩ } }

/-- An armed punch that does not fire, for each condition of R158, and the omit of a field of an unknown scene. -/
theorem witness_PunchHeld :
    (joining.part ≠ .running
        ∧ (armedPlain 2000).gate.target ≠ some (armedPlain 2000).pcu.gateFrame
        ∧ ({ armed with pcu.fieldsInFrame := 1 } : State).pcu.fieldsInFrame ≠ 0
        ∧ ({ armed with pcu.positionState := .suspect } : State).pcu.positionState ≠ .placed
        ∧ ({ armed with pcu.speedClass := .jog } : State).pcu.speedClass ≠ .sound
        ∧ ({ armed with pcu.direction := .rev } : State).pcu.direction ≠ .fwd
        ∧ (armed.gate.punch.align = true
          ∧ ({ armed with pcu.cadenceState := .broken } : State).pcu.cadenceState ≠ .locked))
      ∧ armed.gate.lastEval = some 2000 ∧ ¬(2000 ≤ 2001 ∧ 2001 < armed.pcu.gateFrame)
      ∧ ((unknownScene armed).bankAtField.resolvedFrame ≠ (unknownScene armed).pcu.gateFrame
        ∧ ¬((unknownScene armed).bankAtField.scene.spanFirst ≤ (unknownScene armed).pcu.gateFrame
          ∧ (unknownScene armed).pcu.gateFrame ≤ (unknownScene armed).bankAtField.scene.spanLast)) := by decide

/-- A punch that fires or records on a field of an unknown scene has GATE inactive (R63, R160). -/
theorem test_fieldStart_unknown_scene :
    (after (exec (.fieldStart Checks.clean) (unknownScene armed))).gate.punch.state = .recording
      ∧ (after (exec (.fieldStart Checks.clean) (unknownScene armed))).gate.gate = false := by decide

/-- A part whose status countdown stands at a number. -/
def countingStatus (n : Nat) : State :=
  { base with config.statusInterval := 1, events.statusEnable := true, events.statusCountdown := n }

theorem witness_StatusCountdownSendsStatus :
    (countingStatus 2).up = true ∧ (countingStatus 2).events.statusEnable = true
      ∧ 1 ≤ (countingStatus 2).config.statusInterval ∧ base.events.statusEnable = false
      ∧ 2 ≤ (countingStatus 2).events.statusCountdown ∧ (countingStatus 1).events.statusCountdown = 1
      ∧ ({ countingStatus 1 with config.report := some 2 } : State).config.report = some 2
      ∧ (countingStatus 1).config.report = none := by decide

theorem witness_ScrubberAdvancesItsCursor :
    (rich.up = true ∧ rich.arbiter.holder = none ∧ rich.arbiter.noneWaits = true
        ∧ firstFrom rich.store.scrubCursor rich.store.index = some (graded 100 4 0 1000 0)
        ∧ firstFrom 501 rich.store.index = none ∧ firstFrom 0 rich.store.index = some (graded 100 4 0 1000 0))
      ∧ (resolving 0 rich).arbiter.holder ≠ none
      ∧ ({ rich with arbiter.handlerWaits := true } : State).arbiter.noneWaits = false
      ∧ firstFrom 0 base.store.index = none := by decide

/-- A scrub step onto a body with one wrong bit, with two, and onto a faulty entry, before the wrap and after it. -/
theorem witness_Scrub_errors :
    bodyOutcome ⟨[(100, [⟨false, 0x2C⟩])], []⟩ 100 = .correctable 0x2C
      ∧ bodyOutcome ⟨[(100, [⟨true, 0x83⟩])], []⟩ 100 = .uncorrectable 0x83
      ∧ (graded 100 4 0 1000 0).damaged = false ∧ rich.events.capture = ⟨.empty, false⟩
      ∧ nextAfter 100 rich.store.index = some (ungraded 200 2) ∧ nextAfter 500 rich.store.index = none :=
  ⟨by decide, by decide, by decide, by decide, by decide, by decide⟩

theorem witness_Scrub_wraps : ({ rich with store.scrubCursor := 501 } : State).store.ok := by decide

theorem witness_StagesStayInTheirRanges :
    (0 : Int) ≤ 4095 ∧ (4095 : Int) ≤ 4095 ∧ (0 : Int) ≤ 1023 ∧ (0 : Int) ≤ 4095 := by decide

theorem witness_CurvePassesItsKnots :
    knotsOk limitKnots ∧ limitKnots.head? = some ⟨0, 0⟩ ∧ limitKnots.getLast? = some ⟨4095, 0⟩ := by decide

/-- The falling segment of a curve at both its ends, and a bank that mixes two curves. -/
theorem witness_Curve_segment_and_mix :
    limitKnots = [⟨0, 0⟩] ++ [⟨1, 1023⟩, ⟨4095, 0⟩] ++ [] ∧ (1 : Int) ≤ 4094 ∧ (4094 : Int) < 4095
      ∧ ({ bank1202 with fromCurve := some (.preset 0), w := 252 } : Bank).fromCurve = some (.preset 0) ∧ 252 ≤ 256
      ∧ bank1202.fromCurve = none := by decide

/-- GRADING in a compare mode, the next pixel of an open line at an index. -/
def comparing (c : CompareMode) (split index : Nat) : State :=
  { grading ⟨0, 0, 0⟩ ⟨1024, 1024, 1024⟩ ⟨0, 0, 0⟩ 1024 with
    pipeline.active.mode := ⟨c, split⟩, pipeline.lineOpen := true, pipeline.pixelIndex := index }

theorem witness_PixelLeavesByTheOutputMode :
    ((comparing .off 0 7).part ≠ .reset ∧ (comparing .off 0 7).pipeline.outputMode = .grading
        ∧ (comparing .off 0 7).nextIndex = 7 ∧ (comparing .off 0 7).pipeline.active.mode.compare = .off
        ∧ (comparing .split 3 3).pipeline.active.mode.compare = .split
        ∧ (comparing .split 3 3).pipeline.active.mode.split ≤ 3)
      ∧ ((comparing .bypass 0 2047).pipeline.active.mode.compare = .bypass
        ∧ 2 < (comparing .split 3 2).pipeline.active.mode.split)
      ∧ base.pipeline.outputMode = .black
      ∧ ({ base with pipeline.clipInProgress := 65535 } : State).pipeline.clipInProgress ≤ 65535 := by decide

/-- A character whose stop bit reads 0, and one with a wrong parity bit. -/
def framed : RxChar := { char 0x41 with stop := false }
def oddParity : RxChar := { char 0x41 with parity := !parityOf 0x41 false }

theorem witness_ReceiveErrorsAreCaptured :
    ((assembling [5]).up = true ∧ (assembling [5]).cue.receiverOn = true
        ∧ (assembling [5]).cue.rx = .assembling ⟨.individual, [5], false⟩
        ∧ framed.stop = false ∧ framed.parity = parityOf framed.data framed.mark
        ∧ oddParity.stop = true ∧ oddParity.parity ≠ parityOf oddParity.data oddParity.mark)
      ∧ ((char 65).stop = true ∧ (char 65).mark = false ∧ (char 65).parity = parityOf (char 65).data false
        ∧ ([5, 13, 32] ++ [(char 65).data]).length = 4 ∧ 64 < (char 65).data.toNat)
      ∧ ((shortFrame ++ [0x34]).length = 6 + u8 (shortFrame ++ [0x34]) 3
        ∧ crc (((shortFrame ++ [0x34]).drop 1).take (3 + u8 (shortFrame ++ [0x34]) 3))
            ≠ BitVec.ofNat 16 (u16 (shortFrame ++ [0x34]) (4 + u8 (shortFrame ++ [0x34]) 3)))
      ∧ ((destination 5).stop = true ∧ (destination 5).mark = true
        ∧ (destination 5).parity = parityOf (destination 5).data true)
      ∧ (assembling [5]).cue.idle.running = true ∧ 12 < (assembling [5]).cue.idle.bits + 13 := by decide

/-- The whole SCENE_SET of the manual as characters. -/
def sceneSetFrame : List Byte := [0x05, 0x0D, 0x20, 0x26] ++ sceneSetBytes ++ [0xBE]

theorem witness_CharactersAreFilteredAndRouted :
    ((assembling sceneSetFrame).up = true ∧ (assembling sceneSetFrame).cue.receiverOn = true
        ∧ (assembling sceneSetFrame).cue.rx = .assembling ⟨.individual, sceneSetFrame, false⟩
        ∧ (char 0xB5).stop = true ∧ (char 0xB5).mark = false ∧ (char 0xB5).parity = parityOf (char 0xB5).data false
        ∧ (sceneSetFrame ++ [0xB5]).length = 6 + u8 (sceneSetFrame ++ [0xB5]) 3
        ∧ crc (((sceneSetFrame ++ [0xB5]).drop 1).take (3 + u8 (sceneSetFrame ++ [0xB5]) 3))
            = BitVec.ofNat 16 (u16 (sceneSetFrame ++ [0xB5]) (4 + u8 (sceneSetFrame ++ [0xB5]) 3)))
      ∧ (base.cue.rx = .idle ∧ ({ base with cue.rx := .discarding } : State).cue.rx = .discarding)
      ∧ ((char 64).data.toNat ≤ 64 ∧ [5, 13, 32].length = 3 ∧ 3 + 1 < 6 + u8 ([5, 13, 32] ++ [(char 64).data]) 3) := by decide

theorem witness_AttemptsSendOrCollide :
    (base.part = .running ∧ base.cue.tx = .empty
        ∧ ({ base with cue.txq := [⟨11, .listQuery 1 0 1048575⟩] } : State).cue.txq = ⟨11, .listQuery 1 0 1048575⟩ :: []
        ∧ base.responder.streaming = false ∧ base.cue.idle.running = true ∧ base.cue.yieldMark = false
        ∧ 24 + 2 * base.address.toNat + 0 ≤ base.cue.idle.bits + 34)
      ∧ ({ base with cue.tx := .waiting ⟨11, .listQuery 1 0 1048575⟩ 7 } : State).cue.tx
          = .waiting ⟨11, .listQuery 1 0 1048575⟩ 7
      ∧ 24 + 2 * base.address.toNat + 16 * 7 + 64 ≤ base.cue.idle.bits + 210
      ∧ ({ base with cue.tx := .sending ⟨11, .listQuery 1 0 1048575⟩ 7 } : State).cue.tx
          = .sending ⟨11, .listQuery 1 0 1048575⟩ 7
      ∧ ({ base with cue.tx := .stopping } : State).cue.tx = .stopping ∧ base.up = true := by decide

/-- A message waits at the head of the inbound queue. -/
def inboundOf (m : Message) (s : State) : State := { s with cue.inbound := [m] }

theorem witness_HandlerTakesTheHead :
    ((inboundOf (message .sceneSet sceneSetBytes) base).up = true
        ∧ (inboundOf (message .sceneSet sceneSetBytes) base).handler.state = .idle
        ∧ (inboundOf (message .sceneSet sceneSetBytes) base).cue.inbound = message .sceneSet sceneSetBytes :: []
        ∧ MsgKind.ofCode (message .sceneSet sceneSetBytes).kind = some .sceneSet
        ∧ requiredLength .sceneSet sceneSetBytes ≤ sceneSetBytes.length
        ∧ MsgKind.ofCode (message .clear [0, 0, 0]).kind = some .clear ∧ requiredLength .clear [0, 0, 0] ≤ 3)
      ∧ (∃ k, MsgKind.ofCode (message .clear [0, 0]).kind = some k
          ∧ (message .clear [0, 0]).payload.length < requiredLength k [0, 0])
      ∧ (MsgKind.ofCode 0x61 ∈ [some MsgKind.eventReport, some .status, some .reply]
        ∧ MsgKind.ofCode 0x30 ∈ [some MsgKind.query, some .listQuery, some .listRec, some .listEnd]
        ∧ MsgKind.ofCode 0x33 = some .reset ∧ MsgKind.ofCode 0x2F = none) :=
  ⟨by decide, ⟨.clear, by decide⟩, by decide⟩

/-- The takes for the store and at once of the other kinds, each at a boundary of its fields. -/
theorem witness_HandlerTakes_other_kinds :
    (u8 [1, 0x0F, 0xFF, 0xFF] 0 = 1 ∧ u24 [1, 0x0F, 0xFF, 0xFF] 1 ≤ 1048575 ∧ requiredLength .query [1, 0x0F, 0xFF, 0xFF] ≤ 4)
      ∧ (u8 [1] 0 = 1 ∧ requiredLength .reset [1] ≤ 1 ∧ u8 [0] 0 = 0 ∧ Addressing.group ≠ .broadcast)
      ∧ (partnered.partner = some 7 ∧ u24 [0x0F, 0xFF, 0xFF, 0xFF, 0xFF, 0xFF, 0, 0, 0, 0, 0, 0] 0 ≤ 1048575
        ∧ u24 [0x0F, 0xFF, 0xFF, 0xFF, 0xFF, 0xFF, 0, 0, 0, 0, 0, 0] 3 = 0xFFFFFF
        ∧ requiredLength .sceneEntered [0x0F, 0xFF, 0xFF, 0xFF, 0xFF, 0xFF, 0, 0, 0, 0, 0, 0] ≤ 12)
      ∧ (u8 [4] 0 ≤ 4 ∧ u8 [4] 0 ≠ 1) ∧ base.config.recorder = none
      ∧ (MsgKind.ofCode (message .punchArm []).kind = some .punchArm ∧ MsgKind.ofCode (message .listEnd []).kind = some .listEnd
        ∧ (message .listEnd []).addressing = .individual) := by decide

/-- The lengths of curves with a knot list at the limits, and with a count that adds nothing (R191). -/
theorem witness_RequiredLengths :
    (∃ knots record : Nat → Nat,
      (∀ i, knots i = if 130 ≤ u8 sceneSetBytes i ∧ u8 sceneSetBytes i ≤ 137 then 3 * (u8 sceneSetBytes i - 128) else 0)
        ∧ ∀ i, record i = if bitAt sceneSetBytes (i + 7) 1 then 29 + knots (i + 28) else 8)
      ∧ requiredLength .gradeSet ([0, 0, 0, 2] ++ List.replicate 20 0 ++ [137]) = 52
      ∧ requiredLength .gradeSet ([0, 0, 0, 2] ++ List.replicate 20 0 ++ [138]) = 25 :=
  ⟨⟨_, _, fun _ => rfl, fun _ => rfl⟩, by decide, by decide⟩

theorem witness_HandlerRefusesAtTheTake :
    ((inboundOf (message .query [5]) base).cue.inbound = message .query [5] :: []
        ∧ (message .query [5]).addressing = .individual ∧ (message .query [5]).source.toNat ≤ 63 ∧ base.sharedTaken < 5
        ∧ MsgKind.ofCode (message .query [5]).kind = some .query ∧ requiredLength .query [5] ≤ 1 ∧ 4 < u8 [5] 0
        ∧ requiredLength .query [1, 0x10, 0, 0] ≤ 4 ∧ 1048575 < u24 [1, 0x10, 0, 0] 1)
      ∧ (MsgKind.ofCode (message .reset [2]).kind = some .reset ∧ 1 < u8 [2] 0)
      ∧ (MsgKind.ofCode (message .punchArm []).kind ∈ [some MsgKind.punchArm, some .punchAbort]
        ∧ (∃ a, ({ base with config.recorder := some 12 } : State).config.recorder = some a
            ∧ a ≠ (message .punchArm []).source))
      ∧ (MsgKind.ofCode (message .sceneEntered []).kind = some .sceneEntered
        ∧ partnered.partner ≠ some (message .sceneEntered []).source)
      ∧ (MsgKind.ofCode 0x2F = none ∧ base.up = true ∧ base.handler.state = .idle) :=
  ⟨by decide, by decide, ⟨by decide, 12, rfl, by decide⟩, by decide, by decide⟩

theorem witness_EditValuesAreClamped :
    exampleRecord.grade.isSome = true ∧ ∃ g, exampleRecord.grade = some g := ⟨by decide, _, rfl⟩

theorem witness_SceneSetWritesTheRecord :
    (atStore .sceneSet (atTheStore .sceneSet sceneSetBytes base) = some (message .sceneSet sceneSetBytes)
        ∧ recordAt (message .sceneSet sceneSetBytes).payload 0 = exampleRecord ∧ Checks.clean.parity = []
        ∧ base.up = true ∧ base.store.frozen = false ∧ exampleRecord.fault = false ∧ sharedCount base.cue.txq ≤ 3
        ∧ recordAtStart 1500 base.store.index = none ∧ base.store.index.length < 1024
        ∧ exampleRecord.body.knotCount ≤ base.store.freeKnots
        ∧ exampleRecord.body.knotCount ≤ ({ base with store.freeKnots := 3 } : State).store.freeKnots)
      ∧ recordAtStart 1500 (withList [knotted 1500 255 5] base).store.index = some (knotted 1500 255 5)
      ∧ exampleRecord.body.knotCount ≤ 0 + (knotted 1500 255 5).knotCount := by decide

theorem witness_GradeSetWritesTheGrade :
    atStore .gradeSet (atTheStore .gradeSet (gradeThreeKnots 0x05 0x46) base)
        = some (message .gradeSet (gradeThreeKnots 0x05 0x46))
      ∧ u24 (gradeThreeKnots 0x05 0x46) 0 = 1350 ∧ bitAt (gradeThreeKnots 0x05 0x46) 3 1 = true
      ∧ gradeFault (some (gradeAt (gradeThreeKnots 0x05 0x46) 4)) = false
      ∧ recordAtStart 1350 (withList [ungraded 1350 1] base).store.index = some (ungraded 1350 1)
      ∧ bodyOutcome ⟨[(1350, [⟨true, 1⟩])], []⟩ 1350 = .uncorrectable 1
      ∧ Body.knotCount { bodyTaken Checks.clean (ungraded 1350 1) with
          grade := (some (gradeAt (gradeThreeKnots 0x05 0x46) 4)).map Grade.clamped } ≤ 3 := by decide

theorem witness_SceneMoveReKeysTheRecord :
    atStore .sceneMove (atTheStore .sceneMove [0, 0, 1, 0x0F, 0xFF, 0xFF] base)
        = some (message .sceneMove [0, 0, 1, 0x0F, 0xFF, 0xFF])
      ∧ u24 [0, 0, 1, 0x0F, 0xFF, 0xFF] 0 = 1 ∧ u24 [0, 0, 1, 0x0F, 0xFF, 0xFF] 3 = 1048575
      ∧ recordAtStart 1 (withList [ungraded 1 255] base).store.index = some (ungraded 1 255)
      ∧ recordAtStart 1048575 (withList [ungraded 1 255] base).store.index = none := by decide

theorem witness_SceneDeleteRemovesTheRecord :
    (atStore .sceneDelete (atTheStore .sceneDelete [0, 0, 0] base) = some (message .sceneDelete [0, 0, 0])
        ∧ u24 [0, 0, 0] 0 = 0 ∧ recordAtStart 0 (withList [knotted 0 1 5] base).store.index = some (knotted 0 1 5)
        ∧ (withList [knotted 0 1 5] base).store.ok
        ∧ governing 1048575 (withList [knotted 0 1 5] base).store.index = some (knotted 0 1 5))
      ∧ recordAtStart 0 base.store.index = none := by decide

theorem witness_TrimWalksTheRange :
    (atStore .rangeTrim (atTheStore .rangeTrim trimBytes base) = some (message .rangeTrim trimBytes)
        ∧ u24 trimBytes 0 ≤ u24 trimBytes 3 ∧ u24 trimBytes 3 ≤ 1048575)
      ∧ ((walking ⟨none, 0⟩ rich).arbiter.holder = some .handler
        ∧ (walking ⟨none, 0⟩ rich).handler.state = .executing (message .rangeTrim trimBytes) (.walk ⟨none, 0⟩)
        ∧ firstFrom (u24 trimBytes 0) rich.store.index = some (graded 100 4 0 1000 0)
        ∧ nextAfter 200 rich.store.index = some (graded 300 7 0 4090 0) ∧ 300 ≤ u24 trimBytes 3
        ∧ bodyOutcome Checks.clean 300 = .clean ∧ rich.store.frozen = false ∧ sharedCount rich.cue.txq ≤ 3)
      ∧ nextAfter 300 rich.store.index = some (graded 400 1 0 1024 0) ∧ u24 trimBytes 3 < 400 := by decide

/-- The other steps of a walk: on an ungraded record, between two steps, at a frozen store, and onto a faulty entry. -/
theorem witness_Trim_other_steps :
    ((walking ⟨some 100, 1⟩ rich).arbiter.handlerWaits = false ∧ nextAfter 100 rich.store.index = some (ungraded 200 2)
        ∧ (bodyTaken Checks.clean (ungraded 200 2)).grade = none)
      ∧ (({ walking ⟨some 100, 1⟩ rich with arbiter.holder := none } : State).arbiter.noneWaits = true
        ∧ ({ walking ⟨some 100, 1⟩ rich with arbiter.holder := some .resolver } : State).arbiter.holder ≠ some .handler)
      ∧ (walking ⟨some 100, 1⟩ frozenState).store.frozen = true
      ∧ ((walking ⟨some 100, 1⟩ rich).store.ok ∧ nextAfter 200 rich.store.index = some (graded 300 7 0 4090 0)
        ∧ 300 ≤ u24 trimBytes 3 ∧ (gradeOf 4090 0).trimmed (deltasAt trimBytes) ≠ gradeOf 4090 0
        ∧ nextAfter 300 rich.store.index = some (graded 400 1 0 1024 0) ∧ u24 trimBytes 3 < 400) :=
  ⟨by decide, by decide, by decide, by decide, by decide, by decide, by decide, by decide, by decide⟩

/-- A trim step onto a body with one wrong bit, changed by the deltas and not, and with two. -/
theorem witness_Trim_errors :
    bodyOutcome ⟨[(300, [⟨false, 0x2C⟩])], []⟩ 300 = .correctable 0x2C
      ∧ bodyOutcome ⟨[(300, [⟨true, 0x83⟩])], []⟩ 300 = .uncorrectable 0x83
      ∧ (graded 300 7 0 4090 0).damaged = false ∧ (graded 300 7 0 4090 0).body.grade = some (gradeOf 4090 0)
      ∧ (gradeOf 4090 0).trimmed (deltasAt trimBytes) ≠ gradeOf 4090 0
      ∧ (gradeOf 4095 0).trimmed (deltasAt trimBytes) = { gradeOf 4095 0 with gain := ⟨4095, 1024, 1024⟩ }
      ∧ (walking ⟨some 200, 1⟩ rich).events.capture = ⟨.empty, false⟩ :=
  ⟨by decide, by decide, by decide, by decide, by decide, by decide, by decide⟩

theorem witness_FullClearEmptiesTheStore :
    atStore .listClear (atTheStore .listClear [0, 0, 0, 0x0F, 0xFF, 0xFF] frozenState)
        = some (message .listClear [0, 0, 0, 0x0F, 0xFF, 0xFF])
      ∧ u24 [0, 0, 0, 0x0F, 0xFF, 0xFF] 0 = 0 ∧ u24 [0, 0, 0, 0x0F, 0xFF, 0xFF] 3 = 1048575
      ∧ sharedCount frozenState.cue.txq ≤ 3 := by decide

theorem witness_ListClearDeletesTheRange :
    atStore .listClear (atTheStore .listClear [0, 0, 1, 0x0F, 0xFF, 0xFF] frozenState)
        = some (message .listClear [0, 0, 1, 0x0F, 0xFF, 0xFF])
      ∧ u24 [0, 0, 1, 0x0F, 0xFF, 0xFF] 0 = 1 ∧ u24 [0, 0, 0, 0x0F, 0xFF, 0xFE] 3 = 1048574 := by decide

/-- A full list of 1,024 entries, the last at frame 1,023. -/
def fullList : List Entry := (List.range 1024).map (fun n => ungraded n 1)

theorem witness_RefusedEditsWriteNothing :
    (frozenState.store.frozen = true
        ∧ atStore .sceneSet (atTheStore .sceneSet sceneSetBytes frozenState) = some (message .sceneSet sceneSetBytes)
        ∧ atStore .rangeTrim (atTheStore .rangeTrim trimBytes frozenState) = some (message .rangeTrim trimBytes))
      ∧ (1048575 < (recordAt [0x10, 0, 0, 0, 0, 0, 0, 0] 0).start
        ∧ gradeFault (some { Grade.unity with curve := .preset 8 }) = true
        ∧ recordAtStart 1500 base.store.index = none
        ∧ ({ base with store.freeKnots := 2 } : State).store.freeKnots < exampleRecord.body.knotCount)
      ∧ (recordAtStart 1350 base.store.index = none
        ∧ recordAtStart 1350 (withList [ungraded 1350 1, ungraded 1500 1] base).store.index = some (ungraded 1350 1)
        ∧ recordAtStart 1500 (withList [ungraded 1350 1, ungraded 1500 1] base).store.index = some (ungraded 1500 1)) := by decide

theorem witness_RefusedEdits_full : 1024 ≤ (withList fullList base).store.index.length := by simp [withList, fullList]

/-- The structural faults of the other kinds, and too few knots for a replacement and for a GRADE_SET. -/
theorem witness_RefusedEdits_other :
    (1048575 < u24 [0x10, 0, 0] 0 ∧ 1048575 < u24 [0, 0, 0, 0x10, 0, 0] 3
        ∧ u24 [0, 0, 1, 0, 0, 0] 3 < u24 [0, 0, 1, 0, 0, 0] 0
        ∧ gradeFault (some (gradeAt ([0, 0, 0, 2] ++ List.replicate 20 0 ++ [8]) 4)) = true)
      ∧ (recordAtStart 1500 (withList [ungraded 1500 1] base).store.index = some (ungraded 1500 1)
        ∧ 2 + (ungraded 1500 1).knotCount < exampleRecord.body.knotCount)
      ∧ (bodyOutcome Checks.clean 1350 = .clean
        ∧ 2 + (ungraded 1350 1).knotCount < Body.knotCount { bodyTaken Checks.clean (ungraded 1350 1) with
          grade := (some (gradeAt (gradeThreeKnots 0x05 0x46) 4)).map Grade.clamped }) := by decide

/-- The transmit queue with its five shared places taken. -/
def fullQueue : State := { base with cue.txq := List.replicate 5 ⟨13, .reply 0x20 .ok .plain⟩ }

theorem witness_QueriesAreAnswered :
    (base.sharedTaken < 5 ∧ inHand .query (carrying .query [0] base) = some (message .query [0])
        ∧ (message .query [0]).addressing = .individual ∧ (message .query [0]).source.toNat ≤ 63
        ∧ u8 [0] 0 = 0 ∧ inHand .query (carrying .query [2] base) = some (message .query [2])
        ∧ inHand .query (carrying .query [3] base) = some (message .query [3])
        ∧ inHand .query (carrying .query [4] base) = some (message .query [4]))
      ∧ 5 ≤ (carrying .query [2] fullQueue).sharedTaken ∧ fullQueue.up = true := by decide

theorem witness_QuerySceneReadsTheGoverningRecord :
    atStore .query (atTheStore .query [1, 0x00, 0x00, 0x63] (withList trimList base)) = some (message .query [1, 0, 0, 0x63])
      ∧ governing 99 (withList trimList base).store.index = none
      ∧ governing 100 (withList trimList base).store.index = some (graded 100 4 0 1000 0)
      ∧ bodyOutcome Checks.clean 100 = .clean ∧ sharedCount base.cue.txq ≤ 3
      ∧ bodyOutcome ⟨[(100, [⟨false, 0x2C⟩])], []⟩ 100 = .correctable 0x2C
      ∧ bodyOutcome ⟨[(100, [⟨true, 0x83⟩])], []⟩ 100 = .uncorrectable 0x83
      ∧ base.events.capture = ⟨.empty, false⟩ := by decide

/-- The governing entry fails parity, the first of the list and a later one. -/
theorem witness_QueryScene_index_fault :
    (withList trimList base).store.ok ∧ graded 100 4 0 1000 0 ∈ (withList trimList base).store.index
      ∧ (graded 100 4 0 1000 0).faulty = false ∧ 100 ≤ u24 [1, 0, 0, 0x64] 1
      ∧ governing 0x64 (withList trimList base).store.index = some (graded 100 4 0 1000 0)
      ∧ governing 200 (withList trimList base).store.index = some (ungraded 200 2) := by decide

/-- "An index fault": the entry of 200 is passed over, and the record of 100 answers (R173). -/
theorem test_queryScene_index_fault :
    (after (exec (.queryScene ⟨[], [200]⟩)
      (atTheStore .query [1, 0x00, 0x00, 0xC8] (withList [ungraded 100 4, ungraded 200 2] base)))).cue.txq
      = [⟨13, .reply 0x30 .ok (.query 1 (.scene ⟨100, 0, 4, 0, false, false, none⟩))⟩]
      ∧ (after (exec (.queryScene ⟨[], [200]⟩)
        (atTheStore .query [1, 0x00, 0x00, 0xC8] (withList [ungraded 100 4, ungraded 200 2] base)))).events.flags = 64 := by
  decide

theorem witness_ClearAndSetModeWriteTheirSettings :
    inHand .clear (carrying .clear [0x7F, 0xFF, 3] base) = some (message .clear [0x7F, 0xFF, 3]) ∧ base.sharedTaken < 5
      ∧ inHand .setMode (carrying .setMode [3, 0, 0, 0, 0, 0] base) = some (message .setMode [3, 0, 0, 0, 0, 0])
      ∧ 2 < u8 [3, 0, 0, 0, 0, 0] 0
      ∧ inHand .setMode (carrying .setMode [2, 0x07, 0xFF, 0, 0, 1] base) = some (message .setMode [2, 0x07, 0xFF, 0, 0, 1])
      ∧ u8 [2, 0x07, 0xFF, 0, 0, 1] 0 ≤ 2 ∧ min (u16 [2, 0x07, 0xFF, 0, 0, 1] 1) 2047 = 2047
      ∧ bitAt [2, 0x07, 0xFF, 0, 0, 1] 5 0 = true := by decide

theorem witness_LineResetsResetEveryBlock :
    rich.up = true ∧ inHand .reset (carrying .reset [0] rich) = some (message .reset [0])
      ∧ atStore .reset (atTheStore .reset [1] rich) = some (message .reset [1]) := by decide

/-- A SOFT reset at a responder step in progress, and the step after it. -/
def resetDuringStep : State := after (exec .resetSoft (carrying .reset [0] (streaming (some 300) 3 rich)))

theorem witness_LineReset_step_in_progress :
    (inHand .reset (carrying .reset [0] (streaming (some 300) 3 rich)) = some (message .reset [0])
        ∧ (streaming (some 300) 3 rich).arbiter.holder = some .responder)
      ∧ (resetDuringStep.up = true ∧ resetDuringStep.arbiter.holder = some .responder
        ∧ resetDuringStep.responder.unfinished = some ⟨5, 12, 0, 1048575, some 300, 3⟩
        ∧ resetDuringStep.responder.placeHeld = true ∧ sharedCount resetDuringStep.cue.txq ≤ 4)
      ∧ streamNext ⟨5, 12, 0, 1048575, some 300, 3⟩ resetDuringStep.store.index = some (graded 400 1 0 1024 0) :=
  ⟨by decide, by decide, by decide⟩

/-- The step completes with its record and leaves the stream as the reset left it (R152). -/
theorem test_responderStep_after_reset :
    (after (exec (.responderStep Checks.clean) resetDuringStep)).responder.streaming = false
      ∧ (after (exec (.responderStep Checks.clean) resetDuringStep)).cue.txq.length = 2 := by decide

theorem witness_PunchIsArmed :
    inHand .punchArm (carrying .punchArm [0, 7, 0xD0, 0x0F, 0xFF, 0xFF, 1] base)
        = some (message .punchArm [0, 7, 0xD0, 0x0F, 0xFF, 0xFF, 1])
      ∧ base.sharedTaken < 5 ∧ u24 [0, 7, 0xD0, 0x0F, 0xFF, 0xFF, 1] 3 = 1048575
      ∧ bitAt [0, 7, 0xD0, 0x0F, 0xFF, 0xFF, 1] 6 0 = true := by decide

theorem witness_PunchIsAborted :
    armed.up = true ∧ inHand .punchAbort (carrying .punchAbort [] armed) = some (message .punchAbort [])
      ∧ armed.sharedTaken < 5 := by decide

theorem witness_PartnerCheckCompares :
    atStore .sceneEntered (sceneEnteredFrom7 (0x0C, 0x1D) (0x0C, 0x1C) partnered)
        = some ⟨0xFF, .broadcast, 7, 0x60, [0x00, 0x0C, 0x1D, 0x00, 0x0C, 0x1C, 0, 0, 0, 0, 0, 0]⟩
      ∧ partnered.up = true ∧ sharedCount partnered.cue.txq ≤ 3 := by decide

theorem witness_FetchIsStarted :
    inHand .fetchFrom (carrying .fetchFrom [63, 0, 0, 0, 0x0F, 0xFF, 0xFF] base)
        = some (message .fetchFrom [63, 0, 0, 0, 0x0F, 0xFF, 0xFF])
      ∧ ({ base with cue.txq := List.replicate 3 ⟨13, .reply 0x20 .ok .plain⟩ } : State).sharedTaken ≤ 3 := by decide

theorem witness_ListEndEndsTheFetch :
    inHand .listEnd (fromPartner .listEnd [12, 2, 0, 4] .carry (fetching 4 base))
        = some ⟨5, .individual, 7, 0x53, [12, 2, 0, 4]⟩
      ∧ (fetching 4 base).up = true ∧ (fetching 4 base).requester.fetching = true
      ∧ (fetching 4 base).requester.partner = some 7 ∧ (fetching 4 base).requester.tag = 12 := by decide

theorem witness_ListRecIsMatchedAndSequenced :
    ((fetching 2 base).up = true ∧ (fetching 2 base).requester.fetching = true
        ∧ (fetching 2 base).requester.gapTimer = true)
      ∧ (base.requester.fetching = false
        ∧ inHand .listRec (fromPartner .listRec (listRecBytes 2 4) .carry base)
            = some ⟨5, .individual, 7, 0x52, listRecBytes 2 4⟩
        ∧ inHand .listEnd (fromPartner .listEnd [12, 0, 0, 4] .carry base)
            = some ⟨5, .individual, 7, 0x53, [12, 0, 0, 4]⟩)
      ∧ inHand .listRec (fromPartner .listRec (listRecBytes 2 4) .carry (fetching 2 base))
            = some ⟨5, .individual, 7, 0x52, listRecBytes 2 4⟩
        ∧ (fetching 2 base).requester.tag = (listRecBytes 2 4).getD 0 0 := by decide

theorem witness_MergeDecidesByRevision :
    (merging [ungraded 300 3]).up = true ∧ (merging [ungraded 300 3]).arbiter.holder = some .handler
      ∧ (merging [ungraded 300 3]).handler.state
          = .executing ⟨5, .individual, 7, 0x52, listRecBytes 2 4⟩ (.merging (merging [ungraded 300 3]).requester.tag)
      ∧ recordAt (listRecBytes 2 4) 3 = ⟨300, 0, 4, 0, false, false, none⟩ := by decide

/-- A merge that replaces a body with one wrong bit, and with two; and one whose lookup finds a faulty entry. -/
theorem witness_Merge_errors :
    recordAtStart 300 (merging [ungraded 300 3]).store.index = some (ungraded 300 3) ∧ (ungraded 300 3).revision < 4
      ∧ (recordAt (listRecBytes 2 4) 3).fault = false ∧ (recordAt (listRecBytes 2 4) 3).damaged = false
      ∧ bodyOutcome ⟨[(300, [⟨false, 0x2C⟩])], []⟩ 300 = .correctable 0x2C
      ∧ bodyOutcome ⟨[(300, [⟨true, 0x83⟩])], []⟩ 300 = .uncorrectable 0x83
      ∧ (merging [ungraded 300 3]).events.capture = ⟨.empty, false⟩ ∧ (merging [ungraded 300 3]).store.ok
      ∧ ungraded 300 3 ∈ (merging [ungraded 300 3]).store.index ∧ (merging [ungraded 300 3]).store.frozen = false :=
  ⟨by decide, by decide, by decide, by decide, by decide, by decide, by decide, by decide, by decide, by decide⟩

/-- A body with two wrong bits is healed by its replacement, and counted all the same (R143, R170). -/
theorem test_merge_heals :
    (after (exec (.merge ⟨[(300, [⟨true, 0x83⟩])], []⟩) (merging [ungraded 300 3]))).store.index = [ungraded 300 4]
      ∧ (after (exec (.merge ⟨[(300, [⟨true, 0x83⟩])], []⟩) (merging [ungraded 300 3]))).events.damaged = 1 := by decide

/-- A stream step onto a body with errors, and onto a faulty entry. -/
theorem witness_Responder_errors :
    (graded 400 1 0 1024 0).damaged = false ∧ bodyOutcome ⟨[(400, [⟨false, 0x2C⟩])], []⟩ 400 = .correctable 0x2C
      ∧ bodyOutcome ⟨[(400, [⟨true, 0x83⟩])], []⟩ 400 = .uncorrectable 0x83
      ∧ (streaming (some 300) 3 rich).events.capture = ⟨.empty, false⟩ ∧ (streaming (some 300) 3 rich).store.ok :=
  ⟨by decide, by decide, by decide, by decide, by decide⟩

theorem witness_ResponderServesAStream :
    inHand .listQuery ({ base with
        handler.state := .executing ⟨5, .individual, 63, 0x51, [12, 0, 0, 0, 0x0F, 0xFF, 0xFF]⟩ .carry })
        = some ⟨5, .individual, 63, 0x51, [12, 0, 0, 0, 0x0F, 0xFF, 0xFF]⟩
      ∧ base.responder.streaming = false ∧ offersRoom base.cue.txq = true
      ∧ (streaming (some 300) 3 rich).arbiter.holder = some .responder
      ∧ (streaming (some 300) 3 rich).responder.placeHeld = true
      ∧ (streaming (some 300) 3 rich).responder.unfinished = none
      ∧ streamNext ⟨5, 12, 0, 1048575, some 300, 3⟩ rich.store.index = some (graded 400 1 0 1024 0)
      ∧ streamNext ⟨5, 12, 0, 399, some 300, 3⟩ rich.store.index = some (graded 400 1 0 1024 0)
      ∧ streamNext ⟨5, 12, 0, 1048575, some 500, 5⟩ rich.store.index = none
      ∧ sharedCount ({ base with cue.txq := List.replicate 4 ⟨13, .reply 0x20 .ok .plain⟩ } : State).cue.txq ≤ 4 := by decide

theorem witness_ResolutionFillsTheBank :
    ((resolving 1203 (withList dissolveList base)).arbiter.holder = some .resolver
        ∧ (resolving 1203 (withList dissolveList base)).resolver.latch = some ⟨1203, ModeSetting.off⟩
        ∧ backFrom 1203 (withList dissolveList base).store.index
            = graded 1200 1 4 1100 (-8) :: [graded 1100 1 0 1024 10])
      ∧ backFrom 1099 (withList dissolveList base).store.index = []
      ∧ filling.up = true
      ∧ filling.pipeline.pendingBank
          = .filling ⟨0, ModeSetting.off, 256, Grade.unity, none, true, SceneDesc.none⟩ := by decide

/-- A resolution whose governing body has errors, and one whose lookup finds a faulty entry. -/
theorem witness_Resolution_errors :
    (resolving 1203 (withList dissolveList base)).up = true
      ∧ (∀ x ∈ [graded 1100 1 0 1024 10], bodyOutcome ⟨[(1200, [⟨false, 0x2C⟩])], []⟩ x.start = .clean)
      ∧ (∀ x ∈ [graded 1100 1 0 1024 10], bodyOutcome ⟨[(1200, [⟨true, 0x83⟩])], []⟩ x.start = .clean)
      ∧ bodyOutcome ⟨[(1200, [⟨false, 0x2C⟩])], []⟩ 1200 = .correctable 0x2C
      ∧ bodyOutcome ⟨[(1200, [⟨true, 0x83⟩])], []⟩ 1200 = .uncorrectable 0x83
      ∧ (graded 1200 1 4 1100 (-8)).damaged = false
      ∧ (resolving 1203 (withList dissolveList base)).events.capture = ⟨.empty, false⟩
      ∧ (resolving 1203 (withList dissolveList base)).store.ok
      ∧ graded 1200 1 4 1100 (-8) ∈ (withList dissolveList base).store.index
      ∧ (graded 1200 1 4 1100 (-8)).faulty = false ∧ (graded 1200 1 4 1100 (-8)).start ≤ 1203 :=
  ⟨by decide, by decide, by decide, by decide, by decide, by decide, by decide, by decide, by decide, by decide, by decide⟩

end Sys2Proof.Tests
end

section
/-! PROOF. How a pixel leaves (R70 to R85): the stages and the final clamp as minima and maxima, what each output mode
sends, and the state PIXEL answers. -/

namespace Sys2Proof.Machine

/-! ### The stages as minima and maxima (R72, R73, R77) -/

theorem stageBlack_eq_max (x black : Int) : stageBlack x black = max 0 (x - black) := by
  unfold stageBlack; split <;> omega

theorem stageGain_eq_min (v gain : Int) : stageGain v gain = min 4095 ((v * gain + 512) / 1024) := by
  unfold stageGain; split <;> omega

theorem stageLift_eq (v lift : Int) : stageLift v lift = max 0 (min 1023 (v + lift)) :=
  clamp_eq 0 1023 (v + lift) (by decide)

theorem toLifted_eq (cfg : Config) (bank : Bank) (x black gain lift : Int) :
    toLifted cfg bank x black gain lift
      = max 0 (min 1023 (stageCurve cfg bank (min 4095 ((max 0 (x - black) * gain + 512) / 1024)) + lift)) := by
  rw [toLifted, stageLift_eq, stageGain_eq_min, stageBlack_eq_max]

/-! ### The legal range (R79, R80, R85) -/

theorem lower_le_upper (range : LegalRange) : range.lower ≤ range.upper := by
  cases range <;> decide

theorem lower_upper_eq (range : LegalRange) :
    (range.lower, range.upper) = if range = .narrow then (64, 940) else (4, 1019) := by
  cases range <;> rfl

theorem legal_eq (range : LegalRange) (x : Int) : legal range x = max range.lower (min range.upper x) :=
  clamp_eq _ _ x (lower_le_upper range)

/-- The value and the count of R79 and R80 are in step: a clip is a value the clamp moves. -/
theorem clips_eq (range : LegalRange) (x : Int) :
    clips range x = if max range.lower (min range.upper x) = x then 0 else 1 := by
  rw [clips, legal_eq]

/-- Legal black before GRADING is one of the two lower bounds, 64 in LOADING (R85). -/
theorem blackLevel_eq (s : State) :
    s.blackLevel = if s.part = .loading ∨ s.config.legalRange = .narrow then 64 else 4 := by
  unfold State.blackLevel
  cases s.config.legalRange <;> simp [LegalRange.lower]

/-! ### Which pixels are bypassed (R82, R83) -/

theorem bypassed_iff (mode : ModeSetting) (i : Nat) :
    bypassed mode i = true ↔ mode.compare = .bypass ∨ mode.compare = .split ∧ i < mode.split := by
  unfold bypassed; cases mode.compare <;> simp

theorem not_bypassed_iff (mode : ModeSetting) (i : Nat) :
    bypassed mode i = false ↔ mode.compare = .off ∨ mode.compare = .split ∧ mode.split ≤ i := by
  unfold bypassed; cases mode.compare <;> simp

/-! ### What leaves in each output mode (R79, R80, R85) -/

/-- A triple after the final clamp, with the number of values the clamp changes. -/
def clampedOut (range : LegalRange) (v : Rgb) : PicWord × Nat :=
  (pixelWord ⟨legal range v.r, legal range v.g, legal range v.b⟩, clips range v.r + clips range v.g + clips range v.b)

theorem pixelOut_corrected {s : State} {i : Nat} (x : Rgb) (hmode : s.pipeline.outputMode = .grading)
    (hbyp : bypassed s.pipeline.active.mode i = false) :
    pixelOut s i x = clampedOut s.config.legalRange (correct s.config s.pipeline.active x) := by
  simp [pixelOut, hmode, hbyp, clampedOut]

theorem pixelOut_bypassed {s : State} {i : Nat} (x : Rgb) (hmode : s.pipeline.outputMode = .grading)
    (hbyp : bypassed s.pipeline.active.mode i = true) :
    pixelOut s i x = clampedOut s.config.legalRange (bypass x) := by
  simp [pixelOut, hmode, hbyp, clampedOut]

theorem pixelOut_black {s : State} (i : Nat) (x : Rgb) (hmode : s.pipeline.outputMode = .black) :
    pixelOut s i x = (pixelWord ⟨s.blackLevel, s.blackLevel, s.blackLevel⟩, 0) := by
  simp [pixelOut, hmode]

/-! ### The state PIXEL and LINE_END answer (R70, R71) -/

/-- The index of the pixel after index `i`: it stops at 2,047 (R70). -/
theorem index_step_eq_min (i : Nat) : (if i < 2047 then i + 1 else 2047) = min (i + 1) 2047 := by
  split <;> omega

/-- The pixel taken at index `i` has left as `out`, its clips counted: nothing else of the unit moves. -/
def pixelTaken (i : Nat) (out : PicWord × Nat) (s : State) : State :=
  { s with pipeline := { s.pipeline with
      lineOpen := true, pixelIndex := min (i + 1) 2047,
      clipInProgress := min (s.pipeline.clipInProgress + out.2) 65535,
      port := s.pipeline.port ++ [out.1] } }

theorem exec_pixel {s : State} (r g b : BitVec 12) (hpart : s.part ≠ .reset) :
    exec (.pixel r g b) s
      = .next (pixelTaken s.nextIndex (pixelOut s s.nextIndex ⟨r.toNat, g.toNat, b.toNat⟩) s) := by
  change execPixel r g b s = _
  simp only [execPixel, if_neg hpart, index_step_eq_min, addClips_eq_min, pixelTaken]

theorem exec_lineEnd (s : State) :
    exec .lineEnd s = .next { s with pipeline := { s.pipeline with lineOpen := false } } := rfl

/-- Settles O33: PIXEL answers `pixelTaken` of what its output mode and compare mode send, and each of these is
written out by the equations of the stages and of the final clamp. -/
theorem pixelLeavesByTheOutputMode : Obligations.PixelLeavesByTheOutputMode := by
  unfold Obligations.PixelLeavesByTheOutputMode
  refine ⟨?corrected, ?bypassed, ?black, exec_lineEnd⟩
  case corrected =>
    intro s r g b i lo hi hpart hmode hindex hcompare hrange
    obtain rfl : i = s.nextIndex := hindex
    obtain ⟨rfl, rfl⟩ := Prod.mk.inj (hrange.trans (lower_upper_eq _).symm)
    refine ⟨_, exec_pixel r g b hpart, ?_⟩
    rw [pixelOut_corrected _ hmode ((not_bypassed_iff _ _).2 hcompare)]
    simp only [pixelTaken, clampedOut, pixelWord, correct, luma, stageSat, toLifted_eq, legal_eq, clips_eq]
  case bypassed =>
    intro s r g b i lo hi hpart hmode hindex hcompare hrange
    obtain rfl : i = s.nextIndex := hindex
    obtain ⟨rfl, rfl⟩ := Prod.mk.inj (hrange.trans (lower_upper_eq _).symm)
    refine ⟨_, exec_pixel r g b hpart, ?_⟩
    rw [pixelOut_bypassed _ hmode ((bypassed_iff _ _).2 hcompare)]
    simp only [pixelTaken, clampedOut, pixelWord, bypass, legal_eq, clips_eq]
  case black =>
    intro s r g b i black hpart hmode hclip hindex hblack
    obtain rfl : i = s.nextIndex := hindex
    have hword : BitVec.ofInt 10 s.blackLevel = black := by
      rw [hblack, blackLevel_eq]; split <;> rfl
    rw [exec_pixel r g b hpart, pixelOut_black _ _ hmode]
    simp only [pixelTaken, pixelWord, hword, Nat.add_zero, Nat.min_eq_left hclip]

end Sys2Proof.Machine
end

section
/-! PROOF. The settings the messages write (R101, R126, R128, R129): masks of event flags, the end of a message whose
REPLY finds a place free, the four settings of SET_MODE, and the states CLEAR and SET_MODE answer. -/

namespace Sys2Proof.Machine

/-! ### Masks of event flags (R190) -/

theorem EventFlag.index_lt (f : EventFlag) : f.index < 15 := by
  cases f <;> decide

theorem isIn_maskAt (f : EventFlag) (p : List Byte) (i : Nat) : f.isIn (maskAt p i) = (u16 p i).testBit f.index := by
  simp only [EventFlag.isIn, maskAt, BitVec.getLsbD_ofNat, f.index_lt, decide_true, Bool.true_and]

theorem isIn_and_not (f : EventFlag) (flags mask : BitVec 15) :
    f.isIn (flags &&& ~~~mask) = (f.isIn flags && !f.isIn mask) := by
  simp [EventFlag.isIn, f.index_lt]

/-! ### The end of a message whose REPLY finds a place free (R105, R114, R116, R118) -/

theorem endPlain_ok_joins (m : Message) (b : ReplyBody) (s : State) (h : s.sharedTaken < 5) :
    endPlain m .ok b s
      = { s with handler := ⟨.idle, s.handler.ignored⟩, cue.txq := s.cue.txq ++ replyTo m .ok b } := by
  have hcount : ¬(ReplyResult.ok ≠ .ok ∧ m.addressing ≠ .individual) := fun hr => hr.1 rfl
  rw [endPlain, if_neg hcount, sendReply_joins m .ok b s h]
  rfl

/-- A refused message that was not individually addressed gets no REPLY and is counted instead (R118). -/
theorem endPlain_refused_joins (m : Message) {r : ReplyResult} (b : ReplyBody) (s : State) (hr : r ≠ .ok)
    (h : s.sharedTaken < 5) :
    endPlain m r b s
      = { s with
          handler := ⟨.idle,
            if m.addressing = .individual then s.handler.ignored else min (s.handler.ignored + 1) 65535⟩,
          cue.txq := s.cue.txq ++ replyTo m r b } := by
  by_cases hind : m.addressing = .individual
  · rw [endPlain, if_neg (fun hc => hc.2 hind), if_pos hind, sendReply_joins m r b s h]
    rfl
  · rw [endPlain, if_pos ⟨hr, hind⟩, if_neg hind, sendReply_joins m r b (ignore s) h, ← satInc_eq_min]
    rfl

/-! ### The mode setting (R60, R128) -/

/-- A compare mode is refused above 2 alone. -/
theorem compareOf_above {n : Nat} (h : 2 < n) : compareOf n = none := by
  match n, h with
  | _ + 3, _ => rfl

theorem splitSetting_eq_min (c : CompareMode) (n : Nat) : splitSetting c n = ⟨c, min n 2047⟩ := by
  unfold splitSetting
  congr 1
  split <;> omega

theorem writeMode_same (s : State) : writeMode s.resolver.mode s = s := by
  simp [writeMode, triggerIf]

theorem writeMode_changed {mode : ModeSetting} {s : State} (h : mode ≠ s.resolver.mode) :
    writeMode mode s = trigger { s with resolver.mode := mode } := by
  simp [writeMode, triggerIf, h]

@[simp] theorem writeMode_resolver_mode (mode : ModeSetting) (s : State) : (writeMode mode s).resolver.mode = mode := by
  simp [writeMode]

/-- The mode setting reaches the resolver, and through its request the arbiter; no other block. -/
theorem writeMode_frame (mode : ModeSetting) (s : State) :
    writeMode mode s
      = { s with resolver := (writeMode mode s).resolver, arbiter := (writeMode mode s).arbiter } := by
  apply State.ext <;> simp [writeMode]

/-- What was asked for is seen in the resolver, the arbiter and the gate frame alone. -/
theorem resolutionAsked_congr {s t u : State} (hr : t.resolver = u.resolver) (ha : t.arbiter = u.arbiter)
    (hp : t.pcu = u.pcu) (h : s.resolutionAsked u) : s.resolutionAsked t := by
  simpa only [State.resolutionAsked, hr, ha, hp] using h

theorem resolutionAsked_writeMode {mode : ModeSetting} {s : State} (hup : s.up = true) (h : mode ≠ s.resolver.mode) :
    { s with resolver := { s.resolver with mode := mode } }.resolutionAsked (writeMode mode s) := by
  rw [writeMode_changed h]
  exact resolutionAsked_trigger _ _ ((up_of_part rfl).trans hup) rfl rfl

/-! ### The four settings (R129, R178) -/

theorem writeStatusEnable_eq (on : Bool) (s : State) :
    writeStatusEnable on s
      = { s with events := { s.events with
          statusEnable := on,
          statusCountdown := if on = true ∧ s.events.statusEnable = false then 16 * s.config.statusInterval
            else s.events.statusCountdown } } := by
  unfold writeStatusEnable
  cases on <;> cases hs : s.events.statusEnable <;> simp

theorem writeSettings_eq (mode : ModeSetting) (mask : BitVec 15) (on : Bool) (s : State) :
    writeSettings mode mask on s
      = { s with
          resolver := (writeMode mode s).resolver, arbiter := (writeMode mode s).arbiter,
          events := { s.events with
            enable := mask, statusEnable := on,
            statusCountdown := if on = true ∧ s.events.statusEnable = false then 16 * s.config.statusInterval
              else s.events.statusCountdown } } := by
  rw [writeSettings, writeStatusEnable_eq]
  dsimp only
  rw [writeMode_frame]

theorem writeSettings_sharedTaken (mode : ModeSetting) (mask : BitVec 15) (on : Bool) (s : State) :
    (writeSettings mode mask on s).sharedTaken = s.sharedTaken := by
  rw [writeSettings_eq]
  rfl

/-! ### The states CLEAR and SET_MODE answer -/

theorem exec_clear {s : State} {m : Message} (hand : inHand .clear s = some m) (h : s.sharedTaken < 5) :
    exec .clear s = .next
      { clearCaptures (bitAt m.payload 2 0) (bitAt m.payload 2 1) (clearFlags (maskAt m.payload 0) s) with
        handler := ⟨.idle, s.handler.ignored⟩,
        cue.txq := s.cue.txq ++ replyTo m .ok .plain } := by
  change execClear s = _
  simp only [execClear, hand]
  rw [endPlain_ok_joins _ _ (clearCaptures _ _ (clearFlags _ s)) h]
  rfl

theorem exec_setMode_refused {s : State} {m : Message} (hand : inHand .setMode s = some m)
    (hcompare : compareOf (u8 m.payload 0) = none) : exec .setMode s = .next (endPlain m .badField .plain s) := by
  change execSetMode s = _
  simp only [execSetMode, hand, hcompare]

theorem exec_setMode_written {s : State} {m : Message} {mode : ModeSetting} (hand : inHand .setMode s = some m)
    (h : s.sharedTaken < 5) (hcompare : compareOf (u8 m.payload 0) = some mode.compare)
    (hsplit : mode.split = min (u16 m.payload 1) 2047) :
    exec .setMode s = .next
      { writeSettings mode (maskAt m.payload 3) (bitAt m.payload 5 0) s with
        handler := ⟨.idle, s.handler.ignored⟩,
        cue.txq := s.cue.txq ++ replyTo m .ok .plain } := by
  have hmode : splitSetting mode.compare (u16 m.payload 1) = mode := by rw [splitSetting_eq_min, ← hsplit]
  have hroom : (writeSettings mode (maskAt m.payload 3) (bitAt m.payload 5 0) s).sharedTaken < 5 := by
    rwa [writeSettings_sharedTaken]
  change execSetMode s = _
  simp only [execSetMode, hand, hcompare, hmode]
  rw [endPlain_ok_joins _ _ _ hroom, writeSettings_eq]

/-- Settles O50: CLEAR answers the state of `exec_clear`, whose flags are read bit by bit; SET_MODE ends refused or
with `writeSettings`, which reaches the resolver and the arbiter through `writeMode` alone. -/
theorem clearAndSetModeWriteTheirSettings : Obligations.ClearAndSetModeWriteTheirSettings := by
  unfold Obligations.ClearAndSetModeWriteTheirSettings
  refine ⟨?clear, ?refused, ?written⟩
  case clear =>
    intro s m hand hroom
    refine ⟨_, exec_clear hand hroom, rfl, fun f => ?flags, ?kinds⟩
    case flags =>
      exact (isIn_and_not f _ _).trans (by rw [isIn_maskAt])
    case kinds =>
      have hline : EventFlag.lineError.isIn (maskAt m.payload 0) = (u16 m.payload 0).testBit 8 :=
        isIn_maskAt .lineError m.payload 0
      simp [hline]
  case refused =>
    intro s m hand hroom habove
    rw [exec_setMode_refused hand (compareOf_above habove), endPlain_refused_joins m .plain s (by decide) hroom]
  case written =>
    intro s m mode on hup hand hroom hcompare hle hsplit hon
    subst hon
    have hcode : compareOf (u8 m.payload 0) = some mode.compare := by
      rw [hcompare]
      obtain h | h | h : u8 m.payload 0 = 0 ∨ u8 m.payload 0 = 1 ∨ u8 m.payload 0 = 2 := by omega
      all_goals rw [h]; rfl
    refine ⟨_, exec_setMode_written hand hroom hcode hsplit, ?_⟩
    rw [writeSettings_eq]
    refine ⟨rfl, writeMode_resolver_mode mode s, fun f => isIn_maskAt f _ _, ?_⟩
    by_cases hsame : mode = s.resolver.mode
    · subst hsame
      rw [if_pos rfl, writeMode_same]
      exact ⟨rfl, rfl⟩
    · rw [if_neg hsame]
      have hpcu : (writeMode mode s).pcu = s.pcu := by rw [writeMode_frame]
      have hasked := resolutionAsked_writeMode hup hsame
      exact ⟨_, rfl, resolutionAsked_congr (u := writeMode mode s) rfl rfl hpcu.symm hasked⟩

end Sys2Proof.Machine
end

section
/-! PROOF. The punch as its messages leave it (R154, R155, R161): the checks of PUNCH_ARM in their order, what
PUNCH_ABORT cancels, and the states both answer. -/

namespace Sys2Proof.Machine

/-! ### PUNCH_ARM (R154) -/

/-- The frames of a punch are out of the reel or out of order, or the punch is aligned in UNITY (R154). -/
abbrev State.refusesFrames (inFrame outFrame : Nat) (align : Bool) (s : State) : Prop :=
  1048575 < inFrame ∨ 1048575 < outFrame ∨ outFrame < inFrame ∨ (align = true ∧ s.config.cadenceMode = .unity)

theorem armResult_badField {i o : Nat} {align : Bool} {s : State} (h : s.refusesFrames i o align) :
    armResult i o align s = .badField :=
  if_pos h

theorem armResult_busy {i o : Nat} {align : Bool} {s : State} (h : ¬s.refusesFrames i o align)
    (hrec : s.gate.punch.state = .recording) : armResult i o align s = .busy :=
  (if_neg h).trans (if_pos hrec)

theorem armResult_ok {i o : Nat} {align : Bool} {s : State} (h : ¬s.refusesFrames i o align)
    (hrec : s.gate.punch.state ≠ .recording) : armResult i o align s = .ok :=
  (if_neg h).trans (if_neg hrec)

theorem exec_punchArm_refused {s : State} {m : Message} {r : ReplyResult} (hand : inHand .punchArm s = some m)
    (hroom : s.sharedTaken < 5) (hr : r ≠ .ok)
    (hresult : armResult (u24 m.payload 0) (u24 m.payload 3) (bitAt m.payload 6 0) s = r) :
    exec .punchArm s = .next
      { s with
          handler := ⟨.idle,
            if m.addressing = .individual then s.handler.ignored else min (s.handler.ignored + 1) 65535⟩,
          cue.txq := s.cue.txq ++ replyTo m r .plain } := by
  change execPunchArm s = _
  simp only [execPunchArm, hand, hresult, if_neg hr]
  rw [endPlain_refused_joins m .plain s hr hroom]

theorem exec_punchArm_armed {s : State} {m : Message} (hand : inHand .punchArm s = some m)
    (hroom : s.sharedTaken < 5)
    (hresult : armResult (u24 m.payload 0) (u24 m.payload 3) (bitAt m.payload 6 0) s = .ok) :
    exec .punchArm s = .next
      { armPunch (u24 m.payload 0) (u24 m.payload 3) (bitAt m.payload 6 0) s with
          handler := ⟨.idle, s.handler.ignored⟩, cue.txq := s.cue.txq ++ replyTo m .ok .plain } := by
  change execPunchArm s = _
  simp only [execPunchArm, hand, hresult, if_true]
  rw [endPlain_ok_joins m .plain (armPunch _ _ _ s) hroom]
  rfl

/-- Settles O52: the result of the checks picks the clause, and the state answered is that of `exec_punchArm_refused`
or `exec_punchArm_armed`. -/
theorem punchIsArmed : Obligations.PunchIsArmed := by
  unfold Obligations.PunchIsArmed
  rintro s m _ _ _ hand hroom rfl rfl rfl
  by_cases hframes : s.refusesFrames (u24 m.payload 0) (u24 m.payload 3) (bitAt m.payload 6 0)
  · refine ⟨_, exec_punchArm_refused hand hroom (by decide) (armResult_badField hframes), rfl, rfl, ?_⟩
    rw [if_pos hframes]
    exact ⟨rfl, rfl, fun hgroup => if_neg hgroup⟩
  · by_cases hrec : s.gate.punch.state = .recording
    · refine ⟨_, exec_punchArm_refused hand hroom (by decide) (armResult_busy hframes hrec), rfl, rfl, ?_⟩
      rw [if_neg hframes, if_pos hrec]
      exact ⟨rfl, rfl, fun hgroup => if_neg hgroup⟩
    · refine ⟨_, exec_punchArm_armed hand hroom (armResult_ok hframes hrec), rfl, rfl, ?_⟩
      rw [if_neg hframes, if_neg hrec]
      exact ⟨rfl, rfl, rfl⟩

/-! ### The abort of a recording (R161) -/

/-- The abort reaches the gate, and through its raise the event flags and the queue of the reports; nothing else. -/
theorem abortPunch_frame (s : State) :
    abortPunch s
      = { s with
          gate := (abortPunch s).gate, events := { s.events with flags := (abortPunch s).events.flags },
          cue := { s.cue with txq := (abortPunch s).cue.txq } } := by
  by_cases h : s.gate.punch.state = .recording
  · rw [abortPunch_recording s h, raise_spec]
  · rw [abortPunch_other s h]

theorem abortPunch_sharedTaken (s : State) : (abortPunch s).sharedTaken = s.sharedTaken := by
  by_cases h : s.gate.punch.state = .recording
  · rw [abortPunch_recording s h, raise_sharedTaken]
    rfl
  · rw [abortPunch_other s h]

theorem abortPunch_gate_of_recording {s : State} (h : s.gate.punch.state = .recording) :
    (abortPunch s).gate = { s.gate with gate := false, punch := { s.gate.punch with
      state := .aborted, outStamp := s.pcu.snapshot.fieldCount, unread := true } } := by
  rw [abortPunch_recording s h, raise_gate]

theorem abortPunch_flags_of_recording {s : State} (hup : s.up = true) (h : s.gate.punch.state = .recording) :
    EventFlag.punchEvent.isIn (abortPunch s).events.flags = true := by
  rw [abortPunch_recording s h]
  exact raise_isIn _ _ hup

/-! ### PUNCH_ABORT (R155) -/

theorem cancelPunch_armed {s : State} (h : s.gate.punch.state = .armed) :
    cancelPunch s
      = { s with gate := { s.gate with
            punch := { s.gate.punch with state := .idle }, target := none, lastEval := none } } := by
  simp only [cancelPunch, h]

theorem cancelPunch_recording {s : State} (h : s.gate.punch.state = .recording) : cancelPunch s = abortPunch s := by
  simp only [cancelPunch, h]

theorem cancelPunch_other {s : State} (harmed : s.gate.punch.state ≠ .armed)
    (hrec : s.gate.punch.state ≠ .recording) : cancelPunch s = s := by
  cases h : s.gate.punch.state <;> simp_all [cancelPunch]

theorem cancelPunch_frame (s : State) :
    cancelPunch s
      = { s with
          gate := (cancelPunch s).gate, events := { s.events with flags := (cancelPunch s).events.flags },
          cue := { s.cue with txq := (cancelPunch s).cue.txq } } := by
  by_cases harmed : s.gate.punch.state = .armed
  · rw [cancelPunch_armed harmed]
  · by_cases hrec : s.gate.punch.state = .recording
    · rw [cancelPunch_recording hrec]
      exact abortPunch_frame s
    · rw [cancelPunch_other harmed hrec]

theorem cancelPunch_sharedTaken (s : State) : (cancelPunch s).sharedTaken = s.sharedTaken := by
  by_cases harmed : s.gate.punch.state = .armed
  · rw [cancelPunch_armed harmed]
    rfl
  · by_cases hrec : s.gate.punch.state = .recording
    · rw [cancelPunch_recording hrec, abortPunch_sharedTaken]
    · rw [cancelPunch_other harmed hrec]

theorem exec_punchAbort {s : State} {m : Message} (hand : inHand .punchAbort s = some m)
    (hroom : s.sharedTaken < 5) :
    exec .punchAbort s = .next
      { cancelPunch s with
          handler := ⟨.idle, s.handler.ignored⟩, cue.txq := (cancelPunch s).cue.txq ++ replyTo m .ok .plain } := by
  have hplace : (cancelPunch s).sharedTaken < 5 := by rwa [cancelPunch_sharedTaken]
  have hcount : (cancelPunch s).handler = s.handler := by rw [cancelPunch_frame]
  change execPunchAbort s = _
  simp only [execPunchAbort, hand]
  rw [endPlain_ok_joins m .plain _ hplace, hcount]

/-- Settles O53: PUNCH_ABORT answers `cancelPunch` and its REPLY (`exec_punchAbort`), and the state of the punch says
what is cancelled. -/
theorem punchIsAborted : Obligations.PunchIsAborted := by
  unfold Obligations.PunchIsAborted
  intro s m hup hand hroom
  refine ⟨_, exec_punchAbort hand hroom, rfl, ?frame, ?punch⟩
  case frame =>
    rw [cancelPunch_frame]
  case punch =>
    cases hstate : s.gate.punch.state
    case armed =>
      rw [cancelPunch_armed hstate]
      exact ⟨rfl, rfl, rfl⟩
    case recording =>
      rw [cancelPunch_recording hstate]
      exact ⟨abortPunch_gate_of_recording hstate, abortPunch_flags_of_recording hup hstate, _, rfl⟩
    case idle | done | missed | aborted =>
      rw [cancelPunch_other (by simp [hstate]) (by simp [hstate])]
      exact ⟨rfl, rfl, rfl⟩

end Sys2Proof.Machine
end

section
/-! PROOF. What a command can do, said once: where it takes effect, the state it answers; else the state it found. Every
invariant is proved along these cases. -/

namespace Sys2Proof.Machine

/-! ### The message in hand -/

theorem handOf_eq_some_iff {k : MsgKind} {p : Phase} {s : State} {m : Message} :
    handOf k p s = some m ↔ s.handler.state = .executing m p ∧ MsgKind.ofCode m.kind = some k := by
  unfold handOf
  cases s.handler.state with
  | idle => simp
  | executing m' q =>
    dsimp only
    split
    · next h => simp only [Option.some.injEq, HandlerState.executing.injEq]; grind
    · next h => simp only [reduceCtorEq, HandlerState.executing.injEq, false_iff]; grind

theorem inHand_eq_some_iff {k : MsgKind} {s : State} {m : Message} :
    inHand k s = some m ↔ s.handler.state = .executing m .carry ∧ MsgKind.ofCode m.kind = some k :=
  handOf_eq_some_iff

theorem atStore_eq_some_iff {k : MsgKind} {s : State} {m : Message} :
    atStore k s = some m ↔ s.arbiter.holder = some .handler ∧ s.handler.state = .executing m .store
      ∧ MsgKind.ofCode m.kind = some k := by
  unfold atStore
  split
  · next h => simp [h, handOf_eq_some_iff]
  · next h => simp [h]

theorem queryOf_eq_some_iff {topic : Nat} {s : State} {m : Message} :
    queryOf topic s = some m ↔ inHand .query s = some m ∧ u8 m.payload 0 = topic := by
  unfold queryOf
  cases inHand .query s with
  | none => simp
  | some m' => dsimp only; split <;> grind

/-! ### The commands by their events -/

/-- The four commands that are a field start: FIELD_START and the three expiries that fall at one. -/
def isFieldStart : Instr → Bool
  | .fieldStart _ | .holdbackExpiry | .tallyPulseEnd | .statusCountdownExpiry => true
  | _ => false

/-- The three commands that are the taking of a character. -/
def isCharacter : Instr → Bool
  | .characterTaken _ | .receiveError _ | .messageAccepted _ => true
  | _ => false

/-- The responder's step gives its place back and takes up the stream it was granted for (R149, R152). -/
def dropPlace (s : State) : State := { s with responder.placeHeld := false, responder.unfinished := none }

/-- What a command does to `s`: one constructor per effect, with the conditions under which it takes place. -/
inductive Acts (s : State) : Instr → State → Prop
  | nothing (c : Instr) : Acts s c s
  | powerOnReset : Acts s .powerOnReset { State.reset with pending := s.pending }
  | leaveReset (straps : BitVec 6) (hpart : s.part = .reset) :
      Acts s (.leaveReset straps) { s with part := .loading, address := straps, pcu.refTimerRunning := true }
  | bootReadEnd (image : List Byte) (hpart : s.part = .loading) :
      Acts s (.bootReadEnd image) (enterJoining (takeConfig image s))
  | receiverStart (waited : Nat) (hup : s.up = true) (hrun : s.cue.idle.running = true) :
      Acts s (.receiverStart waited) { s with cue.receiverOn := true, cue.idle := ⟨true, s.quiet waited⟩ }
  | joiningQuietExpiry (waited : Nat) (hpart : s.part = .joining) :
      Acts s (.joiningQuietExpiry waited) (autoFetch { s with
        part := .running, cue.receiverOn := true, cue.idle := ⟨true, s.cue.idle.bits + waited⟩,
        cue.yieldMark := false })
  | frmPulse (dirHigh : Bool) (hpart : s.part ≠ .reset) : Acts s (.frmPulse dirHigh) (framePulse dirHigh s)
  | loadingField (c : Instr) (hc : isFieldStart c = true) (hpart : s.part = .loading) : Acts s c (loadingField s)
  | upField (c : Instr) (chk : Checks) (hc : isFieldStart c = true) (hup : s.up = true) : Acts s c (upField chk s)
  | refLossExpiry (hpart : s.part ≠ .reset) :
      Acts s .refLossExpiry (abortPunch (raise .refLoss { s with
        pcu.refTimerRunning := false, pcu.lossInProgress := true }))
  | pixel (r g b : BitVec 12) (hpart : s.part ≠ .reset) :
      Acts s (.pixel r g b) (pixelTaken s.nextIndex (pixelOut s s.nextIndex ⟨r.toNat, g.toNat, b.toNat⟩) s)
  | lineEnd : Acts s .lineEnd { s with pipeline.lineOpen := false }
  | characterPassed (c : Instr) (hc : isCharacter c = true) (hup : s.up = true) : Acts s c (restartIdle s)
  | character (c : Instr) (x : RxChar) (hc : isCharacter c = true) (hup : s.up = true)
      (hon : s.cue.receiverOn = true) : Acts s c (applyOutcome x (rxOutcome s.cue.rx x) (restartIdle s))
  | gapExpiry (waited : Nat) (a : Assembly) (hrx : s.cue.rx = .assembling a) :
      Acts s (.gapExpiry waited) (receiveError .gap a.chars { s with cue.idle := ⟨true, s.quiet waited⟩ })
  | position (m : Message) (rest : List Message) (hq : s.cue.handover = m :: rest) :
      Acts s .position (handPosition m { s with cue.handover := rest })
  | mhTake (m : Message) (rest : List Message) (hidle : s.handler.state = .idle) (hq : s.cue.inbound = m :: rest)
      (hup : s.up = true) : Acts s .mhTake (applyVerdict m (judge m s) { s with cue.inbound := rest })
  | unknownKind (m : Message) (hhand : s.handler.state = .executing m .carry) :
      Acts s .unknownKind (endPlain m .unknownKind .plain s)
  | sceneSet (chk : Checks) (m : Message) (hat : atStore .sceneSet s = some m) :
      Acts s (.sceneSet chk) (endEdit m (sceneSet chk (recordAt m.payload 0) s))
  | gradeSet (chk : Checks) (m : Message) (hat : atStore .gradeSet s = some m) :
      Acts s (.gradeSet chk) (endEdit m (gradeSet chk (u24 m.payload 0) (gradeSetGrade m.payload) s))
  | sceneMove (chk : Checks) (m : Message) (hat : atStore .sceneMove s = some m) :
      Acts s (.sceneMove chk) (endEdit m (sceneMove chk (u24 m.payload 0) (u24 m.payload 3) s))
  | sceneDelete (chk : Checks) (m : Message) (hat : atStore .sceneDelete s = some m) :
      Acts s (.sceneDelete chk) (endEdit m (sceneDelete chk (u24 m.payload 0) s))
  | rangeTrimRefused (m : Message) (r : ReplyResult) (hat : atStore .rangeTrim s = some m) :
      Acts s .rangeTrim (endEdit m (.refuse s r (u24 m.payload 0) false))
  | rangeTrimBegins (m : Message) (hat : atStore .rangeTrim s = some m) :
      Acts s .rangeTrim (hold m (.walk ⟨none, 0⟩) s)
  | trimAsks (chk : Checks) (m : Message) (w : Walk) (hwalk : s.handler.state = .executing m (.walk w)) :
      Acts s (.trimStep chk) (askForStep s)
  | trimStep (chk : Checks) (m : Message) (w : Walk) (hwalk : s.handler.state = .executing m (.walk w))
      (hheld : (askForStep s).arbiter.holder = some .handler) :
      Acts s (.trimStep chk) (trimStep chk m w (askForStep s))
  | listClear (chk : Checks) (m : Message) (hat : atStore .listClear s = some m) :
      Acts s (.listClear chk) (endEdit m (listClear chk (u24 m.payload 0) (u24 m.payload 3) s))
  | queryAnswered (c : Instr) (m : Message) (a : Answer) (hc : c ∈ [.queryStatus, .queryFetch, .queryCapture])
      (hhand : inHand .query s = some m) : Acts s c (answerQuery m a s)
  | queryScene (chk : Checks) (m : Message) (hat : atStore .query s = some m) :
      Acts s (.queryScene chk) (handlerIdle
        (sendReply m (queryScene chk (u24 m.payload 1) s).result
          (.query (m.payload.getD 0 0) (queryScene chk (u24 m.payload 1) s).answer)
          (releaseSignal (queryScene chk (u24 m.payload 1) s).changed (queryScene chk (u24 m.payload 1) s).state)).1)
  | queryPunchJoins (m : Message) (t : State) (hhand : inHand .query s = some m)
      (ht : t = (sendReply m .ok (.query (m.payload.getD 0 0) (.punch s.gate.punch)) s).1) :
      Acts s .queryPunch (handlerIdle { t with gate.punch := { t.gate.punch with unread := false } })
  | queryPunchDropped (m : Message) (hhand : inHand .query s = some m) :
      Acts s .queryPunch (handlerIdle (sendReply m .ok (.query (m.payload.getD 0 0) (.punch s.gate.punch)) s).1)
  | clear (m : Message) (hhand : inHand .clear s = some m) :
      Acts s .clear (endPlain m .ok .plain
        (clearCaptures (bitAt m.payload 2 0) (bitAt m.payload 2 1) (clearFlags (maskAt m.payload 0) s)))
  | setModeRefused (m : Message) (hhand : inHand .setMode s = some m) :
      Acts s .setMode (endPlain m .badField .plain s)
  | setMode (m : Message) (mode : ModeSetting) (hhand : inHand .setMode s = some m) :
      Acts s .setMode (endPlain m .ok .plain (writeSettings mode (maskAt m.payload 3) (bitAt m.payload 5 0) s))
  | resetSoft (m : Message) (hhand : inHand .reset s = some m) :
      Acts s .resetSoft (endPlain m .ok .plain (trigger (lineReset s)))
  | resetList (m : Message) (hat : atStore .reset s = some m) :
      Acts s .resetList (endPlain m .ok .plain (releaseSignal true { lineReset s with store := Store.empty }))
  | punchArmRefused (m : Message) (r : ReplyResult) (hhand : inHand .punchArm s = some m) :
      Acts s .punchArm (endPlain m r .plain s)
  | punchArm (m : Message) (hhand : inHand .punchArm s = some m)
      (hok : armResult (u24 m.payload 0) (u24 m.payload 3) (bitAt m.payload 6 0) s = .ok) :
      Acts s .punchArm
        (endPlain m .ok .plain (armPunch (u24 m.payload 0) (u24 m.payload 3) (bitAt m.payload 6 0) s))
  | punchAbort (m : Message) (hhand : inHand .punchAbort s = some m) :
      Acts s .punchAbort (endPlain m .ok .plain (cancelPunch s))
  | partnerAgrees (chk : Checks) (m : Message) (f : Nat) (hat : atStore .sceneEntered s = some m) :
      Acts s (.partnerCheck chk) (handlerIdle (releaseSignal (examineStore (fun n => decide (f < n)) chk s).2
        (examineStore (fun n => decide (f < n)) chk s).1))
  | partnerDiffers (chk : Checks) (m : Message) (f : Nat) (hat : atStore .sceneEntered s = some m) :
      Acts s (.partnerCheck chk) (handlerIdle (partnerMismatch m.source
        (releaseSignal (examineStore (fun n => decide (f < n)) chk s).2
          (examineStore (fun n => decide (f < n)) chk s).1)))
  | fetchRefused (m : Message) (r : ReplyResult) (hhand : inHand .fetchFrom s = some m) :
      Acts s .fetchFrom (endPlain m r .plain s)
  | fetchFrom (m : Message) (hhand : inHand .fetchFrom s = some m) (hok : fetchResultOf m.payload s = .ok) :
      Acts s .fetchFrom
        (endPlain m .ok .plain (startFetch (m.payload.getD 0 0) (u24 m.payload 1) (u24 m.payload 4) s))
  | listQueryIgnored (m : Message) (hhand : inHand .listQuery s = some m) :
      Acts s .listQuery (handlerIdle (ignore s))
  | listQueryBusy (m : Message) (hhand : inHand .listQuery s = some m) :
      Acts s .listQuery (handlerIdle (handShared ⟨m.source, .listEnd (m.payload.getD 0 0) true 0⟩ s).1)
  | listQuery (m : Message) (hhand : inHand .listQuery s = some m) (hidle : s.responder.streaming = false) :
      Acts s .listQuery (handlerIdle (pokeResponder { s with
        responder.streaming := true,
        responder.stream := ⟨m.source, m.payload.getD 0 0, u24 m.payload 1, u24 m.payload 4, none, 0⟩ }))
  | responderFinishes (chk : Checks) (c : Stream) (hheld : s.arbiter.holder = some .responder)
      (hplace : s.responder.placeHeld = true) (hstream : s.responder.unfinished = some c) :
      Acts s (.responderStep chk) (pokeResponder
        (releaseSignal (streamStep chk c (dropPlace s)).2.1 (streamStep chk c (dropPlace s)).1))
  | responderStreams (chk : Checks) (hheld : s.arbiter.holder = some .responder)
      (hplace : s.responder.placeHeld = true) (hnone : s.responder.unfinished = none)
      (hstream : s.responder.streaming = true) :
      Acts s (.responderStep chk) (pokeResponder
        (releaseSignal (streamStep chk s.responder.stream (dropPlace s)).2.1
          (advanceStream (streamStep chk s.responder.stream (dropPlace s)).2.2
            (streamStep chk s.responder.stream (dropPlace s)).1)))
  | responderEnds (chk : Checks) (hheld : s.arbiter.holder = some .responder) (hnone : s.responder.unfinished = none)
      (hstream : s.responder.streaming = false) : Acts s (.responderStep chk) (release (dropPlace s))
  | responderNoRoom (chk : Checks) (hheld : s.arbiter.holder = some .responder) (hplace : s.responder.placeHeld = false) :
      Acts s (.responderStep chk) (pokeResponder (release (dropPlace s)))
  | listRec (m : Message) (hhand : inHand .listRec s = some m) (hmatch : matchesFetch m s = true) :
      Acts s .listRec (request .handler { s with
        requester.gapTimer := true,
        requester.received := satInc s.requester.received,
        requester.expected := s.requester.expected + 1,
        handler.state := .executing m (.merging s.requester.tag) })
  | listRecOutOfSequence (m : Message) (hhand : inHand .listRec s = some m) :
      Acts s .listRec (handlerIdle (endFetch .sequence { s with requester.gapTimer := true }))
  | unexpected (c : Instr) (m : Message) (k : MsgKind) (hc : c ∈ [.listRec, .listEnd]) (hhand : inHand k s = some m) :
      Acts s c (unexpected s)
  | merge (chk : Checks) (m : Message) (tag : BitVec 8) (hheld : s.arbiter.holder = some .handler)
      (hmerge : s.handler.state = .executing m (.merging tag)) :
      Acts s (.merge chk) (handlerIdle (releaseSignal (mergeRecord chk (recordAt m.payload 3) s).2.2
        (countMerge tag (mergeRecord chk (recordAt m.payload 3) s).2.1 (mergeRecord chk (recordAt m.payload 3) s).1)))
  | listEnd (m : Message) (hhand : inHand .listEnd s = some m) :
      Acts s .listEnd (handlerIdle (endFetch (listEndResult m.payload s.requester.received) s))
  | gapTimerExpiry (hfetching : s.requester.fetching = true) : Acts s .gapTimerExpiry (endFetch .timeout s)
  | resolutionRead (chk : Checks) (l : Latch) (hheld : s.arbiter.holder = some .resolver)
      (hlatch : s.resolver.latch = some l) : Acts s (.resolutionRead chk) (resolve chk l s)
  | fillingComplete (r : Reading) (hfill : s.pipeline.pendingBank = .filling r) :
      Acts s .fillingComplete (triggerIf s.resolver.rerun { s with
        pipeline.pendingBank := .ready (fillBank r), resolver.inFlight := false, resolver.rerun := false })
  | attemptStart (waited : Nat) (m : TxMsg) (n : Nat) (q : List TxMsg) (hpart : s.part = .running)
      (hnext : s.nextMessage = some (m, n, q)) :
      Acts s (.attemptStart waited) (pokeResponder { s with
        cue.tx := .sending m n, cue.txq := q, cue.yieldMark := false, cue.idle := ⟨false, s.quiet waited⟩ })
  | attemptComplete (m : TxMsg) (n : Nat) (htx : s.cue.tx = .sending m n) :
      Acts s .attemptComplete
        (restartIdle { s with cue.tx := .empty, cue.yieldMark := true, cue.rx := dropOwn s.cue.rx })
  | collisionAgain (m : TxMsg) (n : Nat) (htx : s.cue.tx = .sending m n) (hn : n + 1 < 8) :
      Acts s .collision { s with cue.tx := .waiting m (n + 1), cue.rx := disown s.cue.rx }
  | collisionAbandons (m : TxMsg) (n : Nat) (htx : s.cue.tx = .sending m n) :
      Acts s .collision (raise .txAbandon { s with
        cue.tx := .empty, cue.rx := disown s.cue.rx, cue.txAbandons := satInc s.cue.txAbandons })
  | collisionStopped (htx : s.cue.tx = .stopping) :
      Acts s .collision { s with cue.tx := .empty, cue.rx := disown s.cue.rx }
  | lineStartBit (hup : s.up = true) :
      Acts s .lineStartBit { s with
        cue.idle := { s.cue.idle with running := false }, cue.yieldMark := s.cue.yieldMark && s.driving }
  | stoppedCharacterEnd (htx : s.cue.tx = .stopping) :
      Acts s .stoppedCharacterEnd (restartIdle { s with cue.tx := .empty, cue.rx := dropOwn s.cue.rx })

/-- A command answers a state that one of its effects gives. -/
def answersActs (s : State) (c : Instr) : Answers → Prop
  | .next t => Acts s c t
  | .fault _ => False
  | .refused _ => False

theorem fieldStart_acts {c : Instr} (hc : isFieldStart c = true) (chk : Checks) (s : State) :
    Acts s c (fieldStart chk s) := by
  unfold fieldStart
  cases h : s.part
  case reset => exact .nothing c
  case loading => exact .loadingField c hc h
  case joining | running => exact .upField c chk hc (by simp [State.up, h])

theorem fieldStartIf_acts {c : Instr} (hc : isFieldStart c = true) (b : Bool) (s : State) :
    Acts s c (fieldStartIf b s) := by
  cases b
  · exact .nothing c
  · exact fieldStart_acts hc Checks.clean s

theorem takeCharacter_acts {c : Instr} (hc : isCharacter c = true) (x : RxChar) (s : State) :
    Acts s c (takeCharacter x s) := by
  unfold takeCharacter
  split
  · next hup =>
    split
    · next hon => exact .character c x hc hup hon
    · exact .characterPassed c hc hup
  · exact .nothing c

theorem responderStep_acts (chk : Checks) {s : State} (hheld : s.arbiter.holder = some .responder) :
    Acts s (.responderStep chk) (responderStep chk s) := by
  unfold responderStep
  dsimp only
  split
  · next hplace =>
    split
    · next c hc => exact .responderFinishes chk c hheld hplace hc
    · next hnone =>
      split
      · next hs => exact .responderStreams chk hheld hplace hnone hs
      · next hs => exact .responderEnds chk hheld hnone (by simpa using hs)
  · next hplace => exact .responderNoRoom chk hheld (by simpa using hplace)

/-- The inversion of `exec`: every command answers, and what it answers is one of its effects. -/
theorem exec_acts (c : Instr) (s : State) : answersActs s c (exec c s) := by
  cases c
  case powerOnReset => exact .powerOnReset
  case leaveReset straps =>
    simp only [exec, execLeaveReset]; split
    · next h => exact .leaveReset straps h
    · exact .nothing _
  case bootReadEnd image =>
    simp only [exec, execBootReadEnd]; split
    · next h => exact .bootReadEnd image h
    · exact .nothing _
  case receiverStart waited =>
    simp only [exec, execReceiverStart]; split
    · next h => simp only [Bool.and_eq_true] at h; exact .receiverStart waited h.1.1.1 h.1.2
    · exact .nothing _
  case joiningQuietExpiry waited =>
    simp only [exec, execJoiningQuietExpiry]; split
    · next h => simp only [Bool.and_eq_true, decide_eq_true_eq] at h; exact .joiningQuietExpiry waited h.1.1
    · exact .nothing _
  case frmPulse dirHigh =>
    simp only [exec, execFrmPulse]; split
    · exact .nothing _
    · next h => exact .frmPulse dirHigh h
  case fieldStart chk => exact fieldStart_acts rfl chk s
  case tallyPulseEnd => exact fieldStartIf_acts rfl _ s
  case holdbackExpiry => exact fieldStartIf_acts rfl _ s
  case statusCountdownExpiry => exact fieldStartIf_acts rfl _ s
  case refLossExpiry =>
    simp only [exec, execRefLossExpiry]; split
    · next h => exact .refLossExpiry h.1
    · exact .nothing _
  case pixel r g b =>
    by_cases h : s.part = .reset
    · simp only [exec, execPixel, if_pos h]; exact .nothing _
    · rw [exec_pixel r g b h]; exact .pixel r g b h
  case lineEnd => exact .lineEnd
  case receiveError x =>
    simp only [exec, execReceiveError]; split
    · exact takeCharacter_acts rfl x s
    · exact .nothing _
  case gapExpiry waited =>
    simp only [exec, execGapExpiry]; split
    · next a h =>
      split
      · exact .gapExpiry waited a h
      · exact .nothing _
    all_goals exact .nothing _
  case messageAccepted x =>
    simp only [exec, execMessageAccepted]; split
    · exact takeCharacter_acts rfl x s
    · exact .nothing _
  case position =>
    simp only [exec, execPosition]; split
    · exact .nothing _
    · next m rest h => exact .position m rest h
  case mhTake =>
    simp only [exec, execMhTake]; split
    · next m rest hi hq =>
      split
      · next hup => exact .mhTake m rest hi hq hup
      · exact .nothing _
    · exact .nothing _
  case unknownKind =>
    simp only [exec, execUnknownKind]; split
    · next m h =>
      split
      · exact .unknownKind m h
      · exact .nothing _
    · exact .nothing _
  case sceneSet chk =>
    simp only [exec, execSceneSet]; split
    · exact .nothing _
    · next m h => exact .sceneSet chk m h
  case gradeSet chk =>
    simp only [exec, execGradeSet]; split
    · exact .nothing _
    · next m h => exact .gradeSet chk m h
  case sceneMove chk =>
    simp only [exec, execSceneMove]; split
    · exact .nothing _
    · next m h => exact .sceneMove chk m h
  case sceneDelete chk =>
    simp only [exec, execSceneDelete]; split
    · exact .nothing _
    · next m h => exact .sceneDelete chk m h
  case rangeTrim =>
    simp only [exec, execRangeTrim]; split
    · exact .nothing _
    · next m h =>
      split
      · exact .rangeTrimRefused m _ h
      · split
        · exact .rangeTrimRefused m _ h
        · exact .rangeTrimBegins m h
  case trimStep chk =>
    simp only [exec, execTrimStep]; split
    · next m w h =>
      split
      · next hg => exact .trimStep chk m w h hg
      · exact .trimAsks chk m w h
    all_goals exact .nothing _
  case listClear chk =>
    simp only [exec, execListClear]; split
    · exact .nothing _
    · next m h => exact .listClear chk m h
  case queryStatus =>
    simp only [exec, execQueryStatus]; split
    · exact .nothing _
    · next m h => exact .queryAnswered _ m _ (by simp) (queryOf_eq_some_iff.1 h).1
  case queryScene chk =>
    simp only [exec, execQueryScene]; split
    · exact .nothing _
    · next m h => exact .queryScene chk m h
  case queryPunch =>
    simp only [exec, execQueryPunch]; split
    · exact .nothing _
    · next m h =>
      have hhand := (queryOf_eq_some_iff.1 h).1
      split
      · exact .queryPunchJoins m _ hhand rfl
      · exact .queryPunchDropped m hhand
  case queryFetch =>
    simp only [exec, execQueryFetch]; split
    · exact .nothing _
    · next m h => exact .queryAnswered _ m _ (by simp) (queryOf_eq_some_iff.1 h).1
  case queryCapture =>
    simp only [exec, execQueryCapture]; split
    · exact .nothing _
    · next m h => exact .queryAnswered _ m _ (by simp) (queryOf_eq_some_iff.1 h).1
  case clear =>
    simp only [exec, execClear]; split
    · exact .nothing _
    · next m h => exact .clear m h
  case setMode =>
    simp only [exec, execSetMode]; split
    · exact .nothing _
    · next m h =>
      split
      · exact .setModeRefused m h
      · exact .setMode m _ h
  case resetSoft =>
    simp only [exec, execResetSoft]; split
    · exact .nothing _
    · next m h => exact .resetSoft m h
  case resetList =>
    simp only [exec, execResetList]; split
    · exact .nothing _
    · next m h => exact .resetList m h
  case punchArm =>
    simp only [exec, execPunchArm]; split
    · exact .nothing _
    · next m h =>
      split
      · next hok => simp only [hok]; exact .punchArm m h hok
      · exact .punchArmRefused m _ h
  case punchAbort =>
    simp only [exec, execPunchAbort]; split
    · exact .nothing _
    · next m h => exact .punchAbort m h
  case partnerCheck chk =>
    simp only [exec, execPartnerCheck]; split
    · exact .nothing _
    · next m h =>
      split
      · exact .partnerAgrees chk m _ h
      · exact .partnerDiffers chk m _ h
  case fetchFrom =>
    simp only [exec, execFetchFrom]; split
    · exact .nothing _
    · next m h =>
      split
      · next hok => simp only [hok]; exact .fetchFrom m h hok
      · exact .fetchRefused m _ h
  case listQuery =>
    simp only [exec, execListQuery]; split
    · exact .nothing _
    · next m h =>
      split
      · exact .listQueryIgnored m h
      · split
        · exact .listQueryBusy m h
        · next hs => exact .listQuery m h (by simpa using hs)
  case responderStep chk =>
    simp only [exec, execResponderStep]; split
    · next h => exact responderStep_acts chk h
    · exact .nothing _
  case listRec =>
    simp only [exec, execListRec]; split
    · exact .nothing _
    · next m h =>
      split
      · next hm =>
        split
        · exact .listRec m h hm
        · exact .listRecOutOfSequence m h
      · exact .unexpected _ m _ (by simp) h
  case merge chk =>
    simp only [exec, execMerge]; split
    · next m tag hh hm => exact .merge chk m tag hh hm
    · exact .nothing _
  case listEnd =>
    simp only [exec, execListEnd]; split
    · exact .nothing _
    · next m h =>
      split
      · exact .listEnd m h
      · exact .unexpected _ m _ (by simp) h
  case gapTimerExpiry =>
    simp only [exec, execGapTimerExpiry]; split
    · next h => simp only [Bool.and_eq_true] at h; exact .gapTimerExpiry h.1
    · exact .nothing _
  case resolutionRead chk =>
    simp only [exec, execResolutionRead]; split
    · next l hh hl => exact .resolutionRead chk l hh hl
    · exact .nothing _
  case fillingComplete =>
    simp only [exec, execFillingComplete]; split
    · next r h => exact .fillingComplete r h
    all_goals exact .nothing _
  case attemptStart waited =>
    simp only [exec, execAttemptStart]; split
    · exact .nothing _
    · next m n q h =>
      split
      · next hg =>
        simp only [Bool.and_eq_true, decide_eq_true_eq] at hg
        exact .attemptStart waited m n q hg.1.1 h
      · exact .nothing _
  case attemptComplete =>
    simp only [exec, execAttemptComplete]; split
    · next m n h => exact .attemptComplete m n h
    all_goals exact .nothing _
  case collision =>
    simp only [exec, execCollision]; split
    · next m n h =>
      split
      · next hn => exact .collisionAgain m n h hn
      · exact .collisionAbandons m n h
    · next h => exact .collisionStopped h
    all_goals exact .nothing _
  case characterTaken x => exact takeCharacter_acts rfl x s
  case lineStartBit =>
    simp only [exec, execLineStartBit]; split
    · next h => exact .lineStartBit h
    · exact .nothing _
  case stoppedCharacterEnd =>
    simp only [exec, execStoppedCharacterEnd]; split
    · next h => exact .stoppedCharacterEnd h
    all_goals exact .nothing _

theorem acts_of_exec {c : Instr} {s t : State} (h : exec c s = .next t) : Acts s c t := by
  have hc := exec_acts c s
  rwa [h] at hc

theorem exec_answers (c : Instr) (s : State) : ∃ t, exec c s = .next t ∧ Acts s c t := by
  have hc := exec_acts c s
  cases h : exec c s with
  | next t => exact ⟨t, rfl, acts_of_exec h⟩
  | fault r => cases r
  | refused r => rw [h] at hc; exact hc.elim

/-- A step is the effect of the command at the front of the queue, on the state with the queue's rest; on an empty queue
it is none. -/
theorem acts_of_step {s t : State} (h : step s = .next t) :
    t = s ∨ ∃ c rest, s.pending = c :: rest ∧ Acts { s with pending := rest } c t := by
  unfold step at h
  split at h
  · exact .inl (by simpa using h.symm)
  · next c rest hp => exact .inr ⟨c, rest, hp, acts_of_exec h⟩

/-- What every effect gives, every step gives, where what is asked of the state does not read the queue. -/
theorem step_gives {P Q : State → Prop} (hstay : ∀ s, P s → Q s)
    (hqueue : ∀ (s : State) (q : List Instr), P s → P { s with pending := q })
    (hacts : ∀ (c : Instr) (s t : State), P s → Acts s c t → Q t) {s t : State} (hs : P s) (h : step s = .next t) :
    Q t := by
  obtain rfl | ⟨c, rest, -, hc⟩ := acts_of_step h
  · exact hstay _ hs
  · exact hacts c _ t (hqueue s rest hs) hc

end Sys2Proof.Machine
end

section
/-! PROOF. What the work at the store leaves alone (R25, R41, R42, R55), and what the larger operations leave alone. -/

namespace Sys2Proof.Machine

/-! ### Work at the store -/

/-- What work at the store is built from: the flags, the lists, the phase of the message in hand, the transmit queue, the
counts of errors, and the arbiter with its grants. -/
inductive StoreWork : State → State → Prop
  | refl (s : State) : StoreWork s s
  | trans {s t u : State} (h : StoreWork s t) (g : StoreWork t u) : StoreWork s u
  | raise (f : EventFlag) (s : State) : StoreWork s (raise f s)
  | store (st : Store) (s : State) : StoreWork s { s with store := st }
  | phase (h : HandlerState) (s : State) : StoreWork s { s with handler.state := h }
  | ignore (s : State) : StoreWork s (ignore s)
  | queue (q : List TxMsg) (s : State) : StoreWork s { s with cue.txq := q }
  | abandon (s : State) : StoreWork s { s with cue.txAbandons := satInc s.cue.txAbandons }
  | corrected (c : StoreCapture) (s : State) :
      StoreWork s { s with events.corrected := satInc s.events.corrected, events.capture := c }
  | damaged (c : StoreCapture) (s : State) :
      StoreWork s { s with events.damaged := satInc s.events.damaged, events.capture := c }
  | arbiter (a : Arbiter) (s : State) : StoreWork s { s with arbiter := a }
  | latch (s : State) : StoreWork s { s with resolver.latch := some ⟨s.pcu.gateFrame, s.resolver.mode⟩ }
  | place (b : Bool) (s : State) : StoreWork s { s with responder.placeHeld := b }
  | asks (inFlight rerun : Bool) (s : State) :
      StoreWork s { s with resolver := { s.resolver with inFlight := inFlight, rerun := rerun } }

/-- What work at the store leaves alone: the film, the picture, the punch, the requester, the line but its transmit
queue, the settings and the streams. The store, the arbiter and the handler are not spoken of. -/
structure StoreFrame (s t : State) : Prop where
  part : t.part = s.part
  address : t.address = s.address
  config : t.config = s.config
  configSource : t.configSource = s.configSource
  pcu : t.pcu = s.pcu
  pipeline : t.pipeline = s.pipeline
  gate : t.gate = s.gate
  requester : t.requester = s.requester
  pending : t.pending = s.pending
  cue : t.cue = { s.cue with txq := t.cue.txq, txAbandons := t.cue.txAbandons }
  resolver : t.resolver = { s.resolver with
    inFlight := t.resolver.inFlight, rerun := t.resolver.rerun, latch := t.resolver.latch }
  responder : t.responder = { s.responder with placeHeld := t.responder.placeHeld }
  events : t.events = { s.events with
    flags := t.events.flags, corrected := t.events.corrected, damaged := t.events.damaged,
    capture := t.events.capture }

theorem StoreFrame.trans {s t u : State} (h : StoreFrame s t) (g : StoreFrame t u) : StoreFrame s u where
  part := g.part.trans h.part
  address := g.address.trans h.address
  config := g.config.trans h.config
  configSource := g.configSource.trans h.configSource
  pcu := g.pcu.trans h.pcu
  pipeline := g.pipeline.trans h.pipeline
  gate := g.gate.trans h.gate
  requester := g.requester.trans h.requester
  pending := g.pending.trans h.pending
  cue := by rw [g.cue, h.cue]
  resolver := by rw [g.resolver, h.resolver]
  responder := by rw [g.responder, h.responder]
  events := by rw [g.events, h.events]

theorem StoreWork.frame {s t : State} (h : StoreWork s t) : StoreFrame s t := by
  induction h with
  | trans _ _ ih ig => exact ih.trans ig
  | raise f s => constructor <;> rw [raise_spec]
  | _ => constructor <;> rfl

/-- `t` comes from `s` by work at the store. -/
structure WorkAtStore (s t : State) : Prop extends StoreFrame s t where
  work : StoreWork s t

theorem StoreWork.atStore {s t : State} (h : StoreWork s t) : WorkAtStore s t := ⟨h.frame, h⟩

/-- The part of it that neither asks for the store nor lets go of it, and sends nothing but reports. -/
inductive ListWork : State → State → Prop
  | refl (s : State) : ListWork s s
  | trans {s t u : State} (h : ListWork s t) (g : ListWork t u) : ListWork s u
  | raise (f : EventFlag) (s : State) : ListWork s (raise f s)
  | store (st : Store) (s : State) : ListWork s { s with store := st }
  | corrected (c : StoreCapture) (s : State) :
      ListWork s { s with events.corrected := satInc s.events.corrected, events.capture := c }
  | damaged (c : StoreCapture) (s : State) :
      ListWork s { s with events.damaged := satInc s.events.damaged, events.capture := c }

theorem ListWork.storeWork {s t : State} (h : ListWork s t) : StoreWork s t := by
  induction h with
  | refl s => exact .refl s
  | trans _ _ ih ig => exact .trans ih ig
  | raise f s => exact .raise f s
  | store st s => exact .store st s
  | corrected c s => exact .corrected c s
  | damaged c s => exact .damaged c s

theorem ListWork.atStore {s t : State} (h : ListWork s t) : WorkAtStore s t := h.storeWork.atStore

/-- What work on the list leaves alone: besides the list, only the Event Unit is touched, and the reports it makes. -/
theorem ListWork.frame {s t : State} (h : ListWork s t) :
    t = { s with
      store := t.store,
      cue.txq := t.cue.txq,
      events := { s.events with
        flags := t.events.flags, corrected := t.events.corrected, damaged := t.events.damaged,
        capture := t.events.capture } } := by
  induction h with
  | trans _ _ ih ig => rw [ig, ih]
  | raise f s => rw [raise_spec]
  | _ => rfl

namespace ListWork

variable {s t u : State}

/-- A rewriting of the list alone. -/
theorem ofStore (s : State) (st : Store) : ListWork s { s with store := st } := .store st s

theorem examineStore (stop : Nat → Bool) (chk : Checks) (s : State) : ListWork s (examineStore stop chk s).1 := by
  unfold Machine.examineStore
  dsimp only
  split
  · exact trans (t := { s with store := _ }) (ofStore s _) (raise _ _)
  · exact .refl s

theorem readBody (op : StoreOp) (chk : Checks) (e : Entry) (s : State) :
    ListWork s (readBody op chk e s).state := by
  unfold Machine.readBody
  split
  · exact .refl s
  · split
    · exact .refl s
    · exact trans (t := { s with events := _ }) (.corrected _ s) (raise _ _)
    · refine trans (t := { s with store := _, events := _ }) ?_ (raise _ _)
      exact trans (t := { s with events := _ }) (.damaged _ s) (ofStore _ _)

theorem insertRecord (r : Record) (n : Nat) (s : State) : ListWork s (insertRecord r n s) := ofStore s _

theorem rewriteRecord (a n k : Nat) (b : Body) (s : State) : ListWork s (rewriteRecord a n k b s) := ofStore s _

theorem sceneSet (chk : Checks) (r : Record) (s : State) : ListWork s (sceneSet chk r s).state := by
  have hx := examineStore (fun n => decide (r.start ≤ n)) chk s
  unfold Machine.sceneSet
  split
  · exact .refl s
  · split
    · exact .refl s
    · dsimp only
      split
      · split
        · exact hx
        · split
          · exact hx
          · exact hx.trans (insertRecord _ _ _)
      · split
        · exact hx
        · exact hx.trans (rewriteRecord _ _ _ _ _)

theorem gradeSet (chk : Checks) (start : Nat) (g : Option Grade) (s : State) :
    ListWork s (gradeSet chk start g s).state := by
  have hx := examineStore (fun n => decide (start ≤ n)) chk s
  unfold Machine.gradeSet
  split
  · exact .refl s
  · split
    · exact .refl s
    · dsimp only
      split
      · exact hx
      · next e _ =>
        have hr := hx.trans (readBody .edit chk e _)
        split
        · exact hr
        · exact hr.trans (rewriteRecord _ _ _ _ _)

theorem sceneMove (chk : Checks) (src dest : Nat) (s : State) : ListWork s (sceneMove chk src dest s).state := by
  have hx := examineStore (fun n => decide (src ≤ n)) chk s
  unfold Machine.sceneMove
  split
  · exact .refl s
  · split
    · exact .refl s
    · dsimp only
      split
      · exact hx
      · split
        · exact hx.trans (ofStore _ _)
        · have hy := hx.trans (examineStore (fun n => decide (dest ≤ n)) chk _)
          split
          · exact hy
          · exact hy
          · exact hy.trans (ofStore _ _)

theorem sceneDelete (chk : Checks) (start : Nat) (s : State) : ListWork s (sceneDelete chk start s).state := by
  have hx := examineStore (fun n => decide (start ≤ n)) chk s
  unfold Machine.sceneDelete
  split
  · exact .refl s
  · split
    · exact .refl s
    · dsimp only
      split
      · exact hx
      · exact hx.trans (ofStore _ _)

theorem listClear (chk : Checks) (first last : Nat) (s : State) :
    ListWork s (listClear chk first last s).state := by
  have hx := examineStore (fun n => decide (last < n)) chk s
  unfold Machine.listClear
  split
  · exact .refl s
  · split
    · exact ofStore _ _
    · exact hx.trans (ofStore _ _)

theorem trimRecord (d : Deltas) (e : Entry) (v : BodyView) (s : State) : ListWork s (trimRecord d e v s).1 := by
  unfold Machine.trimRecord
  split
  · exact .refl s
  · split
    · exact .refl s
    · exact ofStore _ _

theorem queryScene (chk : Checks) (f : Nat) (s : State) : ListWork s (queryScene chk f s).state := by
  have hx := examineStore (fun n => decide (f < n)) chk s
  unfold Machine.queryScene
  dsimp only
  split
  · exact hx
  · exact hx.trans (readBody _ _ _ _)

theorem mergeRecord (chk : Checks) (r : Record) (s : State) : ListWork s (mergeRecord chk r s).1 := by
  have hx := examineStore (fun n => decide (r.start ≤ n)) chk s
  unfold Machine.mergeRecord
  dsimp only
  split
  · exact hx.trans (insertRecord _ _ _)
  · exact (hx.trans (readBody _ _ _ _)).trans (rewriteRecord _ _ _ _ _)
  · exact hx

theorem walkBack (chk : Checks) (es : List Entry) (s : State) : ListWork s (walkBack chk es s).1 := by
  induction es generalizing s with
  | nil => exact .refl s
  | cons e es ih =>
    unfold Machine.walkBack
    dsimp only
    split
    · exact readBody _ _ _ _
    · exact (readBody _ _ _ _).trans (ih _)

theorem readGrade (chk : Checks) (l : Latch) (s : State) : ListWork s (readGrade chk l s).1 := by
  unfold Machine.readGrade
  dsimp only
  split
  · exact .refl s
  · next g back _ =>
    have hr := readBody .resolve chk g s
    split
    · exact hr.trans (walkBack _ _ _)
    · split
      · exact hr.trans (walkBack _ _ _)
      · exact hr

theorem scrubRecord (chk : Checks) (e : Entry) (s : State) : ListWork s (scrubRecord chk e s).1 :=
  ((readBody _ _ _ _).trans (examineStore _ _ _)).trans (ofStore _ _)

end ListWork

namespace WorkAtStore

variable {s t u : State}

protected theorem refl (s : State) : WorkAtStore s s := (StoreWork.refl s).atStore

theorem trans (h : WorkAtStore s t) (g : WorkAtStore t u) : WorkAtStore s u := (h.work.trans g.work).atStore

theorem up (h : WorkAtStore s t) : t.up = s.up := up_of_part h.part

theorem raise (f : EventFlag) (s : State) : WorkAtStore s (raise f s) := (ListWork.raise f s).atStore

theorem handShared (m : TxMsg) (s : State) : WorkAtStore s (handShared m s).1 := by
  unfold Machine.handShared
  split
  · exact (StoreWork.queue _ s).atStore
  · exact trans (t := { s with cue := _ }) (StoreWork.abandon s).atStore (raise _ _)

theorem sendReply (m : Message) (r : ReplyResult) (b : ReplyBody) (s : State) :
    WorkAtStore s (sendReply m r b s).1 := by
  unfold Machine.sendReply
  split
  · exact handShared _ _
  · exact .refl s

theorem handlerIdle (s : State) : WorkAtStore s (handlerIdle s) := (StoreWork.phase .idle s).atStore

theorem grant (c : Client) (s : State) : WorkAtStore s (grant c s) := by
  have hheld : WorkAtStore s { s with arbiter.holder := some c } :=
    (StoreWork.arbiter { s.arbiter with holder := some c } s).atStore
  cases c
  case resolver => exact hheld.trans (StoreWork.latch _).atStore
  case responder => exact hheld.trans (StoreWork.place _ _).atStore
  case handler | scrubber => exact hheld

theorem request (c : Client) (s : State) : WorkAtStore s (request c s) := by
  unfold Machine.request
  split
  · exact grant c s
  · exact (StoreWork.arbiter _ s).atStore

theorem release (s : State) : WorkAtStore s (release s) := by
  have harb (a : Arbiter) : WorkAtStore s { s with arbiter := a } := (StoreWork.arbiter a s).atStore
  unfold Machine.release
  split
  · exact (harb _).trans (grant _ _)
  · split
    · exact (harb _).trans (grant _ _)
    · split
      · exact (harb _).trans (grant _ _)
      · exact harb _

theorem trigger (s : State) : WorkAtStore s (trigger s) := by
  have hres (f r : Bool) : WorkAtStore s { s with resolver := { s.resolver with inFlight := f, rerun := r } } :=
    (StoreWork.asks f r s).atStore
  unfold Machine.trigger
  split
  · split
    · exact hres _ _
    · exact (hres _ _).trans (request _ _)
  · exact .refl s

theorem triggerIf (b : Bool) (s : State) : WorkAtStore s (triggerIf b s) := by
  cases b
  · exact .refl s
  · exact trigger s

theorem releaseSignal (b : Bool) (s : State) : WorkAtStore s (releaseSignal b s) :=
  (triggerIf b s).trans (release _)

theorem pokeResponder (s : State) : WorkAtStore s (pokeResponder s) := by
  unfold Machine.pokeResponder
  split
  · exact request _ _
  · exact .refl s

theorem ofStore (s : State) (st : Store) : WorkAtStore s { s with store := st } := (ListWork.ofStore s st).atStore

theorem examineStore (stop : Nat → Bool) (chk : Checks) (s : State) : WorkAtStore s (examineStore stop chk s).1 :=
  (ListWork.examineStore stop chk s).atStore

theorem readBody (op : StoreOp) (chk : Checks) (e : Entry) (s : State) :
    WorkAtStore s (readBody op chk e s).state :=
  (ListWork.readBody op chk e s).atStore

theorem insertRecord (r : Record) (n : Nat) (s : State) : WorkAtStore s (insertRecord r n s) :=
  (ListWork.insertRecord r n s).atStore

theorem rewriteRecord (a n k : Nat) (b : Body) (s : State) : WorkAtStore s (rewriteRecord a n k b s) :=
  (ListWork.rewriteRecord a n k b s).atStore

theorem sceneSet (chk : Checks) (r : Record) (s : State) : WorkAtStore s (sceneSet chk r s).state :=
  (ListWork.sceneSet chk r s).atStore

theorem gradeSet (chk : Checks) (start : Nat) (g : Option Grade) (s : State) :
    WorkAtStore s (gradeSet chk start g s).state :=
  (ListWork.gradeSet chk start g s).atStore

theorem sceneMove (chk : Checks) (src dest : Nat) (s : State) : WorkAtStore s (sceneMove chk src dest s).state :=
  (ListWork.sceneMove chk src dest s).atStore

theorem sceneDelete (chk : Checks) (start : Nat) (s : State) : WorkAtStore s (sceneDelete chk start s).state :=
  (ListWork.sceneDelete chk start s).atStore

theorem listClear (chk : Checks) (first last : Nat) (s : State) :
    WorkAtStore s (listClear chk first last s).state :=
  (ListWork.listClear chk first last s).atStore

theorem endEdit (m : Message) (e : EditEnd) : WorkAtStore e.state (endEdit m e) := by
  unfold Machine.endEdit
  refine trans (trans (trans ?_ (releaseSignal _ _)) (sendReply _ _ _ _)) (handlerIdle _)
  split
  · exact .refl _
  · exact raise _ _

theorem endWalk (m : Message) (r : ReplyResult) (n : Nat) (b : Bool) (s : State) :
    WorkAtStore s (endWalk m r n b s) :=
  endEdit m ⟨s, r, u24 m.payload 0, 0, n, b⟩

theorem hold (m : Message) (p : Phase) (s : State) : WorkAtStore s (hold m p s) := (StoreWork.phase _ s).atStore

theorem askForStep (s : State) : WorkAtStore s (askForStep s) := by
  unfold Machine.askForStep
  split
  · exact .refl s
  · exact request _ _

theorem trimRecord (d : Deltas) (e : Entry) (v : BodyView) (s : State) : WorkAtStore s (trimRecord d e v s).1 :=
  (ListWork.trimRecord d e v s).atStore

theorem trimStep (chk : Checks) (m : Message) (w : Walk) (s : State) : WorkAtStore s (trimStep chk m w s) := by
  have hx := examineStore (walkStop (u24 m.payload 0) w) chk s
  unfold Machine.trimStep
  dsimp only
  split
  · exact endWalk m _ _ _ s
  · split
    · exact hx.trans (endWalk m _ _ _ _)
    · next e _ =>
      have hr := hx.trans (readBody .edit chk e _)
      split
      · exact (hr.trans (trimRecord _ _ _ _)).trans (endWalk m _ _ _ _)
      · exact ((hr.trans (trimRecord _ _ _ _)).trans (hold m _ _)).trans (releaseSignal _ _)

theorem queryScene (chk : Checks) (f : Nat) (s : State) : WorkAtStore s (queryScene chk f s).state :=
  (ListWork.queryScene chk f s).atStore

theorem streamStep (chk : Checks) (c : Stream) (s : State) : WorkAtStore s (streamStep chk c s).1 := by
  have hx := examineStore (streamStop c) chk s
  unfold Machine.streamStep
  dsimp only
  split
  · split
    · exact (hx.trans (readBody _ _ _ _)).trans (handShared _ _)
    · exact hx.trans (handShared _ _)
  · exact hx.trans (handShared _ _)

theorem mergeRecord (chk : Checks) (r : Record) (s : State) : WorkAtStore s (mergeRecord chk r s).1 :=
  (ListWork.mergeRecord chk r s).atStore

theorem walkBack (chk : Checks) (es : List Entry) (s : State) : WorkAtStore s (walkBack chk es s).1 :=
  (ListWork.walkBack chk es s).atStore

theorem readGrade (chk : Checks) (l : Latch) (s : State) : WorkAtStore s (readGrade chk l s).1 :=
  (ListWork.readGrade chk l s).atStore

theorem scrubRecord (chk : Checks) (e : Entry) (s : State) : WorkAtStore s (scrubRecord chk e s).1 :=
  (ListWork.scrubRecord chk e s).atStore

theorem scrub (chk : Checks) (s : State) : WorkAtStore s (scrub chk s) := by
  unfold Machine.scrub
  dsimp only
  split
  · have hx := examineStore (fun n => decide (s.store.scrubCursor ≤ n)) chk s
    split
    · exact (hx.trans (scrubRecord _ _ _)).trans (triggerIf _ _)
    · have hy := hx.trans (examineStore (fun _ => true) chk _)
      split
      · exact (hy.trans (scrubRecord _ _ _)).trans (triggerIf _ _)
      · exact (hy.trans (ofStore _ _)).trans (triggerIf _ _)
  · exact .refl s

end WorkAtStore

/-! ### Work of the unit that follows the film -/

/-- The gate unit after an abort: GATE drops, and the punch is ABORTED with its out stamp (R161). -/
def State.abortedGate (s : State) : GateUnit :=
  { s.gate with
    gate := false,
    punch := { s.gate.punch with state := .aborted, outStamp := s.pcu.snapshot.fieldCount, unread := true } }

/-- `t` comes from `s` by a pulse, a POSITION or a reference loss: but for the unit itself only the punch, the request
for a resolution, the flags and the reports are touched. -/
structure FilmWork (s t : State) : Prop where
  part : t.part = s.part
  address : t.address = s.address
  config : t.config = s.config
  configSource : t.configSource = s.configSource
  store : t.store = s.store
  pipeline : t.pipeline = s.pipeline
  requester : t.requester = s.requester
  responder : t.responder = s.responder
  pending : t.pending = s.pending
  handler : t.handler = { s.handler with ignored := t.handler.ignored }
  cue : t.cue = { s.cue with txq := t.cue.txq }
  resolver : t.resolver = { s.resolver with
    inFlight := t.resolver.inFlight, rerun := t.resolver.rerun, latch := t.resolver.latch }
  snapshot : t.pcu.snapshot = s.pcu.snapshot
  gate : t.gate = s.gate ∨ t.gate = s.abortedGate
  events : t.events = { s.events with flags := t.events.flags }

namespace FilmWork

variable {s t u : State}

/-- Where the gate unit stands, every block is compared by itself. -/
theorem of_gate (h : t.gate = s.gate) (hrest : t = { s with
    pcu := t.pcu, arbiter := t.arbiter, resolver := { s.resolver with
      inFlight := t.resolver.inFlight, rerun := t.resolver.rerun, latch := t.resolver.latch },
    handler := { s.handler with ignored := t.handler.ignored }, cue := { s.cue with txq := t.cue.txq },
    events := { s.events with flags := t.events.flags } }) (hsnap : t.pcu.snapshot = s.pcu.snapshot) : FilmWork s t := by
  constructor
  case gate => exact .inl h
  case snapshot => exact hsnap
  all_goals rw [hrest]

protected theorem refl (s : State) : FilmWork s s := of_gate rfl rfl rfl

theorem trans (h : FilmWork s t) (g : FilmWork t u) : FilmWork s u where
  part := g.part.trans h.part
  address := g.address.trans h.address
  config := g.config.trans h.config
  configSource := g.configSource.trans h.configSource
  store := g.store.trans h.store
  pipeline := g.pipeline.trans h.pipeline
  requester := g.requester.trans h.requester
  responder := g.responder.trans h.responder
  pending := g.pending.trans h.pending
  handler := by rw [g.handler, h.handler]
  cue := by rw [g.cue, h.cue]
  resolver := by rw [g.resolver, h.resolver]
  snapshot := g.snapshot.trans h.snapshot
  gate := by
    have hagain : t.abortedGate = s.abortedGate := by
      obtain hs | hs := h.gate <;> simp [State.abortedGate, hs, h.snapshot]
    obtain hg | hg := g.gate
    · rw [hg]; exact h.gate
    · exact .inr (hg.trans hagain)
  events := by rw [g.events, h.events]

theorem up (h : FilmWork s t) : t.up = s.up := up_of_part h.part

/-- The unit's own state is not spoken of. -/
theorem ofPcu (s : State) (p : Pcu) (h : p.snapshot = s.pcu.snapshot := by rfl) : FilmWork s { s with pcu := p } :=
  of_gate rfl rfl h

theorem raise (f : EventFlag) (s : State) : FilmWork s (raise f s) :=
  of_gate (by simp) (by rw [raise_spec]) (by simp)

theorem ignore (s : State) : FilmWork s (ignore s) := of_gate rfl rfl rfl

theorem abortPunch (s : State) : FilmWork s (abortPunch s) := by
  unfold Machine.abortPunch
  split
  · have hgate : FilmWork s { s with gate := s.abortedGate } := by
      constructor
      case gate => exact .inr rfl
      all_goals rfl
    exact hgate.trans (raise _ _)
  · exact .refl s

theorem requestResolver (s : State) : FilmWork s (request .resolver s) := by
  unfold request
  split
  · exact of_gate rfl rfl rfl
  · exact of_gate rfl rfl rfl

theorem trigger (s : State) : FilmWork s (trigger s) := by
  have hres (f r : Bool) : FilmWork s { s with resolver := { s.resolver with inFlight := f, rerun := r } } :=
    of_gate rfl rfl rfl
  unfold Machine.trigger
  split
  · split
    · exact hres _ _
    · exact (hres true s.resolver.rerun).trans (requestResolver _)
  · exact .refl s

theorem triggerIf (b : Bool) (s : State) : FilmWork s (triggerIf b s) := by
  cases b
  · exact .refl s
  · exact trigger s

theorem cadenceCheck (s : State) : FilmWork s (cadenceCheck s) := by
  unfold Machine.cadenceCheck
  dsimp only
  split
  · exact .refl s
  · split
    · exact ofPcu s _
    · exact (ofPcu s _).trans (raise _ _)
  · split
    · exact ofPcu s _
    · split
      · exact ofPcu s _
      · exact .refl s

theorem slip (s : State) : FilmWork s (slip s) := (ofPcu s _).trans (raise _ _)

theorem followPosition (v : SpeedClass) (p : Option (BitVec 2)) (s : State) : FilmWork s (followPosition v p s) := by
  unfold Machine.followPosition
  dsimp only
  split
  · exact ofPcu s _
  · exact (ofPcu s _).trans (abortPunch _)

theorem applyHeld (h : HeldPosition) (s : State) : FilmWork s (applyHeld h s) := by
  unfold Machine.applyHeld
  refine trans ?_ (followPosition _ _ _)
  dsimp only
  split
  · exact ofPcu s _
  · exact (ofPcu s _).trans (slip _)

theorem moveGate (s : State) : FilmWork s (moveGate s) := by
  unfold Machine.moveGate
  dsimp only
  split
  · exact ofPcu s _
  · split
    · exact applyHeld _ s
    · exact ofPcu s _

theorem framePulse (d : Bool) (s : State) : FilmWork s (framePulse d s) := by
  unfold Machine.framePulse
  refine trans (trans (trans (trans ?_ (cadenceCheck _)) (ofPcu _ _)) (moveGate _)) (trigger _)
  cases d
  · exact (ofPcu s _).trans (abortPunch _)
  · exact ofPcu s _

theorem reconcile (h : HeldPosition) (d : Nat) (s : State) : FilmWork s (reconcile h d s) := by
  unfold Machine.reconcile
  refine trans (trans ?_ (followPosition _ _ _)) (triggerIf _ _)
  exact iteInduction (motive := FilmWork s) (fun _ => ofPcu s _) (fun _ => (ofPcu s _).trans (slip _))

theorem handPosition (m : Message) (s : State) : FilmWork s (handPosition m s) := by
  unfold Machine.handPosition
  split
  · split
    · exact ignore s
    · unfold takePosition
      dsimp only
      split
      · exact ofPcu s _
      · exact reconcile _ _ s
  · exact ignore s

end FilmWork

/-! ### Work of the receiver -/

/-- `t` comes from `s` by the taking of characters: the line, the flags and the reports alone are touched. -/
structure LineWork (s t : State) : Prop where
  rest : t = { s with cue := t.cue, events := { s.events with flags := t.events.flags } }
  cue : t.cue = { t.cue with
    receiverOn := s.cue.receiverOn, txAbandons := s.cue.txAbandons, tx := s.cue.tx, idle := s.cue.idle,
    yieldMark := s.cue.yieldMark }

namespace LineWork

variable {s t u : State}

theorem trans (h : LineWork s t) (g : LineWork t u) : LineWork s u where
  rest := by rw [g.rest, h.rest]
  cue := by rw [g.cue, h.cue]

theorem raise (f : EventFlag) (s : State) : LineWork s (raise f s) where
  rest := by rw [raise_spec]
  cue := by rw [raise_spec]

theorem receiveError (k : LineErrorKind) (cs : List Byte) (s : State) : LineWork s (receiveError k cs s) :=
  trans (t := { s with cue := _ }) (by constructor <;> rfl) (raise _ _)

theorem applyFilter (d : Byte) (s : State) : LineWork s (applyFilter d s) := by
  unfold Machine.applyFilter
  split <;> constructor <;> rfl

theorem route (m : Message) (s : State) : LineWork s (route m s) := by
  unfold Machine.route
  split
  · constructor <;> rfl
  · split
    · constructor <;> rfl
    · exact trans (t := { s with cue := _ }) (by constructor <;> rfl) (raise _ _)

theorem applyOutcome (c : RxChar) (o : RxOutcome) (s : State) : LineWork s (applyOutcome c o s) := by
  unfold Machine.applyOutcome
  split
  · constructor <;> rfl
  · exact applyFilter _ _
  · exact (receiveError _ _ _).trans (applyFilter _ _)
  · exact receiveError _ _ _
  · constructor <;> rfl
  · constructor <;> rfl
  · exact trans (t := { s with cue := _ }) (by constructor <;> rfl) (route _ _)

end LineWork

end Sys2Proof.Machine
end

section
/-! PROOF. The scene list keeps its form (R19 to R22, R173, R174), and a frozen store takes no record (R39, R46): what a
check or a body read can do to the list, what each edit does to it, and the two invariants. -/

namespace Sys2Proof.Machine

/-! ### Entries that differ by their marks -/

/-- `b` is the entry `a`, but for marks that came. -/
abbrev Entry.MarkedFrom (a b : Entry) : Prop :=
  b = { a with faulty := b.faulty, damaged := b.damaged } ∧ (a.faulty = true → b.faulty = true)
    ∧ (a.damaged = true → b.damaged = true)

theorem Entry.MarkedFrom.refl (e : Entry) : e.MarkedFrom e := ⟨rfl, id, id⟩

theorem Entry.MarkedFrom.trans {a b c : Entry} (h : a.MarkedFrom b) (g : b.MarkedFrom c) : a.MarkedFrom c :=
  ⟨by rw [g.1, h.1], g.2.1 ∘ h.2.1, g.2.2 ∘ h.2.2⟩

theorem Entry.MarkedFrom.start {a b : Entry} (h : a.MarkedFrom b) : b.start = a.start := by rw [h.1]
theorem Entry.MarkedFrom.knotCount {a b : Entry} (h : a.MarkedFrom b) : b.knotCount = a.knotCount := by rw [h.1]
theorem Entry.MarkedFrom.revision {a b : Entry} (h : a.MarkedFrom b) : b.revision = a.revision := by rw [h.1]
theorem Entry.MarkedFrom.body {a b : Entry} (h : a.MarkedFrom b) : b.body = a.body := by rw [h.1]

theorem Entry.MarkedFrom.ok {a b : Entry} (h : a.MarkedFrom b) (ha : a.ok) : b.ok := by
  simpa only [Entry.ok, h.start, h.knotCount, h.revision, h.body] using ha

/-- The list, entry by entry, but for marks that came. -/
inductive ListMarked : List Entry → List Entry → Prop where
  | nil : ListMarked [] []
  | cons {a b : Entry} {as bs : List Entry} (hd : a.MarkedFrom b) (tl : ListMarked as bs) : ListMarked (a :: as) (b :: bs)

theorem ListMarked.refl : ∀ l : List Entry, ListMarked l l
  | [] => .nil
  | e :: es => .cons (.refl e) (ListMarked.refl es)

theorem ListMarked.length_eq {a b : List Entry} (h : ListMarked a b) : a.length = b.length := by
  induction h with
  | nil => rfl
  | cons _ _ ih => exact congrArg (· + 1) ih

theorem ListMarked.trans {a b c : List Entry} (h : ListMarked a b) (g : ListMarked b c) : ListMarked a c := by
  induction h generalizing c with
  | nil => cases g; exact .nil
  | cons hd _ ih => cases g with | cons gd gt => exact .cons (hd.trans gd) (ih gt)

theorem ListMarked.mem {a b : List Entry} (h : ListMarked a b) {e : Entry} (he : e ∈ b) :
    ∃ o ∈ a, o.MarkedFrom e := by
  induction h with
  | nil => cases he
  | cons hd _ ih =>
    cases he with
    | head => exact ⟨_, List.mem_cons_self, hd⟩
    | tail _ he => obtain ⟨o, ho, hm⟩ := ih he; exact ⟨o, List.mem_cons_of_mem _ ho, hm⟩

theorem ListMarked.heldKnots {a b : List Entry} (h : ListMarked a b) : heldKnots b = heldKnots a := by
  induction h with
  | nil => rfl
  | cons hd _ ih => simp only [Machine.heldKnots, List.map_cons, List.sum_cons, hd.knotCount] at ih ⊢; omega

/-- The starts of the sound entries, in the order of the list (R21). -/
abbrev soundStarts (idx : List Entry) : List Nat := (soundEntries idx).map Entry.start

theorem soundStarts_cons (e : Entry) (es : List Entry) :
    soundStarts (e :: es) = if e.faulty then soundStarts es else e.start :: soundStarts es := by
  simp only [soundStarts, soundEntries, List.filter_cons]
  cases e.faulty <;> rfl

theorem mem_soundStarts {n : Nat} {idx : List Entry} :
    n ∈ soundStarts idx ↔ ∃ e ∈ idx, e.faulty = false ∧ e.start = n := by
  simp [soundStarts, soundEntries, and_assoc]

theorem mem_soundStarts_iff_recordAtStart {n : Nat} {idx : List Entry} :
    n ∈ soundStarts idx ↔ recordAtStart n idx ≠ none := by
  rw [mem_soundStarts, ne_eq, recordAtStart, List.find?_eq_none]
  simp

theorem ListMarked.soundStarts {a b : List Entry} (h : ListMarked a b) :
    (soundStarts b).Sublist (soundStarts a) := by
  induction h with
  | nil => exact .slnil
  | @cons x y _ _ hd _ ih =>
    rw [soundStarts_cons, soundStarts_cons, hd.start]
    cases hy : y.faulty <;> cases hx : x.faulty
    · exact ih.cons_cons _
    · rw [hd.2.1 hx] at hy; cases hy
    · exact ih.cons _
    · exact ih

/-! ### What checks and body reads do to the store -/

/-- `b` is the store `a`, but for marks that came: a new faulty entry freezes it, and it does not thaw. -/
structure OnlyMarks (a b : Store) : Prop where
  entries : ListMarked a.index b.index
  freeKnots : b.freeKnots = a.freeKnots
  scrubCursor : b.scrubCursor = a.scrubCursor
  frozen : a.frozen = true → b.frozen = true
  form : a.frozen = a.index.any Entry.faulty → b.frozen = b.index.any Entry.faulty

protected theorem OnlyMarks.refl (a : Store) : OnlyMarks a a := ⟨.refl _, rfl, rfl, id, id⟩

theorem OnlyMarks.of_eq {a b : Store} (h : b = a) : OnlyMarks a b := h ▸ .refl a

theorem OnlyMarks.trans {a b c : Store} (h : OnlyMarks a b) (g : OnlyMarks b c) : OnlyMarks a c :=
  ⟨h.entries.trans g.entries, g.freeKnots.trans h.freeKnots, g.scrubCursor.trans h.scrubCursor,
    g.frozen ∘ h.frozen, g.form ∘ h.form⟩

theorem pairwise_starts_iff (idx : List Entry) :
    (soundEntries idx).Pairwise (fun a b => a.start < b.start) ↔ (soundStarts idx).Pairwise (· < ·) :=
  List.pairwise_map.symm

theorem OnlyMarks.ok {a b : Store} (h : OnlyMarks a b) (ha : a.ok) : b.ok := by
  obtain ⟨hlen, hall, hord, hpool, hfrozen, hcur⟩ := ha
  rw [pairwise_starts_iff] at hord
  refine ⟨by rw [← h.entries.length_eq]; exact hlen, fun e he => ?_, ?_, ?_, h.form hfrozen, ?_⟩
  · obtain ⟨o, ho, hm⟩ := h.entries.mem he
    exact hm.ok (hall o ho)
  · rw [pairwise_starts_iff]; exact hord.sublist h.entries.soundStarts
  · rw [h.entries.heldKnots, h.freeKnots]; exact hpool
  · rw [h.scrubCursor]; exact hcur

theorem examine_marks (stop : Nat → Bool) (bad : List Nat) (idx : List Entry) :
    ListMarked idx (examine stop bad idx).1
      ∧ (examine stop bad idx).1.any Entry.faulty = (idx.any Entry.faulty || (examine stop bad idx).2) := by
  induction idx with
  | nil => exact ⟨.nil, rfl⟩
  | cons e es ih =>
    obtain ⟨hm, ha⟩ := ih
    have hmark : e.MarkedFrom { e with faulty := true } := ⟨rfl, fun _ => rfl, id⟩
    unfold examine
    cases hf : e.faulty
    · cases List.contains bad e.start
      · cases stop e.start
        · exact ⟨.cons (.refl e) hm, by simp [ha, hf]⟩
        · exact ⟨.refl _, by simp⟩
      · exact ⟨.cons hmark hm, by simp⟩
    · exact ⟨.cons (.refl e) hm, by simp [hf]⟩

theorem examineStore_marks (stop : Nat → Bool) (chk : Checks) (s : State) :
    OnlyMarks s.store (examineStore stop chk s).1.store := by
  obtain ⟨hm, ha⟩ := examine_marks stop chk.parity s.store.index
  unfold examineStore
  dsimp only
  split
  · next h =>
    rw [raise_store]
    exact ⟨hm, rfl, rfl, fun _ => rfl, fun _ => by rw [ha, h, Bool.or_true]⟩
  · exact .refl _

theorem updateEntry_damaged_marks (start : Nat) (idx : List Entry) :
    ListMarked idx (updateEntry start (fun e => { e with damaged := true }) idx)
      ∧ (updateEntry start (fun e => { e with damaged := true }) idx).any Entry.faulty = idx.any Entry.faulty := by
  induction idx with
  | nil => exact ⟨.nil, rfl⟩
  | cons e es ih =>
    obtain ⟨hm, ha⟩ := ih
    rw [updateEntry] at hm ha ⊢
    rw [List.map_cons, List.any_cons, List.any_cons, ha]
    split
    · exact ⟨.cons ⟨rfl, id, fun _ => rfl⟩ hm, rfl⟩
    · exact ⟨.cons (.refl e) hm, rfl⟩

theorem readBody_marks (op : StoreOp) (chk : Checks) (e : Entry) (s : State) :
    OnlyMarks s.store (readBody op chk e s).state.store := by
  unfold readBody
  split
  · exact .refl _
  · split
    · exact .refl _
    · rw [raise_store]; exact .refl _
    · rw [raise_store]
      obtain ⟨hm, ha⟩ := updateEntry_damaged_marks e.start s.store.index
      exact ⟨hm, rfl, rfl, id, fun h => h.trans ha.symm⟩

theorem walkBack_marks (chk : Checks) (es : List Entry) (s : State) :
    OnlyMarks s.store (walkBack chk es s).1.store := by
  induction es generalizing s with
  | nil => exact .refl _
  | cons e es ih =>
    unfold walkBack
    dsimp only
    split
    · exact readBody_marks _ _ _ _
    · exact (readBody_marks _ _ _ _).trans (ih _)

theorem readGrade_marks (chk : Checks) (l : Latch) (s : State) :
    OnlyMarks s.store (readGrade chk l s).1.store := by
  unfold readGrade
  dsimp only
  split
  · exact .refl _
  · next g back _ =>
    have hr := readBody_marks .resolve chk g s
    split
    · exact hr.trans (walkBack_marks _ _ _)
    · split
      · exact hr.trans (walkBack_marks _ _ _)
      · exact hr

theorem resolve_marks (chk : Checks) (l : Latch) (s : State) : OnlyMarks s.store (resolve chk l s).store := by
  unfold resolve
  dsimp only
  rw [release_store]
  exact (examineStore_marks _ _ _).trans (readGrade_marks chk l _)

theorem streamStep_marks (chk : Checks) (c : Stream) (s : State) :
    OnlyMarks s.store (streamStep chk c s).1.store := by
  have hx := examineStore_marks (streamStop c) chk s
  unfold streamStep
  dsimp only
  split
  · split
    · rw [handShared_store]; exact hx.trans (readBody_marks _ _ _ _)
    · rw [handShared_store]; exact hx
  · rw [handShared_store]; exact hx

theorem advanceStream_store (sent : Option Nat) (s : State) : (advanceStream sent s).store = s.store := by
  cases sent <;> rfl

theorem queryScene_marks (chk : Checks) (f : Nat) (s : State) :
    OnlyMarks s.store (queryScene chk f s).state.store := by
  have hx := examineStore_marks (fun n => decide (f < n)) chk s
  unfold queryScene
  dsimp only
  split
  · exact hx
  · exact hx.trans (readBody_marks _ _ _ _)

/-! ### The scrub step moves the cursor besides (R175) -/

/-- But for marks and the cursor, which is a frame where the starts are. -/
structure OnlyScrubs (a b : Store) : Prop where
  entries : ListMarked a.index b.index
  freeKnots : b.freeKnots = a.freeKnots
  frozen : a.frozen = true → b.frozen = true
  ok : a.ok → b.ok

theorem OnlyMarks.scrubs {a b : Store} (h : OnlyMarks a b) : OnlyScrubs a b :=
  ⟨h.entries, h.freeKnots, h.frozen, h.ok⟩

theorem OnlyScrubs.trans {a b c : Store} (h : OnlyScrubs a b) (g : OnlyScrubs b c) : OnlyScrubs a c :=
  ⟨h.entries.trans g.entries, g.freeKnots.trans h.freeKnots, g.frozen ∘ h.frozen, g.ok ∘ h.ok⟩

theorem setCursor_scrubs (st : Store) {c : Nat} (hc : st.ok → c ≤ maxFrame) :
    OnlyScrubs st { st with scrubCursor := c } :=
  ⟨.refl _, rfl, id, fun h =>
    have ⟨hlen, hall, hord, hpool, hfrozen, _⟩ := h
    ⟨hlen, hall, hord, hpool, hfrozen, hc h⟩⟩

theorem nextAfter_start_le {st : Store} (h : st.ok) (n : Nat) :
    ((nextAfter n st.index).map Entry.start).getD 0 ≤ maxFrame := by
  cases hn : nextAfter n st.index with
  | none => exact Nat.zero_le _
  | some e => exact (h.2.1 e (List.mem_of_find?_eq_some hn)).1

theorem scrubRecord_scrubs (chk : Checks) (e : Entry) (s : State) :
    OnlyScrubs s.store (scrubRecord chk e s).1.store :=
  ((readBody_marks .scrub chk e s).trans (examineStore_marks _ chk _)).scrubs.trans
    (setCursor_scrubs _ fun h => nextAfter_start_le h _)

theorem scrub_scrubs (chk : Checks) (s : State) : OnlyScrubs s.store (scrub chk s).store := by
  unfold scrub
  dsimp only
  split
  · have hx := examineStore_marks (fun n => decide (s.store.scrubCursor ≤ n)) chk s
    split
    · rw [triggerIf_store]; exact hx.scrubs.trans (scrubRecord_scrubs _ _ _)
    · have hy := hx.trans (examineStore_marks (fun _ => true) chk _)
      split
      · rw [triggerIf_store]; exact hy.scrubs.trans (scrubRecord_scrubs _ _ _)
      · rw [triggerIf_store]
        exact hy.scrubs.trans (setCursor_scrubs _ fun _ => Nat.zero_le _)
  · exact (OnlyMarks.refl _).scrubs

end Sys2Proof.Machine
end

section
/-! PROOF. What each edit does to the list's form (R19 to R22, R29 to R39), and the two invariants of the scene list. -/

namespace Sys2Proof.Machine

/-! ### The values an edit stores are in range (R19, R20, R26) -/

theorem clamp_within (lo hi x : Int) (h : lo ≤ hi) : lo ≤ clamp lo hi x ∧ clamp lo hi x ≤ hi := by
  rw [clamp_eq lo hi x h]; omega

theorem Rgb.clamped_within (lo hi : Int) (v : Rgb) (h : lo ≤ hi) : (v.clamped lo hi).within lo hi :=
  ⟨clamp_within lo hi _ h, clamp_within lo hi _ h, clamp_within lo hi _ h⟩

theorem ascending_map_clampKnot (ks : List Knot) : ascending (ks.map clampKnot) = ascending ks := by
  induction ks with
  | nil => rfl
  | cons a rest ih =>
    cases rest with
    | nil => rfl
    | cons b ks =>
      simp only [List.map_cons, ascending] at ih ⊢
      rw [ih]; rfl

theorem knotsFault_map_clampKnot (ks : List Knot) : knotsFault (ks.map clampKnot) = knotsFault ks := by
  simp only [knotsFault, ascending_map_clampKnot, List.any_map, List.length_map]
  rfl

theorem clampKnot_y_le (k : Knot) : (clampKnot k).y ≤ 1023 := by
  unfold clampKnot; dsimp only; split <;> omega

theorem Curve.clamped_ok {c : Curve} (h : c.fault = false) : c.clamped.ok := by
  cases c with
  | preset i => exact ⟨h, by simp [Curve.clamped, Curve.ownKnots]⟩
  | knots ks =>
    refine ⟨(knotsFault_map_clampKnot ks).trans h, fun k hk => ?_⟩
    obtain ⟨k', -, rfl⟩ := List.mem_map.1 hk
    exact clampKnot_y_le k'

theorem Grade.clamped_ok {g : Grade} (h : g.curve.fault = false) : g.clamped.ok :=
  ⟨Rgb.clamped_within _ _ _ (by decide), Rgb.clamped_within _ _ _ (by decide), Rgb.clamped_within _ _ _ (by decide),
    clamp_within _ _ _ (by decide), Curve.clamped_ok h⟩

theorem Grade.trimmed_ok {g : Grade} (d : Deltas) (h : g.ok) : (g.trimmed d).ok :=
  ⟨Rgb.clamped_within _ _ _ (by decide), Rgb.clamped_within _ _ _ (by decide), Rgb.clamped_within _ _ _ (by decide),
    clamp_within _ _ _ (by decide), h.2.2.2.2⟩

theorem u8_le (p : List Byte) (i : Nat) : u8 p i ≤ 255 := by
  have := (p.getD i 0).isLt
  unfold u8; omega

theorem u16_le (p : List Byte) (i : Nat) : u16 p i ≤ 65535 := by
  have := u8_le p i; have := u8_le p (i + 1)
  unfold u16; omega

theorem u24_le (p : List Byte) (i : Nat) : u24 p i ≤ 16777215 := by
  have := u8_le p i; have := u8_le p (i + 1); have := u8_le p (i + 2)
  unfold u24; omega

theorem map_clamped_ok {o : Option Grade} (h : gradeFault o = false) : ∀ g ∈ o.map Grade.clamped, g.ok := by
  cases o with
  | none => simp
  | some g => simpa using Grade.clamped_ok h

theorem Record.body_ok {r : Record} (hid : r.sceneId ≤ 65535) (h : r.fault = false) : r.body.ok := by
  simp only [Record.fault, Bool.or_eq_false_iff] at h
  refine ⟨hid, ?_, map_clamped_ok h.2⟩
  unfold Record.body; dsimp only; split <;> omega

theorem Record.start_le {r : Record} (h : r.fault = false) : r.start ≤ maxFrame := by
  simp only [Record.fault, Bool.or_eq_false_iff, decide_eq_false_iff_not] at h
  omega

theorem nextRevision_le (n : Nat) : nextRevision n ≤ 255 := by rw [nextRevision_eq_min]; omega

theorem Entry.fresh_ok {start revision : Nat} {b : Body} (hs : start ≤ maxFrame) (hr : revision ≤ 255) (hb : b.ok) :
    (Entry.fresh start revision b).ok :=
  ⟨hs, hr, rfl, hb⟩

theorem Body.lost_ok : Body.lost.ok := ⟨Nat.zero_le _, Nat.zero_le _, by simp [Body.lost]⟩

/-- The body a read gives is the record's, or that of a damaged one. -/
theorem readBody_view (op : StoreOp) (chk : Checks) (e : Entry) (s : State) :
    (readBody op chk e s).view = BodyView.lost ∨ (readBody op chk e s).view = ⟨false, e.body⟩ := by
  unfold readBody
  split
  · exact .inl rfl
  · split
    · exact .inr rfl
    · exact .inr rfl
    · exact .inl rfl

theorem readBody_view_ok {e : Entry} (op : StoreOp) (chk : Checks) (s : State) (h : e.ok) :
    (readBody op chk e s).view.body.ok := by
  obtain hv | hv := readBody_view op chk e s <;> rw [hv]
  · exact Body.lost_ok
  · exact h.2.2.2

/-! ### A record put in its place (R21, R22) -/

theorem any_faulty_insertEntry {n : Entry} (hn : n.faulty = false) (idx : List Entry) :
    (insertEntry n idx).any Entry.faulty = idx.any Entry.faulty := by
  induction idx with
  | nil => simp [insertEntry, hn]
  | cons e es ih =>
    unfold insertEntry
    split
    · simp [hn]
    · simp [ih]

theorem heldKnots_cons (e : Entry) (es : List Entry) : heldKnots (e :: es) = e.knotCount + heldKnots es := rfl

theorem heldKnots_insertEntry (n : Entry) (idx : List Entry) :
    heldKnots (insertEntry n idx) = n.knotCount + heldKnots idx := by
  induction idx with
  | nil => rfl
  | cons e es ih =>
    unfold insertEntry
    split
    · rfl
    · rw [heldKnots_cons, heldKnots_cons, ih]; omega

theorem mem_insertEntry {x n : Entry} {idx : List Entry} (h : x ∈ insertEntry n idx) : x = n ∨ x ∈ idx := by
  induction idx with
  | nil => exact .inl (List.mem_singleton.1 h)
  | cons e es ih =>
    unfold insertEntry at h
    split at h
    · simpa using h
    · obtain rfl | h := List.mem_cons.1 h
      · exact .inr List.mem_cons_self
      · exact (ih h).imp_right (List.mem_cons_of_mem _)

theorem soundStarts_insertEntry {n : Entry} (hn : n.faulty = false) {idx : List Entry}
    (hord : (soundStarts idx).Pairwise (· < ·)) (hnew : n.start ∉ soundStarts idx) :
    (soundStarts (insertEntry n idx)).Pairwise (· < ·) := by
  induction idx with
  | nil => simp [insertEntry, hn, soundStarts, soundEntries]
  | cons e es ih =>
    rw [soundStarts_cons] at hord hnew
    unfold insertEntry
    cases he : e.faulty
    · simp only [he, if_false, Bool.false_eq_true, List.pairwise_cons, List.mem_cons, not_or] at hord hnew
      by_cases hlt : n.start < e.start
      · rw [if_pos (by simp [hlt]), soundStarts_cons, soundStarts_cons]
        simp only [hn, he, if_false, Bool.false_eq_true, List.pairwise_cons, List.mem_cons, forall_eq_or_imp]
        exact ⟨⟨hlt, fun x hx => Nat.lt_trans hlt (hord.1 x hx)⟩, hord⟩
      · rw [if_neg (by simp [hlt]), soundStarts_cons]
        simp only [he, if_false, Bool.false_eq_true, List.pairwise_cons]
        refine ⟨fun x hx => ?_, ih hord.2 hnew.2⟩
        obtain ⟨y, hy, hyf, rfl⟩ := mem_soundStarts.1 hx
        obtain rfl | hy := mem_insertEntry hy
        · omega
        · exact hord.1 _ (mem_soundStarts.2 ⟨y, hy, hyf, rfl⟩)
    · simp only [he, if_true] at hord hnew
      rw [if_neg (by simp), soundStarts_cons]
      simp only [he, if_true]
      exact ih hord hnew

/-- A new record with its knots taken from the pool. -/
theorem Store.ok_insert {st : Store} {n : Entry} (h : st.ok) (hn : n.ok) (hf : n.faulty = false)
    (hnew : recordAtStart n.start st.index = none) (hroom : st.index.length < listLimit)
    (hknots : n.knotCount ≤ st.freeKnots) :
    Store.ok { st with index := insertEntry n st.index, freeKnots := st.freeKnots - n.knotCount } := by
  obtain ⟨hlen, hall, hord, hpool, hfrozen, hcur⟩ := h
  rw [pairwise_starts_iff] at hord
  refine ⟨?_, fun e he => ?_, ?_, ?_, hfrozen.trans (any_faulty_insertEntry hf _).symm, hcur⟩
  · simp only [length_insertEntry]; omega
  · obtain rfl | he := mem_insertEntry he
    · exact hn
    · exact hall e he
  · rw [pairwise_starts_iff]
    exact soundStarts_insertEntry hf hord (by rw [mem_soundStarts_iff_recordAtStart]; simp [hnew])
  · simp only [heldKnots_insertEntry]; omega

/-! ### A record rewritten in its place (R22, R30, R36) -/

theorem updateEntry_cons (start : Nat) (f : Entry → Entry) (e : Entry) (es : List Entry) :
    updateEntry start f (e :: es) =
      (if e.faulty = false ∧ e.start = start then f e else e) :: updateEntry start f es := by
  simp [updateEntry]

theorem soundStarts_updateEntry {start : Nat} {f : Entry → Entry}
    (hf : ∀ e, e.faulty = false → e.start = start → (f e).faulty = false ∧ (f e).start = start) (idx : List Entry) :
    soundStarts (updateEntry start f idx) = soundStarts idx
      ∧ (updateEntry start f idx).any Entry.faulty = idx.any Entry.faulty := by
  induction idx with
  | nil => exact ⟨rfl, rfl⟩
  | cons e es ih =>
    obtain ⟨hs, ha⟩ := ih
    rw [updateEntry_cons, soundStarts_cons, soundStarts_cons, hs, List.any_cons, List.any_cons, ha]
    by_cases h : e.faulty = false ∧ e.start = start
    · rw [if_pos h, (hf e h.1 h.2).1, (hf e h.1 h.2).2, h.1, h.2]
      exact ⟨rfl, rfl⟩
    · rw [if_neg h]
      exact ⟨rfl, rfl⟩

/-- Off the starts of the list an update does nothing. -/
theorem updateEntry_absent {start : Nat} {f : Entry → Entry} {idx : List Entry} (h : start ∉ soundStarts idx) :
    updateEntry start f idx = idx := by
  unfold updateEntry
  refine (List.map_congr_left (g := id) fun e he => if_neg fun hc => h ?_).trans (List.map_id idx)
  simp only [Bool.and_eq_true, Bool.not_eq_true', decide_eq_true_eq] at hc
  exact mem_soundStarts.2 ⟨e, he, hc.1, hc.2⟩

/-- Starts are unique, so the knots held change by those of the one record. -/
theorem heldKnots_updateEntry {start k : Nat} {f : Entry → Entry} (hf : ∀ e, (f e).knotCount = k) {idx : List Entry}
    {e : Entry} (hord : (soundStarts idx).Pairwise (· < ·)) (h : recordAtStart start idx = some e) :
    heldKnots (updateEntry start f idx) + e.knotCount = heldKnots idx + k := by
  induction idx with
  | nil => cases h
  | cons a es ih =>
    rw [recordAtStart_cons] at h
    rw [soundStarts_cons] at hord
    by_cases hc : a.faulty = false ∧ a.start = start
    · rw [if_pos hc, Option.some.injEq] at h
      subst h
      rw [if_neg (by simp [hc.1]), List.pairwise_cons, hc.2] at hord
      have habs : start ∉ soundStarts es := fun hm => absurd (hord.1 start hm) (by omega)
      rw [updateEntry_cons, if_pos hc, updateEntry_absent habs, heldKnots_cons, heldKnots_cons, hf]; omega
    · rw [if_neg hc] at h
      have hord' : (soundStarts es).Pairwise (· < ·) := by
        split at hord
        · exact hord
        · exact (List.pairwise_cons.1 hord).2
      have := ih hord' h
      rw [updateEntry_cons, if_neg hc, heldKnots_cons, heldKnots_cons]; omega

theorem mem_updateEntry {x : Entry} {start : Nat} {f : Entry → Entry} {idx : List Entry}
    (h : x ∈ updateEntry start f idx) : x ∈ idx ∨ ∃ e ∈ idx, e.start = start ∧ x = f e := by
  obtain ⟨e, he, rfl⟩ := List.mem_map.1 h
  split
  · next hc =>
    simp only [Bool.and_eq_true, decide_eq_true_eq] at hc
    exact .inr ⟨e, he, hc.2, rfl⟩
  · exact .inl he

/-- A record rewritten: its old knots back to the pool, its new ones taken. -/
theorem Store.ok_rewrite {st : Store} {start k : Nat} {f : Entry → Entry} {e : Entry} (h : st.ok)
    (hat : recordAtStart start st.index = some e)
    (hf : ∀ e, e.faulty = false → e.start = start → (f e).faulty = false ∧ (f e).start = start)
    (hk : ∀ e, (f e).knotCount = k) (hok : ∀ e ∈ st.index, e.start = start → (f e).ok)
    (hknots : k ≤ st.freeKnots + e.knotCount) :
    Store.ok { st with index := updateEntry start f st.index, freeKnots := st.freeKnots + e.knotCount - k } := by
  obtain ⟨hlen, hall, hord, hpool, hfrozen, hcur⟩ := h
  rw [pairwise_starts_iff] at hord
  obtain ⟨hs, ha⟩ := soundStarts_updateEntry hf st.index
  have hheld := heldKnots_updateEntry hk hord hat
  refine ⟨by rw [length_updateEntry]; exact hlen, fun x hx => ?_, ?_, ?_, hfrozen.trans ha.symm, hcur⟩
  · obtain hx | ⟨o, ho, hos, rfl⟩ := mem_updateEntry hx
    · exact hall x hx
    · exact hok o ho hos
  · rw [pairwise_starts_iff, hs]; exact hord
  · dsimp only; omega

/-- A record rewritten with the knots it had. -/
theorem Store.ok_update {st : Store} {start : Nat} {f : Entry → Entry} (h : st.ok)
    (hf : ∀ e, e.faulty = false → e.start = start → (f e).faulty = false ∧ (f e).start = start)
    (hk : ∀ e, (f e).knotCount = e.knotCount) (hok : ∀ e ∈ st.index, e.start = start → e.faulty = false → (f e).ok) :
    Store.ok { st with index := updateEntry start f st.index } := by
  obtain ⟨hlen, hall, hord, hpool, hfrozen, hcur⟩ := h
  rw [pairwise_starts_iff] at hord
  obtain ⟨hs, ha⟩ := soundStarts_updateEntry hf st.index
  have hheld : heldKnots (updateEntry start f st.index) = heldKnots st.index := by
    unfold heldKnots updateEntry
    rw [List.map_map]
    congr 1
    refine List.map_congr_left fun e _ => ?_
    rw [Function.comp_apply]
    split
    · exact hk e
    · rfl
  refine ⟨by rw [length_updateEntry]; exact hlen, fun x hx => ?_, ?_, by rw [hheld]; exact hpool,
    hfrozen.trans ha.symm, hcur⟩
  · obtain ⟨o, ho, rfl⟩ := List.mem_map.1 hx
    split
    · next hc =>
      simp only [Bool.and_eq_true, Bool.not_eq_true', decide_eq_true_eq] at hc
      exact hok o ho hc.2 hc.1
    · exact hall o ho
  · rw [pairwise_starts_iff, hs]; exact hord

/-! ### Records removed (R34, R38) -/

theorem heldKnots_filter_add (p : Entry → Bool) (idx : List Entry) :
    heldKnots (idx.filter (fun e => !p e)) + heldKnots (idx.filter p) = heldKnots idx := by
  induction idx with
  | nil => rfl
  | cons e es ih =>
    rw [List.filter_cons, List.filter_cons]
    cases p e <;> simp only [heldKnots_cons, Bool.not_true, Bool.not_false, if_true, if_false, Bool.false_eq_true] <;> omega

theorem length_filter_add (p : Entry → Bool) (l : List Entry) :
    l.length = (l.filter p).length + (l.filter (fun e => !p e)).length := by
  induction l with
  | nil => rfl
  | cons e l ih =>
    rw [List.filter_cons, List.filter_cons]
    cases p e <;> simp only [Bool.not_true, Bool.not_false, if_true, if_false, Bool.false_eq_true, List.length_cons] <;> omega

/-- Sound records taken out, their knots back to the pool. -/
theorem Store.ok_filter {st : Store} (gone : Entry → Bool) (h : st.ok) (hgone : ∀ e, gone e = true → e.faulty = false) :
    Store.ok { st with
      index := st.index.filter (fun e => !gone e), freeKnots := st.freeKnots + heldKnots (st.index.filter gone) } := by
  obtain ⟨hlen, hall, hord, hpool, hfrozen, hcur⟩ := h
  have hsub : (st.index.filter (fun e => !gone e)).Sublist st.index := List.filter_sublist
  refine ⟨Nat.le_trans hsub.length_le hlen, fun e he => hall e (hsub.subset he), hord.sublist (hsub.filter _), ?_, ?_, hcur⟩
  · have := heldKnots_filter_add gone st.index; dsimp only; omega
  · rw [hfrozen, Bool.eq_iff_iff]
    simp only [List.any_eq_true, List.mem_filter]
    refine ⟨fun ⟨e, he, hf⟩ => ⟨e, ⟨he, ?_⟩, hf⟩, fun ⟨e, he, hf⟩ => ⟨e, he.1, hf⟩⟩
    cases hg : gone e
    · rfl
    · rw [hgone e hg] at hf; cases hf

/-- Whether an entry is the record of an edit at a start. -/
def isRecordAt (start : Nat) (e : Entry) : Bool := !e.faulty && decide (e.start = start)

theorem removeEntry_eq_filter (start : Nat) (idx : List Entry) :
    removeEntry start idx = idx.filter (fun e => !isRecordAt start e) := by
  unfold removeEntry isRecordAt
  refine List.filter_congr fun e _ => ?_
  cases e.faulty <;> simp

/-- Starts are unique, so one record is the one found. -/
theorem filter_isRecordAt {start : Nat} {idx : List Entry} (hord : (soundStarts idx).Pairwise (· < ·)) :
    idx.filter (isRecordAt start) = (recordAtStart start idx).toList := by
  induction idx with
  | nil => rfl
  | cons a es ih =>
    rw [soundStarts_cons] at hord
    rw [recordAtStart_cons, List.filter_cons]
    by_cases hc : a.faulty = false ∧ a.start = start
    · rw [if_pos hc, if_pos (by simp [isRecordAt, hc.1, hc.2])]
      rw [if_neg (by simp [hc.1]), List.pairwise_cons, hc.2] at hord
      have : es.filter (isRecordAt start) = [] := by
        rw [List.filter_eq_nil_iff]
        intro e he hr
        simp only [isRecordAt, Bool.and_eq_true, Bool.not_eq_true', decide_eq_true_eq] at hr
        exact absurd (hord.1 start (mem_soundStarts.2 ⟨e, he, hr.1, hr.2⟩)) (by omega)
      rw [this]; rfl
    · rw [if_neg hc, if_neg (by simpa [isRecordAt] using hc)]
      refine ih ?_
      split at hord
      · exact hord
      · exact (List.pairwise_cons.1 hord).2

/-- The record of a start taken out, its knots back to the pool. -/
theorem Store.ok_remove {st : Store} {start : Nat} {e : Entry} (h : st.ok)
    (hat : recordAtStart start st.index = some e) :
    Store.ok { st with index := removeEntry start st.index, freeKnots := st.freeKnots + e.knotCount } := by
  have hf := Store.ok_filter (isRecordAt start) h (fun e he => by simp [isRecordAt] at he; exact he.1)
  rw [filter_isRecordAt ((pairwise_starts_iff _).1 h.2.2.1), hat] at hf
  rw [removeEntry_eq_filter]
  exact hf

theorem Store.empty_ok : Store.empty.ok := by decide

end Sys2Proof.Machine
end

section
/-! PROOF. The edits keep the list's form, and the two invariants of the scene list. -/

namespace Sys2Proof.Machine

/-! ### The store after the larger operations -/

@[simp] theorem endEdit_store (m : Message) (e : EditEnd) : (endEdit m e).store = e.state.store := by
  unfold endEdit
  simp only [handlerIdle_store, sendReply_store, releaseSignal_store]
  split
  · rfl
  · exact raise_store _ _

@[simp] theorem endWalk_store (m : Message) (r : ReplyResult) (n : Nat) (b : Bool) (s : State) :
    (endWalk m r n b s).store = s.store :=
  endEdit_store m _

@[simp] theorem applyVerdict_store (m : Message) (v : Verdict) (s : State) : (applyVerdict m v s).store = s.store := by
  cases v <;> simp [applyVerdict]

@[simp] theorem enterJoining_store (s : State) : (enterJoining s).store = s.store := by simp [enterJoining]

@[simp] theorem takeConfig_store (image : List Byte) (s : State) : (takeConfig image s).store = s.store := by
  unfold takeConfig; split <;> rfl

@[simp] theorem autoFetch_store (s : State) : (autoFetch s).store = s.store := by
  unfold autoFetch
  split
  · rfl
  · split
    · simp
    · rfl

@[simp] theorem cancelPunch_store (s : State) : (cancelPunch s).store = s.store := by
  rw [cancelPunch_frame]

@[simp] theorem writeSettings_store (mode : ModeSetting) (mask : BitVec 15) (on : Bool) (s : State) :
    (writeSettings mode mask on s).store = s.store := by
  rw [writeSettings_eq]

@[simp] theorem partnerMismatch_store (p : Byte) (s : State) : (partnerMismatch p s).store = s.store := by
  unfold partnerMismatch
  dsimp only
  split <;> simp

@[simp] theorem countMerge_store (tag : BitVec 8) (o : MergeOutcome) (s : State) :
    (countMerge tag o s).store = s.store := by
  unfold countMerge
  split
  · cases o <;> rfl
  · rfl

@[simp] theorem dropPlace_store (s : State) : (dropPlace s).store = s.store := rfl

@[simp] theorem lineReset_store (s : State) : (lineReset s).store = s.store := rfl

/-- A field start in JOINING or RUNNING, up to its scrub step (R175). -/
def beforeScrub (s : State) : State :=
  let s := openField s
  let late := s.lateField
  let omitted := s.fieldOmitted
  let entered := s.entersScene
  let s := closeClip (enterScene (countHoldback s))
  let s := startGrading (evalPunch omitted (updateAmark (updateTally entered s)))
  countStatus (emitHeader (s.header late omitted) s)

theorem upField_eq (chk : Checks) (s : State) : upField chk s = scrub chk (beforeScrub s) := rfl

@[simp] theorem beforeScrub_store (s : State) : (beforeScrub s).store = s.store := by simp [beforeScrub, openField]

theorem upField_scrubs (chk : Checks) (s : State) : OnlyScrubs s.store (upField chk s).store := by
  have h := scrub_scrubs chk (beforeScrub s)
  rwa [beforeScrub_store, ← upField_eq] at h

/-! ### The edits keep the form -/

theorem sceneSet_ok (chk : Checks) {r : Record} {s : State} (h : s.store.ok) (hid : r.sceneId ≤ 65535) :
    (sceneSet chk r s).state.store.ok := by
  have hx := (examineStore_marks (fun n => decide (r.start ≤ n)) chk s).ok h
  unfold sceneSet
  split
  · exact h
  · split
    · exact h
    · next hfault =>
      have hbody := Record.body_ok hid (by simpa using hfault)
      have hstart := Record.start_le (r := r) (by simpa using hfault)
      dsimp only
      split
      · next hnone =>
        split
        · exact hx
        · next hlen =>
          split
          · exact hx
          · next hknots =>
            exact Store.ok_insert (n := Entry.fresh r.start 1 r.body) hx
              (Entry.fresh_ok hstart (by decide) hbody) rfl hnone (by omega) (Nat.le_of_not_lt hknots)
      · next e hsome =>
        split
        · exact hx
        · next hknots =>
          exact Store.ok_rewrite (k := r.body.knotCount) hx hsome (fun _ _ _ => ⟨rfl, rfl⟩) (fun _ => rfl)
            (fun _ _ _ => Entry.fresh_ok hstart (nextRevision_le _) hbody) (Nat.le_of_not_lt hknots)

/-- The sound entry at a start is still there after a body read, but for its damaged mark. -/
theorem recordAtStart_readBody (op : StoreOp) (chk : Checks) (e : Entry) (s : State) (n : Nat) {e' : Entry}
    (h : recordAtStart n s.store.index = some e') :
    ∃ e₂, recordAtStart n (readBody op chk e s).state.store.index = some e₂ ∧ e₂.knotCount = e'.knotCount := by
  unfold readBody
  split
  · exact ⟨e', h, rfl⟩
  · split
    · exact ⟨e', h, rfl⟩
    · rw [raise_store]; exact ⟨e', h, rfl⟩
    · rw [raise_store]
      dsimp only
      rw [recordAtStart_updateEntry n e.start (fun e => { e with damaged := true }) _ (fun _ hf hs => ⟨hf, hs⟩)]
      split
      · exact ⟨{ e' with damaged := true }, by rw [h]; rfl, rfl⟩
      · exact ⟨e', h, rfl⟩

theorem gradeSet_ok (chk : Checks) {start : Nat} {g : Option Grade} {s : State} (h : s.store.ok) :
    (gradeSet chk start g s).state.store.ok := by
  have hx := (examineStore_marks (fun n => decide (start ≤ n)) chk s).ok h
  unfold gradeSet
  split
  · exact h
  · split
    · exact h
    · next hfault =>
      simp only [Bool.or_eq_true, decide_eq_true_eq, not_or, Bool.not_eq_true] at hfault
      dsimp only
      split
      · exact hx
      · next e hsome =>
        have hr := (readBody_marks .edit chk e _).ok hx
        split
        · exact hr
        · next hknots =>
          obtain ⟨e₂, he₂, hcount⟩ := recordAtStart_readBody .edit chk e _ start hsome
          have hview := readBody_view_ok .edit chk (examineStore (fun n => decide (start ≤ n)) chk s).1
            (hx.2.1 e (recordAtStart_some hsome).2.2)
          have hbody : Body.ok { (readBody .edit chk e (examineStore (fun n => decide (start ≤ n)) chk s).1).view.body
              with grade := g.map Grade.clamped } :=
            ⟨hview.1, hview.2.1, map_clamped_ok hfault.2⟩
          unfold rewriteRecord
          rw [← hcount] at hknots ⊢
          exact Store.ok_rewrite hr he₂ (fun _ _ _ => ⟨rfl, rfl⟩) (fun _ => rfl)
            (fun _ _ _ => Entry.fresh_ok (Nat.le_of_not_lt hfault.1) (nextRevision_le _) hbody)
            (Nat.le_of_not_lt hknots)

/-- A record re-keyed to a start that holds none. -/
theorem Store.ok_move {st : Store} {src dest : Nat} {e : Entry} (h : st.ok)
    (hsrc : recordAtStart src st.index = some e) (hdest : recordAtStart dest st.index = none)
    (hframe : dest ≤ maxFrame) : Store.ok { st with index := moveEntry e dest st.index } := by
  obtain ⟨hes, hef, hemem⟩ := recordAtStart_some hsrc
  have hrem := Store.ok_remove h hsrc
  have hlen : (removeEntry src st.index).length < st.index.length := by
    refine List.length_filter_lt_length_iff_exists.2 ⟨e, hemem, by simp [hef, hes]⟩
  have heok := h.2.1 e hemem
  have hins := Store.ok_insert (n := { e with start := dest, revision := nextRevision e.revision }) hrem
    ⟨hframe, nextRevision_le _, heok.2.2⟩ hef
    (by dsimp only; rw [recordAtStart_removeEntry]; split <;> simp [hdest])
    (Nat.lt_of_lt_of_le hlen h.1) (Nat.le_add_left _ _)
  simpa [moveEntry, hes] using hins

theorem sceneMove_ok (chk : Checks) {src dest : Nat} {s : State} (h : s.store.ok) :
    (sceneMove chk src dest s).state.store.ok := by
  have hx := (examineStore_marks (fun n => decide (src ≤ n)) chk s).ok h
  unfold sceneMove
  split
  · exact h
  · split
    · exact h
    · next hframes =>
      dsimp only
      split
      · exact hx
      · split
        · exact Store.ok_update hx (fun _ hf hs => ⟨hf, hs⟩) (fun _ => rfl)
            (fun e he _ _ => ⟨(hx.2.1 e he).1, nextRevision_le _, (hx.2.1 e he).2.2⟩)
        · have hy := (examineStore_marks (fun n => decide (dest ≤ n)) chk _).ok hx
          split
          · exact hy
          · exact hy
          · next hsome hnone => exact Store.ok_move hy hsome hnone (by omega)

theorem sceneDelete_ok (chk : Checks) {start : Nat} {s : State} (h : s.store.ok) :
    (sceneDelete chk start s).state.store.ok := by
  have hx := (examineStore_marks (fun n => decide (start ≤ n)) chk s).ok h
  unfold sceneDelete
  split
  · exact h
  · split
    · exact h
    · dsimp only
      split
      · exact hx
      · next e hsome => exact Store.ok_remove hx hsome

theorem listClear_ok (chk : Checks) {first last : Nat} {s : State} (h : s.store.ok) :
    (listClear chk first last s).state.store.ok := by
  have hx := (examineStore_marks (fun n => decide (last < n)) chk s).ok h
  unfold listClear
  split
  · exact h
  · split
    · exact Store.empty_ok
    · refine Store.ok_filter (inRange first last) hx fun e he => ?_
      simp only [inRange, Bool.and_eq_true, Bool.not_eq_true'] at he
      exact he.1.1

/-- A trim writes the body with the knots it had, so a body that is the record's own is asked for (R36). -/
theorem trimRecord_ok (d : Deltas) {e : Entry} {v : BodyView} {s : State} (h : s.store.ok)
    (hv : v = BodyView.lost ∨ v.body = e.body)
    (hbody : ∀ o ∈ s.store.index, o.start = e.start → o.faulty = false → o.body = e.body) (hok : e.body.ok) :
    (trimRecord d e v s).1.store.ok := by
  unfold trimRecord
  split
  · exact h
  · next g hg =>
    split
    · exact h
    · have hvb : v.body = e.body := by
        refine hv.resolve_left fun hl => ?_
        rw [hl] at hg; cases hg
      rw [hvb] at hg ⊢
      have hgok := Grade.trimmed_ok d (hok.2.2 g (by rw [hg]; exact rfl))
      have hcount : Body.knotCount { e.body with grade := some (g.trimmed d) } = e.body.knotCount := by
        simp only [Body.knotCount, hg]; rfl
      refine Store.ok_update h (fun _ hf hs => ⟨hf, hs⟩) (fun _ => rfl) fun o ho hos hof => ?_
      obtain ⟨hs, -, hk, -⟩ := h.2.1 o ho
      refine ⟨hs, nextRevision_le _, ?_, hok.1, hok.2.1, by rintro _ ⟨⟩; exact hgok⟩
      simp only [Entry.trimmed]
      rw [hk, hbody o ho hos hof, hcount]

/-- Sound entries of one start are one entry. -/
theorem Store.ok_unique {st : Store} (h : st.ok) {a b : Entry} (ha : a ∈ st.index) (hb : b ∈ st.index)
    (hfa : a.faulty = false) (hfb : b.faulty = false) (hs : b.start = a.start) : b = a := by
  have hf := filter_isRecordAt (start := a.start) ((pairwise_starts_iff _).1 h.2.2.1)
  have hmem {e : Entry} (he : e ∈ st.index) (hef : e.faulty = false) (hes : e.start = a.start) :
      e ∈ (recordAtStart a.start st.index).toList := by
    rw [← hf, List.mem_filter]
    exact ⟨he, by simp [isRecordAt, hef, hes]⟩
  have h1 := Option.mem_toList.1 (hmem ha hfa rfl)
  have h2 := Option.mem_toList.1 (hmem hb hfb hs)
  exact Option.mem_unique h2 h1

theorem walkNext_some {first : Nat} {w : Walk} {idx : List Entry} {e : Entry} (h : walkNext first w idx = some e) :
    e ∈ idx ∧ e.faulty = false := by
  unfold walkNext firstFrom nextAfter at h
  split at h
  all_goals
    have hp := List.find?_some h
    simp only [Bool.and_eq_true, Bool.not_eq_true'] at hp
    exact ⟨List.mem_of_find?_eq_some h, hp.1⟩

theorem trimStep_ok (chk : Checks) (m : Message) (w : Walk) {s : State} (h : s.store.ok) :
    (trimStep chk m w s).store.ok := by
  have hx := (examineStore_marks (walkStop (u24 m.payload 0) w) chk s).ok h
  unfold trimStep
  dsimp only
  split
  · rw [endWalk_store]; exact h
  · split
    · rw [endWalk_store]; exact hx
    · next e hsome =>
      obtain ⟨hmem, hef⟩ := walkNext_some (Option.eq_some_of_filter_eq_some hsome)
      have hm := readBody_marks .edit chk e (examineStore (walkStop (u24 m.payload 0) w) chk s).1
      have ht := trimRecord_ok (deltasAt m.payload) (e := e)
        (v := (readBody .edit chk e (examineStore (walkStop (u24 m.payload 0) w) chk s).1).view) (hm.ok hx)
        ((readBody_view .edit chk e _).imp_right (congrArg BodyView.body))
        (fun o ho hos hof => by
          obtain ⟨o', ho', hmark⟩ := hm.entries.mem ho
          have hof' : o'.faulty = false := by
            cases hf : o'.faulty
            · rfl
            · rw [hmark.2.1 hf] at hof; cases hof
          rw [hmark.body, Store.ok_unique hx hmem ho' hef hof' (by rw [← hmark.start, hos])])
        (hx.2.1 e hmem).2.2.2
      split
      · rw [endWalk_store]; exact ht
      · rw [releaseSignal_store]; exact ht

/-! ### A merge keeps the form (R142, R143) -/

theorem mergeOutcome_inserted {r : Record} {st : Store} (h : mergeOutcome r st = .inserted) :
    r.fault = false ∧ recordAtStart r.start st.index = none ∧ st.index.length < listLimit
      ∧ r.body.knotCount ≤ st.freeKnots ∧ st.frozen = false := by
  unfold mergeOutcome at h
  split at h
  · cases h
  · split at h
    · cases h
    · split at h
      · cases h
      · split at h
        · split at h
          · cases h
          · split at h
            · cases h
            · grind
        · split at h
          · split at h <;> cases h
          · cases h

theorem mergeOutcome_replaced {r : Record} {st : Store} (h : mergeOutcome r st = .replaced) :
    r.fault = false ∧ st.frozen = false
      ∧ ∃ e, recordAtStart r.start st.index = some e ∧ r.body.knotCount ≤ st.freeKnots + e.knotCount := by
  unfold mergeOutcome at h
  split at h
  · cases h
  · split at h
    · cases h
    · split at h
      · cases h
      · split at h
        · split at h
          · cases h
          · split at h <;> cases h
        · split at h
          · split at h
            · cases h
            · grind
          · cases h

theorem mergeRecord_ok (chk : Checks) {r : Record} {s : State} (h : s.store.ok) (hid : r.sceneId ≤ 65535)
    (hrev : r.revision ≤ 255) : (mergeRecord chk r s).1.store.ok := by
  have hx := (examineStore_marks (fun n => decide (r.start ≤ n)) chk s).ok h
  unfold mergeRecord
  dsimp only
  split
  · next ho =>
    obtain ⟨hfault, hnone, hlen, hknots, -⟩ := mergeOutcome_inserted ho
    exact Store.ok_insert (n := Entry.fresh r.start r.revision r.body) hx
      (Entry.fresh_ok (Record.start_le hfault) hrev (Record.body_ok hid hfault)) rfl hnone hlen hknots
  · next e ho hsome =>
    obtain ⟨hfault, -, e', hsome', hknots⟩ := mergeOutcome_replaced ho
    cases hsome.symm.trans hsome'
    obtain ⟨e₂, he₂, hcount⟩ := recordAtStart_readBody .merge chk e _ r.start hsome
    have hr := (readBody_marks .merge chk e _).ok hx
    unfold rewriteRecord
    rw [← hcount] at hknots ⊢
    exact Store.ok_rewrite hr he₂ (fun _ _ _ => ⟨rfl, rfl⟩) (fun _ => rfl)
      (fun _ _ _ => Entry.fresh_ok (Record.start_le hfault) hrev (Record.body_ok hid hfault))
      (by simpa using hknots)
  · exact hx

/-! ### The invariant -/

theorem recordAt_bounds (p : List Byte) (i : Nat) : (recordAt p i).sceneId ≤ 65535 ∧ (recordAt p i).revision ≤ 255 :=
  ⟨u16_le p _, u8_le p _⟩

/-- What an effect does to the store: it stands but for marks and the scrub cursor, is edited, or is emptied. -/
theorem Acts.store_ok {s t : State} {c : Instr} (h : s.store.ok) (ha : Acts s c t) : t.store.ok := by
  cases ha
  case powerOnReset => exact Store.empty_ok
  case upField chk _ _ => exact (upField_scrubs chk s).ok h
  case sceneSet chk m _ => simpa using sceneSet_ok chk h (recordAt_bounds _ _).1
  case gradeSet => simpa using gradeSet_ok _ h
  case sceneMove => simpa using sceneMove_ok _ h
  case sceneDelete => simpa using sceneDelete_ok _ h
  case listClear => simpa using listClear_ok _ h
  case trimStep chk m w _ _ => exact trimStep_ok chk m w (by simpa using h)
  case queryScene chk m _ => simpa using (queryScene_marks chk _ s).ok h
  case resetList => simpa using Store.empty_ok
  case partnerAgrees chk _ f _ => simpa using (examineStore_marks (fun n => decide (f < n)) chk s).ok h
  case partnerDiffers chk _ f _ => simpa using (examineStore_marks (fun n => decide (f < n)) chk s).ok h
  case responderFinishes chk c _ _ _ => simpa using (streamStep_marks chk c (dropPlace s)).ok h
  case responderStreams chk _ _ _ _ =>
    simpa [advanceStream_store] using (streamStep_marks chk s.responder.stream (dropPlace s)).ok h
  case merge chk m _ _ _ =>
    simpa using mergeRecord_ok chk h (recordAt_bounds m.payload 3).1 (recordAt_bounds m.payload 3).2
  case resolutionRead chk l _ _ => exact (resolve_marks chk l s).ok h
  case frmPulse d _ => rw [(FilmWork.framePulse d s).store]; exact h
  case position m rest _ => rw [(FilmWork.handPosition m _).store]; exact h
  case character x _ _ _ => rw [(LineWork.applyOutcome x _ _).rest]; exact h
  case gapExpiry => rw [(LineWork.receiveError _ _ _).rest]; exact h
  case responderEnds => simpa using h
  case responderNoRoom => simpa using h
  case queryPunchJoins ht => subst ht; simpa using h
  all_goals simpa [Machine.loadingField, answerQuery, Machine.unexpected, pixelTaken, EditEnd.refuse] using h

/-- Settles O4, effect by effect (`Acts.store_ok`). -/
theorem storeKeepsItsForm : Obligations.StoreKeepsItsForm := by
  unfold Obligations.StoreKeepsItsForm
  intro s t
  exact step_gives (P := fun s => s.store.ok) (fun _ h => h) (fun _ _ h => h) fun _ _ _ h ha => ha.store_ok h

/-! ### A frozen store takes no record (R39, R46, R173, R174) -/

/-- The store is emptied, or stays frozen with entries it held, but for marks. -/
def Store.StaysFrozen (a b : Store) : Prop :=
  b = Store.empty ∨ (b.frozen = true ∧ ∀ e ∈ b.index, ∃ o ∈ a.index, o.MarkedFrom e)

theorem OnlyMarks.staysFrozen {a b : Store} (h : OnlyMarks a b) (hf : a.frozen = true) : a.StaysFrozen b :=
  .inr ⟨h.frozen hf, fun _ he => h.entries.mem he⟩

theorem Store.StaysFrozen.refl {a : Store} (hf : a.frozen = true) : a.StaysFrozen a :=
  (OnlyMarks.refl a).staysFrozen hf

theorem sceneSet_frozen (chk : Checks) (r : Record) {s : State} (h : s.store.frozen = true) :
    (sceneSet chk r s).state = s := by simp [sceneSet, h, EditEnd.refuse]

theorem gradeSet_frozen (chk : Checks) (n : Nat) (g : Option Grade) {s : State} (h : s.store.frozen = true) :
    (gradeSet chk n g s).state = s := by simp [gradeSet, h, EditEnd.refuse]

theorem sceneMove_frozen (chk : Checks) (a b : Nat) {s : State} (h : s.store.frozen = true) :
    (sceneMove chk a b s).state = s := by simp [sceneMove, h, EditEnd.refuse]

theorem sceneDelete_frozen (chk : Checks) (n : Nat) {s : State} (h : s.store.frozen = true) :
    (sceneDelete chk n s).state = s := by simp [sceneDelete, h, EditEnd.refuse]

/-- A LIST_CLEAR is the one edit a frozen store takes: it deletes, and writes no record (R38, R39). -/
theorem listClear_staysFrozen (chk : Checks) (first last : Nat) {s : State} (h : s.store.frozen = true) :
    s.store.StaysFrozen (listClear chk first last s).state.store := by
  have hx := examineStore_marks (fun n => decide (last < n)) chk s
  unfold listClear
  split
  · exact .refl h
  · split
    · exact .inl rfl
    · exact .inr ⟨hx.frozen h, fun e he => hx.entries.mem (List.mem_filter.1 he).1⟩

theorem mergeRecord_staysFrozen (chk : Checks) (r : Record) {s : State} (h : s.store.frozen = true) :
    s.store.StaysFrozen (mergeRecord chk r s).1.store := by
  have hx := examineStore_marks (fun n => decide (r.start ≤ n)) chk s
  have hfrozen := hx.frozen h
  unfold mergeRecord
  dsimp only
  split
  · next ho => simp [(mergeOutcome_inserted ho).2.2.2.2] at hfrozen
  · next ho _ => simp [(mergeOutcome_replaced ho).2.1] at hfrozen
  · exact hx.staysFrozen h

theorem Acts.staysFrozen {s t : State} {c : Instr} (h : s.store.frozen = true) (ha : Acts s c t) :
    s.store.StaysFrozen t.store := by
  cases ha
  case powerOnReset => exact .inl rfl
  case upField chk _ _ =>
    have hs := upField_scrubs chk s
    exact .inr ⟨hs.frozen h, fun _ he => hs.entries.mem he⟩
  case sceneSet => simpa [sceneSet_frozen _ _ h] using .refl h
  case gradeSet => simpa [gradeSet_frozen _ _ _ h] using .refl h
  case sceneMove => simpa [sceneMove_frozen _ _ _ h] using .refl h
  case sceneDelete => simpa [sceneDelete_frozen _ _ h] using .refl h
  case listClear => simpa using listClear_staysFrozen _ _ _ h
  case trimStep chk m w _ _ =>
    rw [trimStep_frozen chk m w _ (by simpa using h)]
    simpa using .refl h
  case queryScene chk m _ => simpa using (queryScene_marks chk _ s).staysFrozen h
  case resetList => exact .inl (by simp)
  case partnerAgrees chk _ f _ => simpa using (examineStore_marks (fun n => decide (f < n)) chk s).staysFrozen h
  case partnerDiffers chk _ f _ => simpa using (examineStore_marks (fun n => decide (f < n)) chk s).staysFrozen h
  case responderFinishes chk c _ _ _ => simpa using (streamStep_marks chk c (dropPlace s)).staysFrozen h
  case responderStreams chk _ _ _ _ =>
    simpa [advanceStream_store] using (streamStep_marks chk s.responder.stream (dropPlace s)).staysFrozen h
  case merge chk m _ _ _ => simpa using mergeRecord_staysFrozen chk _ h
  case resolutionRead chk l _ _ => exact (resolve_marks chk l s).staysFrozen h
  case frmPulse d _ => rw [(FilmWork.framePulse d s).store]; exact .refl h
  case position m rest _ => rw [(FilmWork.handPosition m _).store]; exact .refl h
  case character x _ _ _ => rw [(LineWork.applyOutcome x _ _).rest]; exact .refl h
  case gapExpiry => rw [(LineWork.receiveError _ _ _).rest]; exact .refl h
  case responderEnds => simpa using .refl h
  case responderNoRoom => simpa using .refl h
  case queryPunchJoins ht => subst ht; simpa using .refl h
  all_goals simpa [Machine.loadingField, answerQuery, Machine.unexpected, pixelTaken, EditEnd.refuse] using .refl h

/-- Settles O14: the edits refuse at a frozen store or delete, a merge is refused, and all else only marks
(`Acts.staysFrozen`). -/
theorem frozenStoreTakesNoEdit : Obligations.FrozenStoreTakesNoEdit := by
  unfold Obligations.FrozenStoreTakesNoEdit
  intro c s t h ht
  exact (acts_of_exec ht).staysFrozen h

end Sys2Proof.Machine
end

section
/-! PROOF. The queue, the reset, and what stands until its own event (R61, R67, R68, R181, R185, R189). -/

namespace Sys2Proof.Machine

/-! ### The commands that do nothing but work at the store -/

theorem WorkAtStore.ignore (s : State) : WorkAtStore s (ignore s) := (StoreWork.ignore s).atStore

theorem WorkAtStore.endPlain (m : Message) (r : ReplyResult) (b : ReplyBody) (s : State) :
    WorkAtStore s (endPlain m r b s) := by
  unfold Machine.endPlain
  refine trans (trans ?_ (sendReply m r b _)) (handlerIdle _)
  split
  · exact ignore s
  · exact .refl s

theorem WorkAtStore.answerQuery (m : Message) (a : Answer) (s : State) : WorkAtStore s (answerQuery m a s) :=
  endPlain m _ _ s

theorem WorkAtStore.applyVerdict (m : Message) (v : Verdict) (s : State) : WorkAtStore s (applyVerdict m v s) := by
  cases v with
  | ignored => exact ignore s
  | atOnce => exact hold m .carry s
  | store => exact (hold m .store s).trans (request .handler _)
  | refused r b => exact endPlain m r b s

/-- The commands whose effects are work at the store, or a REPLY, and nothing else. -/
def worksAtStore : Instr → Bool
  | .unknownKind | .sceneSet _ | .gradeSet _ | .sceneMove _ | .sceneDelete _ | .rangeTrim | .trimStep _
  | .listClear _ | .queryStatus | .queryScene _ | .queryFetch | .queryCapture => true
  | _ => false

theorem not_other_of_worksAtStore {c : Instr} (hc : worksAtStore c = true) :
    isFieldStart c = false ∧ isCharacter c = false ∧ c ≠ .listRec ∧ c ≠ .listEnd := by
  cases c <;> simp_all [worksAtStore, isFieldStart, isCharacter]

theorem Acts.workAtStore {s t : State} {c : Instr} (ha : Acts s c t) (hc : worksAtStore c = true) :
    WorkAtStore s t := by
  have hother := not_other_of_worksAtStore hc
  cases ha
  case nothing => exact .refl s
  case unknownKind m _ => exact .endPlain m _ _ s
  case sceneSet chk m _ => exact (WorkAtStore.sceneSet chk _ s).trans (.endEdit m _)
  case gradeSet chk m _ => exact (WorkAtStore.gradeSet chk _ _ s).trans (.endEdit m _)
  case sceneMove chk m _ => exact (WorkAtStore.sceneMove chk _ _ s).trans (.endEdit m _)
  case sceneDelete chk m _ => exact (WorkAtStore.sceneDelete chk _ s).trans (.endEdit m _)
  case rangeTrimRefused m r _ => exact .endEdit m (.refuse s r _ false)
  case rangeTrimBegins m _ => exact .hold m _ s
  case trimAsks => exact .askForStep s
  case trimStep chk m w _ _ => exact (WorkAtStore.askForStep s).trans (.trimStep chk m w _)
  case listClear chk m _ => exact (WorkAtStore.listClear chk _ _ s).trans (.endEdit m _)
  case queryAnswered m a _ _ => exact .answerQuery m a s
  case queryScene chk m _ =>
    exact (((WorkAtStore.queryScene chk _ s).trans (.releaseSignal _ _)).trans (.sendReply m _ _ _)).trans
      (.handlerIdle _)
  case loadingField | upField | characterPassed | character | unexpected => simp_all
  all_goals cases hc

/-! ### Frames of the remaining operations -/

theorem countMerge_frame (tag : BitVec 8) (o : MergeOutcome) (s : State) :
    countMerge tag o s = { s with requester := (countMerge tag o s).requester } := by
  unfold countMerge
  split
  · cases o <;> rfl
  · rfl

theorem advanceStream_frame (sent : Option Nat) (s : State) :
    advanceStream sent s = { s with responder := (advanceStream sent s).responder } := by
  cases sent <;> rfl

/-- The start of a fetch touches the requester and the transmit queue, with its drop counter and flag. -/
theorem startFetch_frame (p : Byte) (a b : Nat) (s : State) :
    startFetch p a b s = { s with
      requester := (startFetch p a b s).requester,
      cue := { s.cue with txq := (startFetch p a b s).cue.txq, txAbandons := (startFetch p a b s).cue.txAbandons },
      events := { s.events with flags := (startFetch p a b s).events.flags } } := by
  unfold startFetch handShared
  dsimp only
  split
  · rfl
  · rw [raise_spec]

theorem autoFetch_frame (s : State) :
    autoFetch s = { s with
      requester := (autoFetch s).requester,
      cue := { s.cue with txq := (autoFetch s).cue.txq, txAbandons := (autoFetch s).cue.txAbandons },
      events := { s.events with flags := (autoFetch s).events.flags } } := by
  unfold autoFetch
  split
  · rfl
  · split
    · exact startFetch_frame _ _ _ s
    · rfl

theorem partnerMismatch_frame (p : Byte) (s : State) :
    partnerMismatch p s = { s with
      requester := (partnerMismatch p s).requester,
      cue := { s.cue with txq := (partnerMismatch p s).cue.txq, txAbandons := (partnerMismatch p s).cue.txAbandons },
      events := { s.events with flags := (partnerMismatch p s).events.flags } } := by
  unfold partnerMismatch
  dsimp only
  split
  · rw [startFetch_frame, raise_spec]
  · rw [raise_spec]

theorem enterJoining_frame (s : State) :
    enterJoining s = { s with
      part := .joining, events := (enterJoining s).events, pipeline := (enterJoining s).pipeline,
      cue := { s.cue with rx := .idle, idle := ⟨true, 0⟩ }, arbiter := (enterJoining s).arbiter,
      resolver := (enterJoining s).resolver } := by
  apply State.ext <;> simp [enterJoining]

/-! ### What the part is and holds through a step -/

/-- The part, its configuration and its queue of steps. -/
structure SamePart (s t : State) : Prop where
  part : t.part = s.part
  address : t.address = s.address
  config : t.config = s.config
  configSource : t.configSource = s.configSource
  pending : t.pending = s.pending

theorem SamePart.trans {s t u : State} (h : SamePart s t) (g : SamePart t u) : SamePart s u :=
  ⟨g.part.trans h.part, g.address.trans h.address, g.config.trans h.config, g.configSource.trans h.configSource,
    g.pending.trans h.pending⟩

theorem SamePart.up {s t : State} (h : SamePart s t) : t.up = s.up := up_of_part h.part

/-- The line is no part of it. -/
theorem SamePart.ofCue (s : State) (c : CueLine) : SamePart s { s with cue := c } := by constructor <;> rfl

theorem WorkAtStore.samePart {s t : State} (h : WorkAtStore s t) : SamePart s t :=
  ⟨h.part, h.address, h.config, h.configSource, h.pending⟩

theorem FilmWork.samePart {s t : State} (h : FilmWork s t) : SamePart s t :=
  ⟨h.part, h.address, h.config, h.configSource, h.pending⟩

theorem LineWork.samePart {s t : State} (h : LineWork s t) : SamePart s t := by
  constructor <;> rw [h.rest]

/-- The part moves on, and its configuration with it, in four ways alone (R185 to R189). -/
inductive Moves (s : State) : Instr → State → Prop
  | powerOnReset : Moves s .powerOnReset { State.reset with pending := s.pending }
  | leaveReset (straps : BitVec 6) (hpart : s.part = .reset) :
      Moves s (.leaveReset straps) { s with part := .loading, address := straps, pcu.refTimerRunning := true }
  | bootReadEnd (image : List Byte) (hpart : s.part = .loading) :
      Moves s (.bootReadEnd image) (enterJoining (takeConfig image s))
  | joiningQuietExpiry (waited : Nat) (hpart : s.part = .joining) :
      Moves s (.joiningQuietExpiry waited) (autoFetch { s with
        part := .running, cue.receiverOn := true, cue.idle := ⟨true, s.cue.idle.bits + waited⟩,
        cue.yieldMark := false })

/-- What the line, the store and the transfer of lists leave alone: the part, the film, the picture and the punch. -/
structure Aside (s t : State) : Prop extends SamePart s t where
  pcu : t.pcu = s.pcu
  pipeline : t.pipeline = s.pipeline
  gate : t.gate = s.gate

theorem Aside.of_fields {s t : State} (part : t.part = s.part) (address : t.address = s.address)
    (config : t.config = s.config) (configSource : t.configSource = s.configSource) (pending : t.pending = s.pending)
    (pcu : t.pcu = s.pcu) (pipeline : t.pipeline = s.pipeline) (gate : t.gate = s.gate) : Aside s t :=
  ⟨⟨part, address, config, configSource, pending⟩, pcu, pipeline, gate⟩

theorem WorkAtStore.aside {s t : State} (h : WorkAtStore s t) : Aside s t :=
  ⟨h.samePart, h.pcu, h.pipeline, h.gate⟩

theorem LineWork.aside {s t : State} (h : LineWork s t) : Aside s t :=
  ⟨h.samePart, by rw [h.rest], by rw [h.rest], by rw [h.rest]⟩

theorem Aside.trans {s t u : State} (h : Aside s t) (g : Aside t u) : Aside s u :=
  ⟨h.toSamePart.trans g.toSamePart, g.pcu.trans h.pcu, g.pipeline.trans h.pipeline, g.gate.trans h.gate⟩

theorem Aside.ofCue (s : State) (c : CueLine) : Aside s { s with cue := c } := ⟨.ofCue s c, rfl, rfl, rfl⟩

/-- The effects on the part, the film, the picture and the punch. -/
inductive Special (s : State) : Instr → State → Prop
  | moves {c : Instr} {t : State} (h : Moves s c t) : Special s c t
  | frmPulse (dirHigh : Bool) (hpart : s.part ≠ .reset) : Special s (.frmPulse dirHigh) (framePulse dirHigh s)
  | loadingField (c : Instr) (hc : isFieldStart c = true) (hpart : s.part = .loading) : Special s c (loadingField s)
  | upField (c : Instr) (chk : Checks) (hc : isFieldStart c = true) (hup : s.up = true) : Special s c (upField chk s)
  | refLossExpiry (hpart : s.part ≠ .reset) :
      Special s .refLossExpiry (abortPunch (raise .refLoss { s with
        pcu.refTimerRunning := false, pcu.lossInProgress := true }))
  | pixel (r g b : BitVec 12) (hpart : s.part ≠ .reset) :
      Special s (.pixel r g b) (pixelTaken s.nextIndex (pixelOut s s.nextIndex ⟨r.toNat, g.toNat, b.toNat⟩) s)
  | lineEnd : Special s .lineEnd { s with pipeline.lineOpen := false }
  | position (m : Message) (rest : List Message) (hq : s.cue.handover = m :: rest) :
      Special s .position (handPosition m { s with cue.handover := rest })
  | queryPunchJoins (m : Message) (t : State) (hhand : inHand .query s = some m)
      (ht : t = (sendReply m .ok (.query (m.payload.getD 0 0) (.punch s.gate.punch)) s).1) :
      Special s .queryPunch (handlerIdle { t with gate.punch := { t.gate.punch with unread := false } })
  | resetSoft (m : Message) (hhand : inHand .reset s = some m) :
      Special s .resetSoft (endPlain m .ok .plain (trigger (lineReset s)))
  | resetList (m : Message) (hat : atStore .reset s = some m) :
      Special s .resetList (endPlain m .ok .plain (releaseSignal true { lineReset s with store := Store.empty }))
  | punchArm (m : Message) (hhand : inHand .punchArm s = some m)
      (hok : armResult (u24 m.payload 0) (u24 m.payload 3) (bitAt m.payload 6 0) s = .ok) :
      Special s .punchArm
        (endPlain m .ok .plain (armPunch (u24 m.payload 0) (u24 m.payload 3) (bitAt m.payload 6 0) s))
  | punchAbort (m : Message) (hhand : inHand .punchAbort s = some m) :
      Special s .punchAbort (endPlain m .ok .plain (cancelPunch s))
  | resolutionRead (chk : Checks) (l : Latch) (hheld : s.arbiter.holder = some .resolver)
      (hlatch : s.resolver.latch = some l) : Special s (.resolutionRead chk) (resolve chk l s)
  | fillingComplete (r : Reading) (hfill : s.pipeline.pendingBank = .filling r) :
      Special s .fillingComplete (triggerIf s.resolver.rerun { s with
        pipeline.pendingBank := .ready (fillBank r), resolver.inFlight := false, resolver.rerun := false })

theorem Acts.aside_or_special {s t : State} {c : Instr} (ha : Acts s c t) : Aside s t ∨ Special s c t := by
  cases hw : worksAtStore c
  case true => exact .inl (ha.workAtStore hw).aside
  cases ha
  case powerOnReset => exact .inr (.moves .powerOnReset)
  case leaveReset h => exact .inr (.moves (.leaveReset _ h))
  case bootReadEnd h => exact .inr (.moves (.bootReadEnd _ h))
  case joiningQuietExpiry h => exact .inr (.moves (.joiningQuietExpiry _ h))
  case frmPulse h => exact .inr (.frmPulse _ h)
  case loadingField h hc => exact .inr (.loadingField _ hc h)
  case upField chk hup hc => exact .inr (.upField _ chk hc hup)
  case refLossExpiry h => exact .inr (.refLossExpiry h)
  case pixel h => exact .inr (.pixel _ _ _ h)
  case lineEnd => exact .inr .lineEnd
  case position h => exact .inr (.position _ _ h)
  case queryPunchJoins hhand ht => exact .inr (.queryPunchJoins _ _ hhand ht)
  case resetSoft h => exact .inr (.resetSoft _ h)
  case resetList h => exact .inr (.resetList _ h)
  case punchArm h hok => exact .inr (.punchArm _ h hok)
  case punchAbort h => exact .inr (.punchAbort _ h)
  case resolutionRead hh hl => exact .inr (.resolutionRead _ _ hh hl)
  case fillingComplete h => exact .inr (.fillingComplete _ h)
  all_goals left
  case character x _ _ _ => exact (Aside.ofCue s _).trans (LineWork.applyOutcome x _ _).aside
  case gapExpiry => exact (Aside.ofCue s _).trans (LineWork.receiveError _ _ _).aside
  case mhTake m rest _ _ _ => exact (Aside.ofCue s _).trans (WorkAtStore.applyVerdict m _ _).aside
  case queryAnswered m a _ _ => exact (WorkAtStore.answerQuery m a s).aside
  case unknownKind | sceneSet | gradeSet | sceneMove | sceneDelete | rangeTrimRefused | rangeTrimBegins | trimAsks
    | trimStep | listClear | queryScene => cases hw
  case setMode => rw [writeSettings_eq]; apply Aside.of_fields <;> simp
  case partnerDiffers => rw [partnerMismatch_frame]; apply Aside.of_fields <;> simp
  case merge => rw [countMerge_frame]; apply Aside.of_fields <;> simp
  case responderStreams => rw [advanceStream_frame]; apply Aside.of_fields <;> simp [dropPlace]
  all_goals apply Aside.of_fields <;> simp [Machine.unexpected, dropPlace]

theorem beforeScrub_samePart (s : State) : SamePart s (beforeScrub s) := by
  constructor <;> simp [beforeScrub, openField]

theorem upField_samePart (chk : Checks) (s : State) : SamePart s (upField chk s) :=
  (beforeScrub_samePart s).trans (WorkAtStore.scrub chk _).samePart

theorem Acts.samePart_or_moves {s t : State} {c : Instr} (ha : Acts s c t) : SamePart s t ∨ Moves s c t := by
  obtain h | h := ha.aside_or_special
  · exact .inl h.toSamePart
  cases h
  case moves h => exact .inr h
  all_goals left
  case upField chk _ _ => exact upField_samePart chk s
  case frmPulse d _ => exact (FilmWork.framePulse d s).samePart
  case position m rest _ => exact (SamePart.ofCue s _).trans (FilmWork.handPosition m _).samePart
  case refLossExpiry => exact (((FilmWork.ofPcu s _).trans (.raise .refLoss _)).trans (.abortPunch _)).samePart
  case punchAbort => rw [cancelPunch_frame]; constructor <;> simp
  case queryPunchJoins ht => subst ht; constructor <;> simp
  case resetSoft | resetList => constructor <;> simp [lineReset, resetPosition]
  case resolutionRead => constructor <;> simp [resolve]
  all_goals constructor <;> simp [Machine.loadingField, pixelTaken]

theorem Moves.pending {s t : State} {c : Instr} (h : Moves s c t) : t.pending = s.pending := by
  cases h
  case powerOnReset | leaveReset => rfl
  case bootReadEnd image _ =>
    rw [enterJoining_frame]
    unfold takeConfig
    split <;> rfl
  case joiningQuietExpiry => rw [autoFetch_frame]

theorem Acts.pending {s t : State} {c : Instr} (ha : Acts s c t) : t.pending = s.pending :=
  ha.samePart_or_moves.elim SamePart.pending Moves.pending

/-! ### What writes to the picture path -/

/-- The effects that write to the picture path, and what they leave of it. -/
inductive Paints (s : State) : Instr → Pipeline → Prop
  | powerOnReset : Paints s .powerOnReset Pipeline.reset
  | bootReadEnd (image : List Byte) (hpart : s.part = .loading) :
      Paints s (.bootReadEnd image) { s.pipeline with
        active := Bank.ofGrade (takeConfig image s).config.baseGrade s.pcu.gateFrame true ModeSetting.off SceneDesc.none,
        pendingBank := .empty }
  | loadingField (c : Instr) (hc : isFieldStart c = true) (hpart : s.part = .loading) :
      Paints s c (loadingField s).pipeline
  | upField (c : Instr) (hc : isFieldStart c = true) (hup : s.up = true) : Paints s c (beforeScrub s).pipeline
  | pixel (r g b : BitVec 12) (hpart : s.part ≠ .reset) :
      Paints s (.pixel r g b)
        (pixelTaken s.nextIndex (pixelOut s s.nextIndex ⟨r.toNat, g.toNat, b.toNat⟩) s).pipeline
  | lineEnd : Paints s .lineEnd { s.pipeline with lineOpen := false }
  | lineReset (c : Instr) (hc : c ∈ [.resetSoft, .resetList]) : Paints s c s.pipeline.lineReset
  | resolutionRead (chk : Checks) (l : Latch) (hlatch : s.resolver.latch = some l) :
      Paints s (.resolutionRead chk) { s.pipeline with
        pendingBank := .filling (readGrade chk l (examineStore (fun x => decide (l.frame < x)) chk s).1).2 }
  | fillingComplete (r : Reading) (hfill : s.pipeline.pendingBank = .filling r) :
      Paints s .fillingComplete { s.pipeline with pendingBank := .ready (fillBank r) }

theorem takeConfig_frame (image : List Byte) (s : State) :
    takeConfig image s = { s with
      config := (takeConfig image s).config, configSource := (takeConfig image s).configSource } := by
  unfold takeConfig; split <;> rfl

theorem Acts.pipeline {s t : State} {c : Instr} (ha : Acts s c t) : t.pipeline = s.pipeline ∨ Paints s c t.pipeline := by
  obtain h | h := ha.aside_or_special
  · exact .inl h.pipeline
  cases h
  case moves h =>
    cases h
    case powerOnReset => exact .inr .powerOnReset
    case leaveReset => exact .inl rfl
    case bootReadEnd image h =>
      right
      refine Eq.mp (congrArg (Paints s _) ?_) (Paints.bootReadEnd image h)
      rw [takeConfig_frame]
      simp [enterJoining]
    case joiningQuietExpiry => left; rw [autoFetch_frame]
  case loadingField h hc => exact .inr (.loadingField _ hc h)
  case upField chk hup hc =>
    right
    rw [upField_eq, scrub_pipeline]
    exact .upField _ hc hup
  case pixel h => exact .inr (.pixel _ _ _ h)
  case lineEnd => exact .inr .lineEnd
  case resetSoft => right; simpa [lineReset] using Paints.lineReset (s := s) .resetSoft (by simp)
  case resetList => right; simpa [lineReset] using Paints.lineReset (s := s) .resetList (by simp)
  case resolutionRead chk l _ h => right; simpa [resolve] using Paints.resolutionRead chk l h
  case fillingComplete r h => right; simpa using Paints.fillingComplete r h
  all_goals left
  case frmPulse d _ => exact (FilmWork.framePulse d s).pipeline
  case position m rest _ => exact (FilmWork.handPosition m _).pipeline
  case punchAbort => rw [cancelPunch_frame]; simp
  case queryPunchJoins ht => subst ht; simp
  all_goals simp

/-- Settles O2: `exec_answers`, and no effect touches the queue (`Acts.pending`). -/
theorem everyCommandAnswersNext : Obligations.EveryCommandAnswersNext := by
  unfold Obligations.EveryCommandAnswersNext
  intro c s
  obtain ⟨t, ht, ha⟩ := exec_answers c s
  exact ⟨t, ht, ha.pending⟩

/-- Settles O1, by the definition of a step. -/
theorem stepRunsFrontCommand : Obligations.StepRunsFrontCommand := by
  unfold Obligations.StepRunsFrontCommand
  exact ⟨fun c rest s h => by rw [step, h], fun s h => by rw [step, h]⟩

/-- An unblended bank is in range where its grade and its scene are. -/
theorem Bank.ofGrade_ok {g : Grade} {frame : Nat} {inherited : Bool} {mode : ModeSetting} {scene : SceneDesc}
    (hg : g.ok) (hscene : scene.ok) (hframe : scene.spanFirst ≤ frame ∧ frame ≤ scene.spanLast) :
    (Bank.ofGrade g frame inherited mode scene).ok :=
  ⟨.inl rfl, hg, by simp [Bank.ofGrade], hscene, hframe⟩

theorem Grade.unity_ok : Grade.unity.ok := by decide

/-- Settles O3: every invariant of the reset state is a finite check. -/
theorem resetStateIsSound : Obligations.ResetStateIsSound := by
  unfold Obligations.ResetStateIsSound
  exact ⟨by decide, by decide, by decide, by decide, by decide, by decide, by decide, by decide, by decide, by decide,
    ⟨Bank.ofGrade_ok Grade.unity_ok (by decide) (by decide), by rintro _ ⟨⟩, by rintro _ ⟨⟩, by rintro _ ⟨⟩⟩, by decide⟩

theorem faultActive_reset (q : List Instr) : State.faultActive { State.reset with pending := q } = false := by
  have hmasked : (0 &&& Config.default.faultMask != 0) = false := by decide
  exact hmasked

/-- Settles O17: a power-on reset answers the reset state with the queue kept, whose values are the tables'. -/
theorem powerOnResetAndLeaving : Obligations.PowerOnResetAndLeaving := by
  unfold Obligations.PowerOnResetAndLeaving
  refine ⟨fun s => ⟨_, rfl, rfl, ?_⟩, fun s straps h => ?_⟩
  · and_intros
    any_goals exact faultActive_reset s.pending
    all_goals rfl
  · change execLeaveReset straps s = _
    rw [execLeaveReset, if_pos h]

/-- Settles O13: the part and its configuration move in four ways (`Acts.samePart_or_moves`), of which a part that is up
has one besides the reset; and the active bank is written by field starts alone. -/
theorem heldUntilTheirEvents : Obligations.HeldUntilTheirEvents := by
  unfold Obligations.HeldUntilTheirEvents
  refine ⟨fun c s t hup hc ht => ?_, fun c s t hfield hexp hboot hreset ht => ?_⟩
  · obtain h | h := (acts_of_exec ht).samePart_or_moves
    · exact ⟨h.config, h.configSource, h.address, .inl h.part⟩
    · cases h
      case powerOnReset => exact absurd rfl hc
      case leaveReset h => exact absurd h (not_reset_of_up hup)
      case bootReadEnd h => simp [State.up, h] at hup
      case joiningQuietExpiry h => rw [autoFetch_frame]; exact ⟨rfl, rfl, rfl, .inr ⟨h, rfl⟩⟩
  · obtain h | h := (acts_of_exec ht).pipeline
    · rw [h]
    · generalize t.pipeline = p at h
      cases h
      case powerOnReset => exact absurd rfl hreset
      case bootReadEnd => exact absurd rfl (hboot _)
      case upField hc _ => cases c <;> simp_all [isFieldStart]
      case loadingField => simp [loadingField]
      all_goals rfl

end Sys2Proof.Machine
end

section
/-! PROOF. Before JOINING every block but the film unit and the picture path holds its power-on state (R185, R186). -/

namespace Sys2Proof.Machine

/-! ### Steps that take place in RESET and LOADING -/

theorem not_up_of_part {s : State} (h : s.part = .reset ∨ s.part = .loading) : s.up = false := by
  obtain h | h := h <;> simp [State.up, h]

/-- A trigger in RESET or LOADING is not taken (R55). -/
theorem trigger_of_down {s : State} (h : s.up = false) : trigger s = s := by simp [trigger, h]

/-- A pulse in LOADING steps the gate frame and does nothing else (R16, R186). -/
theorem framePulse_down (d : Bool) {s : State} (hup : s.up = false) (hpunch : s.gate.punch.state = .idle)
    (hfree : s.pcu.cadenceState = .free) (hheld : s.pcu.held = none) :
    framePulse d s = { s with pcu := { s.pcu with
      pulseSeq := s.pcu.pulseSeq + 1, direction := if d then .fwd else .rev, fieldsInFrame := 0,
      gateFrame := (stepFrame (if d then .fwd else .rev) s.pcu.gateFrame).1,
      rangeClamp := (stepFrame (if d then .fwd else .rev) s.pcu.gateFrame).2 } } := by
  have hdown (p : Pcu) : State.up { s with pcu := p } = false := (up_of_part (by rfl)).trans hup
  cases d <;> simp [framePulse, abortPunch, hpunch, cadenceCheck, hfree, moveGate, hheld, trigger_of_down (hdown _)]

/-- What a step before JOINING leaves: the film and the picture, and nothing else, have moved. -/
theorem quietOk_of_pcu_pipeline {s : State} (hs : s.quietOk) (hdown : s.up = false) {p : Pcu} {q : Pipeline}
    (hp : p.positionState = s.pcu.positionState ∧ p.speedClass = s.pcu.speedClass ∧ p.held = s.pcu.held
      ∧ p.cadenceState = s.pcu.cadenceState ∧ p.cadencePhase = s.pcu.cadencePhase)
    (hn : p.snapshot.speedClass = .still ∧ p.snapshot.cadenceState = .free ∧ p.snapshot.cadencePhase = none)
    (hq : q.pendingBank = s.pipeline.pendingBank ∧ q.outputMode = s.pipeline.outputMode) :
    State.quietOk { s with pcu := p, pipeline := q } := by
  intro _
  obtain ⟨hconfig, hstore, harb, hres, hbank, hmode, hcue, hhandler, hreq, hresp, hgate, hev, hpos, hspeed, hheld, hstate,
    hphase, -⟩ := hs hdown
  exact ⟨hconfig, hstore, harb, hres, hq.1.trans hbank, hq.2.trans hmode, hcue, hhandler, hreq, hresp, hgate, hev,
    hp.1.trans hpos, hp.2.1.trans hspeed, hp.2.2.1.trans hheld, hp.2.2.2.1.trans hstate, hp.2.2.2.2.trans hphase, hn⟩

theorem quietOk_of_up {s : State} (h : s.up = true) : s.quietOk := fun hd => by rw [h] at hd; cases hd

/-- Before JOINING the handler is idle, so no message is carried out. -/
theorem not_inHand_of_quiet {s : State} (hs : s.quietOk) (hdown : s.up = false) (k : MsgKind) (m : Message) :
    inHand k s ≠ some m := by
  obtain ⟨-, -, -, -, -, -, -, hhandler, -⟩ := hs hdown
  rw [ne_eq, inHand_eq_some_iff, hhandler]
  simp

theorem not_atStore_of_quiet {s : State} (hs : s.quietOk) (hdown : s.up = false) (k : MsgKind) (m : Message) :
    atStore k s ≠ some m := by
  obtain ⟨-, -, -, -, -, -, -, hhandler, -⟩ := hs hdown
  rw [ne_eq, atStore_eq_some_iff, hhandler]
  simp

/-- The state a power-on reset answers is sound, whatever waits in the queue. -/
theorem sound_powerOnReset (q : List Instr) : State.sound { State.reset with pending := q } := resetStateIsSound

theorem Acts.quietOk {s t : State} {c : Instr} (hs : s.quietOk) (ha : Acts s c t) : t.quietOk := by
  obtain hsame | hmoves := ha.samePart_or_moves
  · cases hup : s.up
    case true => exact quietOk_of_up (hsame.up.trans hup)
    have hall := hs hup
    obtain ⟨hconfig, hstore, harb, hres, hbank, hmode, hcue, hhandler, hreq, hresp, hgate, hev, hpos, hspeed, hheld,
      hstate, hphase, hsnap⟩ := hall
    have hnohand := not_inHand_of_quiet hs hup
    have hnostore := not_atStore_of_quiet hs hup
    cases ha
    case nothing => exact hs
    case leaveReset h => exact absurd (hsame.part.trans h) (by simp)
    case powerOnReset =>
      obtain ⟨h, -⟩ := sound_powerOnReset s.pending
      exact h
    case bootReadEnd h => exact quietOk_of_up (by rw [enterJoining_frame]; rfl)
    case frmPulse d _ =>
      rw [framePulse_down d hup (by rw [hgate]; rfl) hstate hheld]
      exact quietOk_of_pcu_pipeline hs hup ⟨rfl, rfl, rfl, rfl, rfl⟩ hsnap ⟨rfl, rfl⟩
    case loadingField =>
      exact quietOk_of_pcu_pipeline hs hup ⟨rfl, rfl, rfl, rfl, rfl⟩ ⟨hspeed, hstate, hphase⟩ ⟨rfl, rfl⟩
    case refLossExpiry =>
      have hdown (p : Pcu) : State.up { s with pcu := p } = false := (up_of_part (by rfl)).trans hup
      rw [raise_down _ _ (hdown _), abortPunch_other _ (by simp [hgate, GateUnit.reset])]
      exact quietOk_of_pcu_pipeline hs hup ⟨rfl, rfl, rfl, rfl, rfl⟩ hsnap ⟨rfl, rfl⟩
    case pixel | lineEnd => exact quietOk_of_pcu_pipeline hs hup ⟨rfl, rfl, rfl, rfl, rfl⟩ hsnap ⟨rfl, rfl⟩
    all_goals simp_all [Arbiter.idle, Resolver.reset, CueLine.reset, Requester.reset, Responder.reset, State.up]
  · cases hmoves
    case powerOnReset =>
      obtain ⟨h, -⟩ := sound_powerOnReset s.pending
      exact h
    case leaveReset straps hpart =>
      have hdown := not_up_of_part (.inl hpart)
      obtain ⟨-, -, -, -, -, -, -, -, -, -, -, -, -, -, -, -, -, hsnap⟩ := hs hdown
      exact quietOk_of_pcu_pipeline (s := { s with part := .loading, address := straps }) (fun _ => hs hdown) rfl
        ⟨rfl, rfl, rfl, rfl, rfl⟩ hsnap ⟨rfl, rfl⟩
    case bootReadEnd => exact quietOk_of_up (by rw [enterJoining_frame]; rfl)
    case joiningQuietExpiry => exact quietOk_of_up (by rw [autoFetch_frame]; rfl)

/-- Settles O5, effect by effect: before JOINING only pulses, field starts, the loss timer and the picture act. -/
theorem blocksHoldBeforeJoining : Obligations.BlocksHoldBeforeJoining := by
  unfold Obligations.BlocksHoldBeforeJoining
  intro s t
  exact step_gives (P := State.quietOk) (fun _ h => h) (fun _ _ h => h) fun _ _ _ h ha => ha.quietOk h

end Sys2Proof.Machine
end

section
/-! PROOF. Film position and cadence stay consistent (R2, R3, R12, R13): what each part of a pulse, a POSITION and a field
start does to the unit's ranges, and the invariant. -/

namespace Sys2Proof.Machine

/-! ### The cadence (R12, R13) -/

theorem cadenceOk_advanced {mode : CadenceMode} {v : SpeedClass} {st : CadenceState} {p : Option (BitVec 2)}
    (dir : Direction) (h : cadenceOk mode v st p) : cadenceOk mode v st (advancedPhase mode dir p) := by
  obtain ⟨hfree, hnone, hunity, hlocked⟩ := h
  cases mode
  · exact ⟨hfree, hnone, hunity, hlocked⟩
  · refine ⟨hfree, fun h => ?_, fun h => (by cases h), fun h hm => ?_⟩
    · simp [advancedPhase, hnone h]
    · simpa [advancedPhase] using hlocked h hm

/-- A SOUND class that is not FREE may change between LOCKED and BROKEN, where LOCKED has the phase its mode asks for. -/
theorem cadenceOk_restate {mode : CadenceMode} {v : SpeedClass} {st st' : CadenceState} {p : Option (BitVec 2)}
    (h : cadenceOk mode v st p) (hst : st ≠ .free) (hst' : st' ≠ .free)
    (hl : st' = .locked → mode = .pulldown → p ≠ none) : cadenceOk mode v st' p := by
  obtain ⟨hfree, -, hunity, -⟩ := h
  refine ⟨⟨fun h => absurd h hst', fun h => absurd (hfree.2 h) hst⟩, fun h => absurd h hst', hunity, hl⟩

/-- The cadence an applied POSITION sets is consistent with the class it brings (R12). -/
theorem cadenceOf_ok {mode : CadenceMode} {old : SpeedClass} {st : CadenceState} {p : Option (BitVec 2)}
    (speed : SpeedClass) (phase : Option (BitVec 2)) (h : cadenceOk mode old st p) :
    cadenceOk mode speed (cadenceOf mode speed (usedPhase mode speed phase) (st, p)).1
      (cadenceOf mode speed (usedPhase mode speed phase) (st, p)).2 := by
  obtain ⟨hfree, hnone, hunity, hlocked⟩ := h
  cases speed
  case sound =>
    cases mode
    case unity =>
      have hp := hunity rfl
      subst hp
      cases st <;> simp [cadenceOf, cadenceOk]
    case pulldown =>
      cases phase with
      | some q => simp [cadenceOf, usedPhase, cadenceOk]
      | none => cases st <;> simp_all [cadenceOf, usedPhase, cadenceOk]
  all_goals simp [cadenceOf, cadenceOk]

/-! ### The parts of a pulse and of a POSITION -/

theorem project_le (dir : Direction) (d : Nat) {f : Nat} (h : f ≤ maxFrame) : (project dir d f).1 ≤ maxFrame := by
  cases dir <;> unfold project <;> dsimp only <;> split <;> dsimp only <;> omega

theorem cadenceCheck_pcuOk {s : State} (h : s.pcu.ok s.config.cadenceMode) :
    (cadenceCheck s).pcu.ok s.config.cadenceMode := by
  obtain ⟨hg, hsg, hf, hsf, hpar, hheld, hcad, hsnap⟩ := h
  have hadv := cadenceOk_advanced s.pcu.direction hcad
  have hkeep {st : CadenceState} {p : Option (BitVec 2)} (n : Nat)
      (hc : cadenceOk s.config.cadenceMode s.pcu.speedClass st p) :
      Pcu.ok s.config.cadenceMode { s.pcu with cadenceState := st, cadencePhase := p, breaks := n } :=
    ⟨hg, hsg, hf, hsf, hpar, hheld, hc, hsnap⟩
  unfold cadenceCheck
  dsimp only
  split
  · exact ⟨hg, hsg, hf, hsf, hpar, hheld, hcad, hsnap⟩
  · next hlocked =>
    split
    · exact hkeep s.pcu.breaks hadv
    · rw [raise_pcu]
      exact hkeep _ (cadenceOk_restate hadv (by simp [hlocked]) (by simp) (by simp))
  · next hbroken =>
    split
    · exact hkeep s.pcu.breaks hadv
    · next hunity =>
      split
      · exact hkeep s.pcu.breaks (cadenceOk_restate hcad (by simp [hbroken]) (by simp) (by simp [hunity]))
      · exact ⟨hg, hsg, hf, hsf, hpar, hheld, hcad, hsnap⟩

theorem slip_pcuOk {mode : CadenceMode} {s : State} (h : s.pcu.ok mode) : (slip s).pcu.ok mode := by
  unfold slip; rw [raise_pcu]; exact h

theorem followPosition_pcuOk (v : SpeedClass) (p : Option (BitVec 2)) {mode : CadenceMode} {s : State}
    (h : s.pcu.ok mode) (hmode : s.config.cadenceMode = mode) : (followPosition v p s).pcu.ok mode := by
  subst hmode
  obtain ⟨hg, hsg, hf, hsf, hpar, hheld, hcad, hsnap⟩ := h
  have hpcu : (followPosition v p s).pcu = { s.pcu with
      speedClass := v,
      cadenceState := (cadenceOf s.config.cadenceMode v (usedPhase s.config.cadenceMode v p)
        (s.pcu.cadenceState, s.pcu.cadencePhase)).1,
      cadencePhase := (cadenceOf s.config.cadenceMode v (usedPhase s.config.cadenceMode v p)
        (s.pcu.cadenceState, s.pcu.cadencePhase)).2 } := by
    unfold followPosition
    dsimp only
    split
    · rfl
    · rw [abortPunch_pcu]
  rw [hpcu]
  exact ⟨hg, hsg, hf, hsf, hpar, hheld, cadenceOf_ok v p hcad, hsnap⟩

theorem moveTo_pcuOk {mode : CadenceMode} {p : Pcu} (h : p.ok mode) {f : Nat} (hf : f ≤ maxFrame) (b : Bool)
    (st : PositionState) :
    Pcu.ok mode { p with gateFrame := f, rangeClamp := b, held := none, positionState := st } := by
  obtain ⟨-, hsg, hff, hsf, hpar, -, hcad, hsnap⟩ := h
  exact ⟨hf, hsg, hff, hsf, hpar, by simp, hcad, hsnap⟩

theorem applyHeld_pcuOk {h : HeldPosition} {s : State} (hs : s.pcu.ok s.config.cadenceMode)
    (hf : h.frame ≤ maxFrame) : (applyHeld h s).pcu.ok s.config.cadenceMode := by
  unfold applyHeld
  dsimp only
  have hmoved := moveTo_pcuOk hs hf false
  split
  · exact followPosition_pcuOk _ _ (hmoved .placed) rfl
  · exact followPosition_pcuOk _ _ (slip_pcuOk (hmoved _)) (by rw [slip_config])

theorem moveGate_pcuOk {s : State} (hs : s.pcu.ok s.config.cadenceMode) :
    (moveGate s).pcu.ok s.config.cadenceMode := by
  obtain ⟨hg, hsg, hff, hsf, hpar, hheld, hcad, hsnap⟩ := id hs
  unfold moveGate
  dsimp only
  split
  · exact ⟨project_le _ _ hg, hsg, hff, hsf, hpar, hheld, hcad, hsnap⟩
  · next h hh =>
    split
    · exact applyHeld_pcuOk hs (hheld h (by simp [hh]))
    · exact ⟨project_le _ _ hg, hsg, hff, hsf, hpar, hheld, hcad, hsnap⟩

theorem framePulse_pcuOk (d : Bool) {s : State} (hs : s.pcu.ok s.config.cadenceMode) :
    (framePulse d s).pcu.ok s.config.cadenceMode := by
  have hrest {u : State} (hu : u.pcu.ok u.config.cadenceMode) (hc : u.config = s.config) :
      (trigger (moveGate { cadenceCheck u with
        pcu := { (cadenceCheck u).pcu with fieldsInFrame := 0 } })).pcu.ok s.config.cadenceMode := by
    rw [trigger_pcu, ← hc, ← cadenceCheck_config u]
    refine moveGate_pcuOk (s := { cadenceCheck u with pcu := _ }) ?_
    obtain ⟨hg, hsg, -, hsf, hpar, hheld, hcad, hsnap⟩ := cadenceCheck_pcuOk hu
    rw [cadenceCheck_config]
    exact ⟨hg, hsg, Nat.zero_le _, hsf, hpar, hheld, hcad, hsnap⟩
  unfold framePulse
  cases d
  · refine hrest (u := abortPunch { s with pcu := { s.pcu with pulseSeq := s.pcu.pulseSeq + 1, direction := .rev } }) ?_
      (abortPunch_config _)
    rw [abortPunch_pcu, abortPunch_config]
    exact hs
  · exact hrest (u := { s with pcu := { s.pcu with pulseSeq := s.pcu.pulseSeq + 1, direction := .fwd } }) hs rfl

theorem positionOf_frame {p : List Byte} {h : HeldPosition} (hp : positionOf p = some h) : h.frame ≤ maxFrame := by
  unfold positionOf at hp
  split at hp
  · cases hp
  · split at hp
    · cases hp
    · next hlen hframe =>
      split at hp
      · cases hp; exact Nat.le_of_not_lt hframe
      · cases hp

theorem reconcile_pcuOk {h : HeldPosition} (d : Nat) {s : State} (hs : s.pcu.ok s.config.cadenceMode)
    (hf : h.frame ≤ maxFrame) : (reconcile h d s).pcu.ok s.config.cadenceMode := by
  unfold reconcile
  rw [triggerIf_pcu]
  generalize hp : (if decide (d ≤ 4) = true then project s.pcu.direction d h.frame else (h.frame, false)) = target
  have ht : target.1 ≤ maxFrame := by
    rw [← hp]; split
    · exact project_le _ _ hf
    · exact hf
  have hmoved := moveTo_pcuOk hs ht target.2
  dsimp only
  generalize (if decide (d ≤ 4) = true then h.phase.map (movePhase s.pcu.direction d) else h.phase) = phase
  split
  · exact followPosition_pcuOk _ _ (hmoved .placed) rfl
  · exact followPosition_pcuOk _ _ (slip_pcuOk (hmoved _)) (by rw [slip_config])

theorem handPosition_pcuOk (m : Message) {s : State} (hs : s.pcu.ok s.config.cadenceMode) :
    (handPosition m s).pcu.ok s.config.cadenceMode := by
  unfold handPosition
  split
  · split
    · exact hs
    · next h hp =>
      unfold takePosition
      dsimp only
      split
      · obtain ⟨hg, hsg, hff, hsf, hpar, -, hcad, hsnap⟩ := hs
        exact ⟨hg, hsg, hff, hsf, hpar, by simpa using positionOf_frame hp, hcad, hsnap⟩
      · exact reconcile_pcuOk _ hs (positionOf_frame hp)
  · exact hs

/-- A field start counts the field and takes the snapshot from the values as they stand (R3, R4). -/
theorem countField_pcuOk {mode : CadenceMode} {s : State} (hs : s.pcu.ok mode) : (countField s).pcu.ok mode := by
  obtain ⟨hg, hsg, hff, hsf, hpar, hheld, hcad, hsnap⟩ := hs
  refine ⟨hg, hg, ?_, hff, rfl, hheld, hcad, hcad⟩
  unfold countField; dsimp only; split <;> omega

theorem beforeScrub_pcu (s : State) : (beforeScrub s).pcu = (countField s).pcu := by simp [beforeScrub, openField]

theorem upField_pcu (chk : Checks) (s : State) : (upField chk s).pcu = (countField s).pcu := by
  rw [upField_eq, scrub_pcu, beforeScrub_pcu]

/-! ### The invariant -/

theorem pcuOk_reset (mode : CadenceMode) (r : Bool) : Pcu.ok mode { Pcu.reset with refTimerRunning := r } := by
  cases mode <;> cases r <;> decide

theorem lineReset_pcu (s : State) : (lineReset s).pcu = { Pcu.reset with refTimerRunning := true } := rfl

theorem Acts.pcuOk {s t : State} {c : Instr} (hq : s.quietOk) (hs : s.pcu.ok s.config.cadenceMode) (ha : Acts s c t) :
    t.pcu.ok t.config.cadenceMode := by
  obtain h | h := ha.aside_or_special
  · rw [h.config, h.pcu]; exact hs
  cases h
  case moves h =>
    cases h
    case powerOnReset =>
      obtain ⟨-, -, -, h, -⟩ := sound_powerOnReset s.pending
      exact h
    case leaveReset => exact hs
    case bootReadEnd image hpart =>
      obtain ⟨-, -, -, -, -, -, -, -, -, -, -, -, -, hspeed, -, hstate, hphase, hsnap⟩ := hq (not_up_of_part (.inr hpart))
      obtain ⟨hg, hsg, hff, hsf, hpar, hheld, -, -⟩ := hs
      rw [enterJoining_frame, takeConfig_frame]
      refine ⟨hg, hsg, hff, hsf, hpar, hheld, ?_, ?_⟩
      · simp [cadenceOk, hspeed, hstate, hphase]
      · simp [cadenceOk, hsnap]
    case joiningQuietExpiry => rw [autoFetch_frame]; exact hs
  case frmPulse d _ => rw [(FilmWork.framePulse d s).config]; exact framePulse_pcuOk d hs
  case loadingField => exact countField_pcuOk hs
  case upField chk _ _ =>
    rw [upField_pcu, (upField_samePart chk s).config]
    exact countField_pcuOk hs
  case position m rest _ =>
    rw [(FilmWork.handPosition m _).config]
    exact handPosition_pcuOk m (s := { s with cue := _ }) hs
  case resetSoft => simpa [lineReset_pcu] using pcuOk_reset _ true
  case resetList => simpa [lineReset_pcu] using pcuOk_reset _ true
  case punchAbort => rw [cancelPunch_frame]; simpa using hs
  case queryPunchJoins ht => subst ht; simpa using hs
  case resolutionRead => simpa [resolve] using hs
  all_goals simpa [pixelTaken] using hs

/-- Settles O6, effect by effect (`Acts.pcuOk`). -/
theorem cadenceStaysConsistent : Obligations.CadenceStaysConsistent := by
  unfold Obligations.CadenceStaysConsistent
  intro s t hq hs
  exact step_gives (P := fun s => s.quietOk ∧ s.pcu.ok s.config.cadenceMode) (fun _ h => h.2) (fun _ _ h => h)
    (fun _ _ _ h ha => ha.pcuOk h.1 h.2) ⟨hq, hs⟩

end Sys2Proof.Machine
end

section
/-! PROOF. GATE is active only in a RECORDING punch, from its fired target to its out frame, and in no omitted field (R63,
R154, R157, R158, R160): the evaluation at a field start, and the invariant. -/

namespace Sys2Proof.Machine

/-! ### The scene of a field (R63) -/

/-- A field that is not omitted has a scene that is not, and that is known: of its own frame, or of its span. -/
theorem scene_of_not_fieldOmitted {s : State} (h : s.fieldOmitted = false) :
    s.pipeline.active.scene.omitted = false
      ∧ (s.pipeline.active.resolvedFrame = s.pcu.snapshot.gateFrame
        ∨ (s.pipeline.active.scene.spanFirst ≤ s.pcu.snapshot.gateFrame
          ∧ s.pcu.snapshot.gateFrame ≤ s.pipeline.active.scene.spanLast)) := by
  unfold State.fieldOmitted at h
  dsimp only at h
  split at h
  · cases h
  · next hc =>
    refine ⟨h, ?_⟩
    simp only [State.lateField, Bool.and_eq_true, Bool.not_eq_true', decide_eq_true_eq, Bool.and_eq_false_iff,
      decide_eq_false_iff_not] at hc
    grind

/-! ### The target of an armed punch (R157) -/

/-- The punch as it stands between its events, whatever the field: what `State.gateOk` says but of the field. -/
structure PunchOk (s : State) : Prop where
  recording_of_gate : s.gate.gate = true → s.gate.punch.state = .recording
  running : s.gate.punch.state = .recording → s.part = .running ∧ s.gate.target.isSome = true
  inOut : s.gate.punch.inFrame ≤ s.gate.punch.outFrame
  out_le : s.gate.punch.outFrame ≤ maxFrame
  target : ∀ t ∈ s.gate.target, s.gate.punch.inFrame ≤ t ∧ t ≤ s.gate.punch.inFrame + 3
    ∧ (s.gate.punch.state = .recording → t ≤ s.gate.punch.outFrame)

theorem State.gateOk.punchOk {s : State} (h : s.gateOk) : PunchOk s := by
  obtain ⟨hrec, hrun, hio, hout, htarget, -⟩ := h
  exact ⟨hrec, hrun, hio, hout, fun t ht => ⟨(htarget t ht).1, (htarget t ht).2.1, (htarget t ht).2.2.1⟩⟩

/-- With GATE inactive nothing is said of the field. -/
theorem PunchOk.gateOk {s : State} (h : PunchOk s) (hgate : s.gate.gate = false) : s.gateOk :=
  ⟨h.recording_of_gate, h.running, h.inOut, h.out_le,
    fun t ht => ⟨(h.target t ht).1, (h.target t ht).2.1, (h.target t ht).2.2, fun hg => by rw [hgate] at hg; cases hg⟩,
    fun hg => by rw [hgate] at hg; cases hg⟩

/-- The gate unit, the part, the field and the bank in force are all that is read. -/
theorem gateOk_congr {s t : State} (hg : t.gate.gate = s.gate.gate) (hp : t.gate.punch = s.gate.punch)
    (ht : t.gate.target = s.gate.target) (hpart : t.part = s.part)
    (hn : t.pcu.snapshot.gateFrame = s.pcu.snapshot.gateFrame)
    (hb : t.pipeline.active = s.pipeline.active) (h : s.gateOk) : t.gateOk := by
  simpa only [State.gateOk, hg, hp, ht, hpart, hn, hb] using h

theorem raise_gateOk {f : EventFlag} {s : State} (h : s.gateOk) : (raise f s).gateOk :=
  gateOk_congr (by rw [raise_gate]) (by rw [raise_gate]) (by rw [raise_gate]) (by rw [raise_part])
    (by rw [raise_pcu]) (by rw [raise_pipeline]) h

/-- An aligned target lies within three frames of the in frame. -/
theorem punchTarget_bounds {s : State} (h : PunchOk s) :
    ∀ t ∈ punchTarget s, s.gate.punch.inFrame ≤ t ∧ t ≤ s.gate.punch.inFrame + 3 := by
  have hold : ∀ t ∈ s.gate.target, s.gate.punch.inFrame ≤ t ∧ t ≤ s.gate.punch.inFrame + 3 :=
    fun t ht => ⟨(h.target t ht).1, (h.target t ht).2.1⟩
  unfold punchTarget
  dsimp only
  split
  · split
    · rintro t ⟨⟩; omega
    · exact hold
  · exact hold

/-! ### The punch at a field start (R156 to R160) -/

theorem evalArmed_gateOk {s : State} {omitted : Bool} (h : PunchOk s) (harmed : s.gate.punch.state = .armed)
    (hscene : omitted = false → s.pipeline.active.scene.omitted = false
      ∧ (s.pipeline.active.resolvedFrame = s.pcu.snapshot.gateFrame
        ∨ (s.pipeline.active.scene.spanFirst ≤ s.pcu.snapshot.gateFrame
          ∧ s.pcu.snapshot.gateFrame ≤ s.pipeline.active.scene.spanLast))) :
    (evalArmed omitted s).gateOk := by
  have hgate : s.gate.gate = false := by
    cases hg : s.gate.gate
    · rfl
    · rw [h.recording_of_gate hg] at harmed; cases harmed
  unfold evalArmed
  dsimp only
  split
  · next hfires =>
    obtain ⟨htarget, hout, -⟩ := punchFires_bounds hfires
    have hpart : s.part = .running := by
      unfold punchFires at hfires
      simp only [Bool.and_eq_true, decide_eq_true_eq] at hfires
      obtain ⟨⟨⟨⟨⟨⟨⟨hpart, -⟩, -⟩, -⟩, -⟩, -⟩, -⟩, -⟩ := hfires
      exact hpart
    obtain ⟨hlo, hhi, -⟩ := h.target _ htarget
    refine raise_gateOk ?_
    refine ⟨fun _ => rfl, fun _ => ⟨hpart, by simp [htarget]⟩, h.inOut, h.out_le, ?_, fun hg => hscene (by simpa using hg)⟩
    dsimp only
    rw [htarget]
    rintro t ⟨⟩
    exact ⟨hlo, hhi, fun _ => hout, fun _ => ⟨Nat.le_refl _, hout⟩⟩
  · split
    · refine PunchOk.gateOk ?_ (by rw [raise_gate]; exact hgate)
      constructor <;> simp only [raise_gate, raise_part]
      case recording_of_gate => simp [hgate]
      case running => simp
      case inOut => exact h.inOut
      case out_le => exact h.out_le
      case target => simp
    · exact PunchOk.gateOk ⟨h.recording_of_gate, h.running, h.inOut, h.out_le, h.target⟩ hgate

theorem evalRecording_gateOk {s : State} {omitted : Bool} (h : PunchOk s) (hrec : s.gate.punch.state = .recording)
    (hscene : omitted = false → s.pipeline.active.scene.omitted = false
      ∧ (s.pipeline.active.resolvedFrame = s.pcu.snapshot.gateFrame
        ∨ (s.pipeline.active.scene.spanFirst ≤ s.pcu.snapshot.gateFrame
          ∧ s.pcu.snapshot.gateFrame ≤ s.pipeline.active.scene.spanLast))) :
    (evalRecording omitted s).gateOk := by
  unfold evalRecording
  dsimp only
  split
  · refine PunchOk.gateOk ?_ (by rw [raise_gate])
    constructor <;> simp only [raise_gate, raise_part]
    case recording_of_gate => simp
    case running => simp
    case inOut => exact h.inOut
    case out_le => exact h.out_le
    case target => exact fun t ht => ⟨(h.target t ht).1, (h.target t ht).2.1, by simp⟩
  · next hin =>
    obtain ⟨hrun, hsome⟩ := h.running hrec
    cases htarget : s.gate.target with
    | none => simp [htarget] at hsome
    | some f =>
      dsimp only
      refine ⟨fun _ => hrec, fun _ => ⟨hrun, by simp⟩, h.inOut, h.out_le, fun t ht => ?_, fun hg => ?_⟩
      · obtain rfl : f = t := by simpa using ht
        obtain ⟨hlo, hhi, hout⟩ := h.target f (by simp [htarget])
        refine ⟨hlo, hhi, hout, fun hg => ?_⟩
        simp only [Bool.and_eq_true, decide_eq_true_eq] at hg
        exact ⟨hg.1, Nat.le_of_not_lt hin⟩
      · simp only [Bool.and_eq_true, Bool.not_eq_true'] at hg
        exact hscene hg.2

theorem evalPunch_gateOk {s : State} {omitted : Bool} (h : PunchOk s)
    (hscene : omitted = false → s.pipeline.active.scene.omitted = false
      ∧ (s.pipeline.active.resolvedFrame = s.pcu.snapshot.gateFrame
        ∨ (s.pipeline.active.scene.spanFirst ≤ s.pcu.snapshot.gateFrame
          ∧ s.pcu.snapshot.gateFrame ≤ s.pipeline.active.scene.spanLast))) :
    (evalPunch omitted s).gateOk := by
  have hidle (hst : s.gate.punch.state ≠ .recording) : s.gateOk := by
    refine h.gateOk ?_
    cases hg : s.gate.gate
    · rfl
    · exact absurd (h.recording_of_gate hg) hst
  unfold evalPunch
  split
  case h_1 harmed =>
    have hbounds := punchTarget_bounds h
    refine evalArmed_gateOk ⟨h.recording_of_gate, ?_, h.inOut, h.out_le, ?_⟩ harmed hscene
    · simp [harmed]
    · exact fun t ht => ⟨(hbounds t ht).1, (hbounds t ht).2, by simp [harmed]⟩
  case h_2 hrec => exact evalRecording_gateOk h hrec hscene
  all_goals
    next hst => exact hidle (by simp [hst])

/-- The state the punch is evaluated in (R156): the field opened, the entry taken, TALLY and AMARK set. -/
def beforePunch (s : State) : State :=
  updateAmark (updateTally (openField s).entersScene (closeClip (enterScene (countHoldback (openField s)))))

theorem beforeScrub_eq (s : State) :
    beforeScrub s = countStatus (emitHeader
      ((startGrading (evalPunch (openField s).fieldOmitted (beforePunch s))).header (openField s).lateField
        (openField s).fieldOmitted)
      (startGrading (evalPunch (openField s).fieldOmitted (beforePunch s)))) := rfl

theorem beforeScrub_gate (s : State) :
    (beforeScrub s).gate = (evalPunch (openField s).fieldOmitted (beforePunch s)).gate := by
  simp [beforeScrub_eq]

theorem beforePunch_pcu (s : State) : (beforePunch s).pcu = (openField s).pcu := by simp [beforePunch]

theorem beforePunch_active (s : State) : (beforePunch s).pipeline.active = (openField s).pipeline.active := by
  simp [beforePunch]

theorem beforeScrub_active (s : State) : (beforeScrub s).pipeline.active = (openField s).pipeline.active := by
  simp [beforeScrub]

theorem upField_gateOk (chk : Checks) {s : State} (h : s.gateOk) : (upField chk s).gateOk := by
  have hpunch := h.punchOk
  have hbefore : PunchOk (beforePunch s) := by
    constructor <;> simp only [beforePunch, openField, updateAmark_gate_gate, updateAmark_gate_punch,
      updateAmark_gate_target, updateAmark_part, updateTally_gate_gate, updateTally_gate_punch, updateTally_gate_target,
      updateTally_part, closeClip_gate, closeClip_part, enterScene_gate, enterScene_part, countHoldback_gate,
      countHoldback_part, checkLate_gate, checkLate_part, swapBank_gate, swapBank_part, countField_gate, countField_part]
    case recording_of_gate => exact hpunch.recording_of_gate
    case running => exact hpunch.running
    case inOut => exact hpunch.inOut
    case out_le => exact hpunch.out_le
    case target => exact hpunch.target
  have heval := evalPunch_gateOk (omitted := (openField s).fieldOmitted) hbefore (fun ho => by
    rw [beforePunch_pcu, beforePunch_active]; exact scene_of_not_fieldOmitted ho)
  rw [upField_eq]
  refine gateOk_congr ?_ ?_ ?_ ?_ ?_ ?_ heval
  · rw [scrub_gate, beforeScrub_gate]
  · rw [scrub_gate, beforeScrub_gate]
  · rw [scrub_gate, beforeScrub_gate]
  · simp [beforeScrub_eq]
  · simp [beforeScrub_eq]
  · simp [beforeScrub_eq]

/-! ### The invariant -/

theorem abortedGate_gateOk {s t : State} (h : s.gateOk) (hg : t.gate = s.abortedGate) : t.gateOk := by
  have hp := h.punchOk
  refine PunchOk.gateOk ?_ (by rw [hg]; rfl)
  constructor <;> rw [hg] <;> simp only [State.abortedGate]
  case recording_of_gate => simp
  case running => simp
  case inOut => exact hp.inOut
  case out_le => exact hp.out_le
  case target => exact fun t ht => ⟨(hp.target t ht).1, (hp.target t ht).2.1, by simp⟩

theorem FilmWork.gateOk {s t : State} (h : FilmWork s t) (hs : s.gateOk) : t.gateOk := by
  obtain hg | hg := h.gate
  · exact gateOk_congr (by rw [hg]) (by rw [hg]) (by rw [hg]) h.part (by rw [h.snapshot]) (by rw [h.pipeline]) hs
  · exact abortedGate_gateOk hs hg

theorem armPunch_gateOk {s : State} {i o : Nat} {align : Bool} (h : s.gateOk) (hok : armResult i o align s = .ok) :
    (armPunch i o align s).gateOk := by
  have hp := h.punchOk
  unfold armResult at hok
  split at hok
  · cases hok
  · next hframes =>
    split at hok
    · cases hok
    · next hrec =>
      have hgate : s.gate.gate = false := by
        cases hg : s.gate.gate
        · rfl
        · exact absurd (hp.recording_of_gate hg) hrec
      refine PunchOk.gateOk ⟨?_, ?_, ?_, ?_, ?_⟩ hgate <;> simp only [armPunch]
      · simp [hgate]
      · simp
      · omega
      · omega
      · cases align <;> simp

theorem cancelPunch_gateOk {s : State} (h : s.gateOk) : (cancelPunch s).gateOk := by
  have hp := h.punchOk
  unfold cancelPunch
  split
  · next harmed =>
    have hgate : s.gate.gate = false := by
      cases hg : s.gate.gate
      · rfl
      · rw [hp.recording_of_gate hg] at harmed; cases harmed
    exact PunchOk.gateOk ⟨by simp [hgate], by simp, hp.inOut, hp.out_le, by simp⟩ hgate
  · exact (FilmWork.abortPunch s).gateOk h
  all_goals exact h

/-- A part that is not RUNNING has no recording punch, so GATE is inactive whatever bank comes into force. -/
theorem gateOk_of_not_running {s t : State} (h : s.gateOk) (hpart : s.part ≠ .running) (hg : t.gate = s.gate) :
    t.gateOk := by
  have hp := h.punchOk
  have hrec : s.gate.punch.state ≠ .recording := fun hr => hpart (hp.running hr).1
  have hgate : s.gate.gate = false := by
    cases hgt : s.gate.gate
    · rfl
    · exact absurd (hp.recording_of_gate hgt) hrec
  refine PunchOk.gateOk ?_ (by rw [hg]; exact hgate)
  constructor <;> rw [hg]
  · exact hp.recording_of_gate
  · exact fun hr => absurd hr hrec
  · exact hp.inOut
  · exact hp.out_le
  · exact hp.target

theorem GateUnit.reset_gateOk {t : State} (h : t.gate = GateUnit.reset) : t.gateOk := by
  refine PunchOk.gateOk ?_ (by rw [h]; rfl)
  constructor <;> rw [h] <;> simp [GateUnit.reset]

theorem Acts.gateOk {s t : State} {c : Instr} (hs : s.gateOk) (ha : Acts s c t) : t.gateOk := by
  obtain h | h := ha.aside_or_special
  · exact gateOk_congr (by rw [h.gate]) (by rw [h.gate]) (by rw [h.gate]) h.part (by rw [h.pcu]) (by rw [h.pipeline]) hs
  cases h
  case moves h =>
    cases h
    case powerOnReset => exact GateUnit.reset_gateOk rfl
    case leaveReset h => exact gateOk_of_not_running hs (by simp [h]) rfl
    case bootReadEnd h => exact gateOk_of_not_running hs (by simp [h]) (by rw [enterJoining_frame, takeConfig_frame])
    case joiningQuietExpiry h => exact gateOk_of_not_running hs (by simp [h]) (by rw [autoFetch_frame])
  case frmPulse d _ => exact (FilmWork.framePulse d s).gateOk hs
  case loadingField h hc => exact gateOk_of_not_running hs (by simp [h]) rfl
  case upField chk _ _ => exact upField_gateOk chk hs
  case refLossExpiry => exact (((FilmWork.ofPcu s _).trans (.raise .refLoss _)).trans (.abortPunch _)).gateOk hs
  case position m rest _ => exact (FilmWork.handPosition m _).gateOk (s := { s with cue := _ }) hs
  case resetSoft => exact GateUnit.reset_gateOk (by simp [lineReset])
  case resetList => exact GateUnit.reset_gateOk (by simp [lineReset])
  case punchArm hok =>
    exact gateOk_congr (by simp) (by simp) (by simp) (by simp) (by simp) (by simp) (armPunch_gateOk hs hok)
  case punchAbort =>
    exact gateOk_congr (by simp) (by simp) (by simp) (by simp) (by simp) (by simp) (cancelPunch_gateOk hs)
  case queryPunchJoins m t _ ht =>
    have hgate : t.gate = s.gate := by rw [ht]; simp
    have hrest : t.part = s.part ∧ t.pcu = s.pcu ∧ t.pipeline = s.pipeline := by rw [ht]; simp
    simpa [State.gateOk, hgate, hrest] using hs
  case pixel => exact gateOk_congr rfl rfl rfl rfl rfl rfl hs
  case lineEnd => exact gateOk_congr rfl rfl rfl rfl rfl rfl hs
  case resolutionRead =>
    exact gateOk_congr (by simp [resolve]) (by simp [resolve]) (by simp [resolve]) (by simp [resolve]) (by simp [resolve])
      (by simp [resolve]) hs
  case fillingComplete => exact gateOk_congr (by simp) (by simp) (by simp) (by simp) (by simp) (by simp) hs

/-- Settles O9, effect by effect (`Acts.gateOk`); the field start is `evalPunch_gateOk`. -/
theorem gateOnlyWhileRecording : Obligations.GateOnlyWhileRecording := by
  unfold Obligations.GateOnlyWhileRecording
  intro s t
  exact step_gives (P := State.gateOk) (fun _ h => h) (fun _ _ h => h) fun _ _ _ h ha => ha.gateOk h

end Sys2Proof.Machine
end

section
/-! PROOF. Both banks stay in range (R49, R52, R54): what a configuration read from the boot store holds, what a reading
finds, what its filling gives, and what the resolver takes at a grant. -/

namespace Sys2Proof.Machine

/-! ### The configuration a boot image gives (R183, R198, R199) -/

theorem tallyLengthOf_bounds (n : Nat) : 1 ≤ tallyLengthOf n ∧ tallyLengthOf n ≤ 15 := by
  unfold tallyLengthOf
  split
  · omega
  · split <;> omega

theorem baseGradeOf_ok {p : List Byte} {g : Grade} (h : baseGradeOf p = some g) : g.ok := by
  unfold baseGradeOf at h
  split at h
  · next hidx =>
    cases h
    refine ⟨Rgb.clamped_within 0 1023 _ (by decide), Rgb.clamped_within 0 4095 _ (by decide),
      Rgb.clamped_within (-256) 255 _ (by decide), clamp_within 0 2047 (u16 p 34) (by decide), ?_, by simp [Curve.ownKnots]⟩
    simpa [Curve.fault] using hidx
  · cases h

theorem presetsAt_ok {p : List Byte} {n i : Nat} {r : List (List Knot) × Nat} (h : presetsAt p i n = some r) :
    r.1.length = n ∧ ∀ ks ∈ r.1, knotsOk ks := by
  induction n generalizing i r with
  | zero => cases h; simp
  | succ n ih =>
    unfold presetsAt at h
    split at h
    · cases h
    · next hfault =>
      split at h
      · cases h
      · next r' hr =>
        cases h
        obtain ⟨hlen, hok⟩ := ih hr
        refine ⟨by simp [hlen], fun ks hks => ?_⟩
        obtain rfl | hks := List.mem_cons.1 hks
        · refine ⟨by rw [knotsFault_map_clampKnot]; simpa using hfault, fun k hk => ?_⟩
          obtain ⟨k', -, rfl⟩ := List.mem_map.1 hk
          exact clampKnot_y_le k'
        · exact hok ks hks

theorem bodyPresets_ok {p : List Byte} {l : List (List Knot)} (h : bodyPresets p = some l) :
    l.length = 8 ∧ ∀ ks ∈ l, knotsOk ks := by
  unfold bodyPresets at h
  split at h
  · cases h
  · next r hr =>
    split at h
    · cases h; exact presetsAt_ok hr
    · cases h

theorem configOf_ok {own : Byte} {p : List Byte} {c : Config} (h : configOf own p = some c) : c.ok := by
  simp only [configOf, Option.bind_eq_bind, Option.bind_eq_some_iff, Option.pure_def, Option.some.injEq] at h
  obtain ⟨-, -, -, -, -, -, -, -, -, -, -, -, -, -, grade, hgrade, -, -, -, -, presets, hpresets, rfl⟩ := h
  obtain ⟨hlen, hks⟩ := bodyPresets_ok hpresets
  exact ⟨baseGradeOf_ok hgrade, hlen, hks, u8_le p 41, by dsimp only; split <;> omega, tallyLengthOf_bounds _⟩

theorem readImage_ok {own : Byte} {image : List Byte} {c : Config} (h : readImage own image = some c) : c.ok := by
  unfold readImage at h
  dsimp only at h
  split at h
  · cases h
  · split at h
    · cases h
    · split at h
      · cases h
      · split at h
        · cases h
        · exact configOf_ok h

theorem Config.default_ok : Config.default.ok := by decide

theorem takeConfig_ok (image : List Byte) (s : State) : (takeConfig image s).config.ok := by
  unfold takeConfig
  split
  · exact Config.default_ok
  · next h => exact readImage_ok h

theorem Acts.config_ok {s t : State} {c : Instr} (hs : s.config.ok) (ha : Acts s c t) : t.config.ok := by
  obtain h | h := ha.samePart_or_moves
  · rw [h.config]; exact hs
  cases h
  case powerOnReset => exact Config.default_ok
  case leaveReset => exact hs
  case bootReadEnd image _ => rw [enterJoining_frame]; exact takeConfig_ok image s
  case joiningQuietExpiry => rw [autoFetch_frame]; exact hs

/-! ### What a reading finds (R47 to R51, R54) -/

theorem mem_backFrom {f : Nat} {idx : List Entry} {e : Entry} (h : e ∈ backFrom f idx) :
    e ∈ idx ∧ e.faulty = false ∧ e.start ≤ f := by
  simpa [backFrom] using h

/-- A mix weight within a transition lies from 4 to 252 (R49). -/
theorem mixWeight_bounds {len j : Nat} (hlen : len ≤ 63) (hj : j < len) :
    4 ≤ mixWeight len j ∧ mixWeight len j ≤ 252 := by
  unfold mixWeight
  constructor
  · rw [Nat.le_div_iff_mul_le (by omega)]; omega
  · refine Nat.le_of_lt_succ ((Nat.div_lt_iff_lt_mul (by omega)).2 ?_); omega

/-- The span of a frame ends at or after it, and within the reel. -/
theorem spanEnd_bounds {st : Store} (h : st.ok) {f : Nat} (hf : f ≤ maxFrame) :
    f ≤ spanEnd (nextAfter f st.index) ∧ spanEnd (nextAfter f st.index) ≤ maxFrame := by
  cases hn : nextAfter f st.index with
  | none => exact ⟨hf, Nat.le_refl _⟩
  | some e =>
    have hlt : f < e.start := by
      have hp := List.find?_some hn
      simp only [Bool.and_eq_true, decide_eq_true_eq] at hp
      exact hp.2
    have hle := (h.2.1 e (List.mem_of_find?_eq_some hn)).1
    simp only [spanEnd]
    omega

theorem walkBack_ok (chk : Checks) {es : List Entry} {s : State} (hbase : s.config.baseGrade.ok) (hes : ∀ e ∈ es, e.ok) :
    (walkBack chk es s).2.ok := by
  induction es generalizing s with
  | nil => exact hbase
  | cons e es ih =>
    unfold walkBack
    dsimp only
    split
    · next g hg => exact (readBody_view_ok .resolve chk s (hes e (by simp))).2.2 g hg
    · exact ih (by simpa using hbase) fun e' he' => hes e' (by simp [he'])

theorem readGrade_ok (chk : Checks) {l : Latch} {s : State} (hbase : s.config.baseGrade.ok) (hst : s.store.ok)
    (hl : l.frame ≤ maxFrame) : (readGrade chk l s).2.ok := by
  obtain ⟨hspan, hlast⟩ := spanEnd_bounds hst hl
  unfold readGrade
  dsimp only
  cases hback : backFrom l.frame s.store.index with
  | nil => exact ⟨.inl rfl, hbase, by simp, ⟨Nat.zero_le _, hlast⟩, Nat.zero_le _, hspan⟩
  | cons g back =>
    have hmem {e : Entry} (he : e ∈ g :: back) : e.ok := hst.2.1 e (mem_backFrom (hback ▸ he)).1
    have hgl : g.start ≤ l.frame := (mem_backFrom (f := l.frame) (idx := s.store.index) (by simp [hback])).2.2
    have hview := readBody_view_ok .resolve chk s (hmem (e := g) (by simp))
    have hwalk : (walkBack chk back (readBody .resolve chk g s).state).2.ok :=
      walkBack_ok chk (by simpa using hbase) fun e he => hmem (by simp [he])
    have hscene : g.start ≤ spanEnd (nextAfter l.frame s.store.index) := Nat.le_trans hgl hspan
    dsimp only
    split
    · exact ⟨.inl rfl, hwalk, by simp, ⟨hscene, hlast⟩, hgl, hspan⟩
    · next grade hgrade =>
      have hgrade := hview.2.2 grade hgrade
      split
      · next hj =>
        have hw := mixWeight_bounds hview.2.1 hj.2
        exact ⟨.inr hw, hgrade, by simpa using ⟨hwalk, hw.2⟩, ⟨hscene, hlast⟩, hgl, hspan⟩
      · exact ⟨.inl rfl, hgrade, by simp, ⟨hscene, hlast⟩, hgl, hspan⟩

/-! ### What a filling gives (R52) -/

/-- A share `n` of `d` of the way from `a` to `b`, before its division. -/
theorem share_within {n d lo hi a b : Int} (hn : 0 ≤ n) (hnd : n ≤ d) (ha : lo ≤ a ∧ a ≤ hi) (hb : lo ≤ b ∧ b ≤ hi) :
    (lo - a) * d ≤ (b - a) * n ∧ (b - a) * n ≤ (hi - a) * d :=
  ⟨Int.le_trans (Int.mul_le_mul_of_nonpos_left (by omega) hnd) (Int.mul_le_mul_of_nonneg_right (by omega) hn),
    Int.le_trans (Int.mul_le_mul_of_nonneg_right (by omega) hn) (Int.mul_le_mul_of_nonneg_left hnd (by omega))⟩

/-- A blended value lies between the bounds of the two it is blended from. -/
theorem blend_within {w : Nat} (hw : w ≤ 256) {lo hi a b : Int} (ha : lo ≤ a ∧ a ≤ hi) (hb : lo ≤ b ∧ b ≤ hi) :
    lo ≤ blend w a b ∧ blend w a b ≤ hi := by
  obtain ⟨hlow, hhigh⟩ := share_within (n := w) (d := 256) (by omega) (by omega) ha hb
  unfold blend
  omega

theorem Rgb.blend_within {w : Nat} (hw : w ≤ 256) {lo hi : Int} {a b : Rgb} (ha : a.within lo hi) (hb : b.within lo hi) :
    (Rgb.blend w a b).within lo hi :=
  ⟨Machine.blend_within hw ha.1 hb.1, Machine.blend_within hw ha.2.1 hb.2.1, Machine.blend_within hw ha.2.2 hb.2.2⟩

theorem weightOk_le {w : Nat} (h : weightOk w) : w ≤ 256 := by
  obtain h | h := h <;> omega

theorem fillBank_ok {r : Reading} (h : r.ok) : (fillBank r).ok := by
  obtain ⟨hw, hto, hfrom, hscene, hframe⟩ := h
  unfold fillBank
  cases hg : r.fromGrade with
  | none => exact Bank.ofGrade_ok hto hscene hframe
  | some f =>
    obtain ⟨⟨hblack, hgain, hlift, hsat, hcurve⟩, hle⟩ := hfrom f (by simp [hg])
    obtain ⟨hblack', hgain', hlift', hsat', hcurve'⟩ := hto
    have h256 := weightOk_le hw
    refine ⟨hw, ⟨Rgb.blend_within h256 hblack hblack', Rgb.blend_within h256 hgain hgain',
      Rgb.blend_within h256 hlift hlift', blend_within h256 hsat hsat', hcurve'⟩, ?_, hscene, hframe⟩
    dsimp only
    split
    · simp
    · simpa using ⟨hcurve, hle⟩

/-! ### What the resolver takes at its grant (R57) -/

/-- The frame a reading was granted for lies on the reel. -/
def State.latchOk (s : State) : Prop := ∀ l ∈ s.resolver.latch, l.frame ≤ maxFrame

theorem StoreWork.latchOk {s t : State} (h : StoreWork s t) (hg : s.pcu.gateFrame ≤ maxFrame) (hl : s.latchOk) :
    t.latchOk := by
  induction h with
  | trans h _ ih ig => exact ig (by rw [h.frame.pcu]; exact hg) (ih hg hl)
  | latch => rintro l ⟨⟩; exact hg
  | raise => simpa [State.latchOk] using hl
  | _ => exact hl

theorem WorkAtStore.latchOk {s t : State} (h : WorkAtStore s t) (hg : s.pcu.gateFrame ≤ maxFrame) (hl : s.latchOk) :
    t.latchOk :=
  h.work.latchOk hg hl

theorem latchOk_congr {s t : State} (h : t.resolver.latch = s.resolver.latch) (hs : s.latchOk) : t.latchOk := by
  unfold State.latchOk; rw [h]; exact hs

/-- Work at the store, from a state that has the latch and the gate frame of a sound one. -/
theorem WorkAtStore.latchOk_of {s t u : State} (h : WorkAtStore t u) (hpcu : t.pcu = s.pcu)
    (hres : t.resolver.latch = s.resolver.latch) (hg : s.pcu.gateFrame ≤ maxFrame) (hs : s.latchOk) : u.latchOk :=
  h.latchOk (by rw [hpcu]; exact hg) (latchOk_congr hres hs)

/-- Work that follows the film and then, where `b` holds, triggers: the arbiter and the resolver stand until then. -/
structure Triggers (s t : State) (b : Bool) (u : State) : Prop where
  eq : t = triggerIf b u
  film : FilmWork s u
  arbiter : u.arbiter = s.arbiter
  resolver : u.resolver = s.resolver

theorem framePulse_triggers (d : Bool) (s : State) : ∃ u, Triggers s (framePulse d s) true u := by
  unfold framePulse
  refine ⟨_, rfl, ?_, ?_, ?_⟩
  · refine FilmWork.trans (FilmWork.trans (FilmWork.trans ?_ (.cadenceCheck _)) (.ofPcu _ _)) (.moveGate _)
    cases d
    · exact (FilmWork.ofPcu s _).trans (.abortPunch _)
    · exact .ofPcu s _
  · cases d <;> simp
  · cases d <;> simp

theorem reconcile_triggers (h : HeldPosition) (d : Nat) (s : State) : ∃ b u, Triggers s (reconcile h d s) b u := by
  unfold reconcile
  refine ⟨_, _, rfl, ?_, ?_, ?_⟩
  · refine FilmWork.trans ?_ (.followPosition _ _ _)
    exact iteInduction (motive := FilmWork s) (fun _ => .ofPcu s _) (fun _ => (FilmWork.ofPcu s _).trans (.slip _))
  · rw [followPosition_arbiter]
    exact iteInduction (motive := fun u : State => u.arbiter = s.arbiter) (fun _ => rfl) (fun _ => by simp)
  · rw [followPosition_resolver]
    exact iteInduction (motive := fun u : State => u.resolver = s.resolver) (fun _ => rfl) (fun _ => by simp)

theorem handPosition_triggers (m : Message) (s : State) : ∃ b u, Triggers s (handPosition m s) b u := by
  unfold handPosition
  split
  · split
    · exact ⟨false, _, rfl, .ignore s, rfl, rfl⟩
    · unfold takePosition
      dsimp only
      split
      · exact ⟨false, _, rfl, .ofPcu s _, rfl, rfl⟩
      · exact reconcile_triggers _ _ s
  · exact ⟨false, _, rfl, .ignore s, rfl, rfl⟩

theorem Triggers.latchOk {s t u : State} {b : Bool} (h : Triggers s t b u) (hg : t.pcu.gateFrame ≤ maxFrame)
    (hs : s.latchOk) : t.latchOk := by
  rw [h.eq] at hg ⊢
  rw [triggerIf_pcu] at hg
  exact (WorkAtStore.triggerIf b u).latchOk hg (latchOk_congr (by rw [h.resolver]) hs)

theorem Acts.latchOk {s t : State} {c : Instr} (hp : s.pcu.ok s.config.cadenceMode) (hs : s.latchOk)
    (ha : Acts s c t) : t.latchOk := by
  have hg := hp.1
  cases hw : worksAtStore c
  case true => exact (ha.workAtStore hw).latchOk hg hs
  cases ha
  case powerOnReset => rintro _ ⟨⟩
  case bootReadEnd image _ =>
    rw [takeConfig_frame]
    exact (WorkAtStore.trigger _).latchOk_of rfl rfl hg hs
  case joiningQuietExpiry => rw [autoFetch_frame]; exact hs
  case frmPulse d _ =>
    obtain ⟨u, h⟩ := framePulse_triggers d s
    exact h.latchOk (framePulse_pcuOk d hp).1 hs
  case position m rest _ =>
    obtain ⟨b, u, h⟩ := handPosition_triggers m { s with cue.handover := rest }
    exact h.latchOk (handPosition_pcuOk m (s := { s with cue.handover := rest }) hp).1 hs
  case upField chk _ _ =>
    exact (WorkAtStore.scrub chk (beforeScrub s)).latchOk (by rw [beforeScrub_pcu]; exact hg)
      (latchOk_congr (by simp [beforeScrub, openField]) hs)
  case refLossExpiry => exact latchOk_congr (by simp) hs
  case character x _ _ _ => exact latchOk_congr (by rw [(LineWork.applyOutcome x _ _).rest]; rfl) hs
  case gapExpiry => exact latchOk_congr (by rw [(LineWork.receiveError _ _ _).rest]) hs
  case queryAnswered m a _ _ => exact (WorkAtStore.answerQuery m a s).latchOk hg hs
  case mhTake m rest _ _ _ => exact (WorkAtStore.applyVerdict m _ _).latchOk_of rfl rfl hg hs
  case setMode mode _ =>
    refine latchOk_congr (s := writeMode mode s) (by rw [writeSettings_eq]; simp) ?_
    exact (WorkAtStore.triggerIf _ _).latchOk_of rfl rfl hg hs
  case resetSoft =>
    refine latchOk_congr (s := trigger (lineReset s)) (by simp) ?_
    exact (WorkAtStore.trigger _).latchOk (Nat.zero_le _) hs
  case resetList =>
    refine latchOk_congr (s := releaseSignal true { lineReset s with store := Store.empty }) (by simp) ?_
    exact (WorkAtStore.releaseSignal _ _).latchOk (Nat.zero_le _) hs
  case partnerAgrees => exact ((WorkAtStore.examineStore _ _ s).trans (.releaseSignal _ _)).latchOk hg hs
  case partnerDiffers chk _ f _ =>
    refine latchOk_congr (by rw [partnerMismatch_frame]; rfl) (?_ : State.latchOk (releaseSignal _ _))
    exact ((WorkAtStore.examineStore _ _ s).trans (.releaseSignal _ _)).latchOk hg hs
  case listQuery => exact (WorkAtStore.pokeResponder _).latchOk_of rfl rfl hg hs
  case responderFinishes chk c _ _ _ =>
    exact (((WorkAtStore.streamStep chk c (dropPlace s)).trans (.releaseSignal _ _)).trans
      (.pokeResponder _)).latchOk_of rfl rfl hg hs
  case responderStreams chk _ _ _ _ =>
    refine (((WorkAtStore.releaseSignal _ _)).trans (.pokeResponder _)).latchOk_of ?_ ?_ hg hs
    · rw [advanceStream_frame]; simp [dropPlace]
    · rw [advanceStream_frame]; simp [dropPlace]
  case responderEnds => exact (WorkAtStore.release _).latchOk_of rfl rfl hg hs
  case responderNoRoom => exact ((WorkAtStore.release _).trans (.pokeResponder _)).latchOk_of rfl rfl hg hs
  case listRec => exact (WorkAtStore.request _ _).latchOk_of rfl rfl hg hs
  case merge chk m tag _ _ =>
    refine (WorkAtStore.releaseSignal _ (countMerge tag _ _)).latchOk_of ?_ ?_ hg hs
    · rw [countMerge_frame]; simp
    · rw [countMerge_frame]; simp
  case resolutionRead chk l _ _ =>
    unfold resolve
    refine (WorkAtStore.release _).latchOk (by simpa using hg) ?_
    rintro _ ⟨⟩
  case fillingComplete => exact (WorkAtStore.triggerIf _ _).latchOk_of rfl rfl hg hs
  case attemptStart => exact (WorkAtStore.pokeResponder _).latchOk_of rfl rfl hg hs
  case unknownKind | sceneSet | gradeSet | sceneMove | sceneDelete | rangeTrimRefused | rangeTrimBegins | trimAsks
    | trimStep | listClear | queryScene => cases hw
  case queryPunchJoins ht => subst ht; exact latchOk_congr (by simp) hs
  case punchAbort => rw [cancelPunch_frame]; exact latchOk_congr (by simp) hs
  all_goals refine latchOk_congr (s := s) ?_ hs
  all_goals simp [Machine.loadingField, Machine.unexpected, pixelTaken]

theorem Acts.banksOk {s t : State} {c : Instr} (hc : s.config.ok) (hst : s.store.ok)
    (hp : s.pcu.ok s.config.cadenceMode) (hs : s.banksOk) (ha : Acts s c t) : t.banksOk := by
  obtain ⟨hactive, hreading, hbank, hlatch⟩ := hs
  refine and_assoc.1 (and_assoc.1 ⟨?_, ha.latchOk hp hlatch⟩)
  obtain h | h := ha.pipeline
  · rw [h]; exact ⟨⟨hactive, hreading⟩, hbank⟩
  generalize t.pipeline = p at h
  cases h
  case powerOnReset =>
    obtain ⟨-, -, -, -, -, -, -, -, -, -, ⟨ha, hr, hb, -⟩, -⟩ := sound_powerOnReset []
    exact ⟨⟨ha, hr⟩, hb⟩
  case bootReadEnd image _ =>
    exact ⟨⟨Bank.ofGrade_ok (takeConfig_ok image s).1 (by decide) ⟨Nat.zero_le _, hp.1⟩, by rintro _ ⟨⟩⟩, by rintro _ ⟨⟩⟩
  case upField =>
    rw [show (beforeScrub s).pipeline.active = (swapBank (countField s)).pipeline.active by simp [beforeScrub, openField],
      show (beforeScrub s).pipeline.pendingBank = (swapBank (countField s)).pipeline.pendingBank by
        simp [beforeScrub, openField]]
    unfold swapBank
    split
    · next b hb => exact ⟨⟨hbank b (by rw [← countField_pipeline, hb]; rfl), by rintro _ ⟨⟩⟩, by rintro _ ⟨⟩⟩
    · exact ⟨⟨hactive, hreading⟩, hbank⟩
    · exact ⟨⟨hactive, hreading⟩, hbank⟩
  case resolutionRead chk l hl =>
    refine ⟨⟨hactive, ?_⟩, by rintro _ ⟨⟩⟩
    rintro r ⟨⟩
    exact readGrade_ok chk (by simpa using hc.1) ((examineStore_marks _ chk s).ok hst) (hlatch l hl)
  case fillingComplete r hr =>
    refine ⟨⟨hactive, by rintro _ ⟨⟩⟩, ?_⟩
    rintro b ⟨⟩
    exact fillBank_ok (hreading r (by rw [hr]; rfl))
  all_goals exact ⟨⟨hactive, hreading⟩, hbank⟩

/-- Settles O10, effect by effect (`Acts.banksOk`): a bank is filled from a reading in range. -/
theorem banksStayInRange : Obligations.BanksStayInRange := by
  unfold Obligations.BanksStayInRange
  intro s t hc hst hp hs
  exact step_gives (P := fun s => s.config.ok ∧ s.store.ok ∧ s.pcu.ok s.config.cadenceMode ∧ s.banksOk)
    (Q := fun t => t.config.ok ∧ t.banksOk)
    (fun _ h => ⟨h.1, h.2.2.2⟩) (fun _ _ h => h)
    (fun _ _ _ ⟨hc, hst, hp, hs⟩ ha => ⟨ha.config_ok hc, ha.banksOk hc hst hp hs⟩) ⟨hc, hst, hp, hs⟩

end Sys2Proof.Machine
end

section
/-! PROOF. What leaves the PIC port is legal (R79, R85, R186, R197): every word appended is a header word of bytes, a
clamped pixel, or legal black. -/

namespace Sys2Proof.Machine

/-! ### The words that are appended -/

theorem headerWords_ok (bs : List Byte) : ∀ w ∈ headerWords bs, ∀ range, w.ok range := by
  fun_induction headerWords bs with
  | case1 a b c rest ih =>
    intro w hw range
    obtain rfl | hw := List.mem_cons.1 hw
    · refine ⟨by simp [PicWord.pixels], fun x hx => ?_⟩
      have hbyte (y : Byte) : (y.setWidth 10).toNat < 256 := by
        rw [BitVec.toNat_setWidth]; exact Nat.lt_of_le_of_lt (Nat.mod_le _ _) y.isLt
      simp only [PicWord.headers, List.mem_cons, List.not_mem_nil, or_false] at hx
      obtain rfl | rfl | rfl := hx <;> exact hbyte _
    · exact ih w hw range
  | case2 => simp

/-- A value of ten bits keeps its value on the port. -/
theorem toNat_ofInt_ten {x : Int} (h : 0 ≤ x ∧ x ≤ 1023) : ((BitVec.ofInt 10 x).toNat : Int) = x := by
  rw [BitVec.toNat_ofInt]; omega

theorem pixelWord_ok {range : LegalRange} {v : Rgb} (h : v.within range.lower range.upper) :
    (pixelWord v).ok range := by
  have hten {x : Int} (hx : range.lower ≤ x ∧ x ≤ range.upper) : range.allows (BitVec.ofInt 10 x).toNat := by
    have hx' : 0 ≤ x ∧ x ≤ 1023 := by cases range <;> simp only [LegalRange.lower, LegalRange.upper] at hx <;> omega
    rw [LegalRange.allows, toNat_ofInt_ten hx']
    exact hx
  refine ⟨fun x hx => ?_, by simp [pixelWord, PicWord.headers]⟩
  simp only [pixelWord, PicWord.pixels, List.mem_cons, List.not_mem_nil, or_false] at hx
  obtain rfl | rfl | rfl := hx
  · exact hten h.1
  · exact hten h.2.1
  · exact hten h.2.2

theorem legal_within (range : LegalRange) (x : Int) : range.lower ≤ legal range x ∧ legal range x ≤ range.upper :=
  clamp_within _ _ x (lower_le_upper range)

theorem pixelOut_ok (i : Nat) (x : Rgb) {s : State} (h : s.part ≠ .loading) :
    (pixelOut s i x).1.ok s.config.legalRange := by
  unfold pixelOut
  split
  · have hlevel : s.blackLevel = s.config.legalRange.lower := if_neg h
    have hin := lower_le_upper s.config.legalRange
    rw [hlevel]
    exact pixelWord_ok ⟨⟨Int.le_refl _, hin⟩, ⟨Int.le_refl _, hin⟩, ⟨Int.le_refl _, hin⟩⟩
  · exact pixelWord_ok ⟨legal_within _ _, legal_within _ _, legal_within _ _⟩

/-- Legal black of LOADING is 64, which both ranges allow (R85). -/
theorem pixelOut_loading_ok (i : Nat) (x : Rgb) {s : State} (hpart : s.part = .loading)
    (hmode : s.pipeline.outputMode = .black) (range : LegalRange) : (pixelOut s i x).1.ok range := by
  have hlevel : s.blackLevel = 64 := by simp [State.blackLevel, hpart]
  rw [pixelOut_black i x hmode, hlevel]
  exact pixelWord_ok (by cases range <;> decide)

/-! ### The invariant -/

theorem loading_of_down {s : State} (h : s.up = false) (hpart : s.part ≠ .reset) : s.part = .loading := by
  cases hs : s.part <;> simp_all [State.up]

/-- A word that both ranges allow, either allows. -/
theorem ok_of_both {w : PicWord} (h : w.ok .full ∧ w.ok .narrow) (range : LegalRange) : w.ok range := by
  cases range
  · exact h.2
  · exact h.1

theorem portOk_congr {s t : State} (hport : t.pipeline.port = s.pipeline.port) (hconfig : t.config = s.config)
    (hup : t.up = s.up) (hs : s.portOk) : t.portOk := by
  unfold State.portOk; rw [hport, hconfig, hup]; exact hs

theorem portOk_nil {s : State} (h : s.pipeline.port = []) : s.portOk := by
  unfold State.portOk; rw [h]; simp

/-- One more word, or words, that the part's range and, before JOINING, both ranges allow. -/
theorem portOk_append {s t : State} {ws : List PicWord} (hport : t.pipeline.port = s.pipeline.port ++ ws)
    (hsame : SamePart s t) (hs : s.portOk) (hws : ∀ w ∈ ws, w.ok s.config.legalRange)
    (hdown : s.up = false → ∀ w ∈ ws, ∀ range, w.ok range) : t.portOk := by
  unfold State.portOk
  rw [hport, hsame.config, hsame.up]
  refine ⟨fun w hw => ?_, fun hd w hw => ?_⟩
  · exact (List.mem_append.1 hw).elim (hs.1 w) (hws w)
  · exact (List.mem_append.1 hw).elim (hs.2 hd w) fun h => ⟨hdown hd w h .full, hdown hd w h .narrow⟩

theorem beforeScrub_port (s : State) :
    ∃ h : HeaderRecord, (beforeScrub s).pipeline.port = s.pipeline.port ++ headerWords h.bytes := by
  refine ⟨(startGrading (evalPunch (openField s).fieldOmitted (beforePunch s))).header (openField s).lateField
    (openField s).fieldOmitted, ?_⟩
  rw [beforeScrub_eq, countStatus_pipeline, emitHeader]
  simp [beforePunch, openField]

theorem Acts.portOk {s t : State} {c : Instr} (hq : s.quietOk) (hs : s.portOk) (ha : Acts s c t) : t.portOk := by
  obtain hsame | hmoves := ha.samePart_or_moves
  · obtain h | h := ha.pipeline
    · exact portOk_congr (by rw [h]) hsame.config hsame.up hs
    generalize hp : t.pipeline = p at h
    cases h
    case powerOnReset => exact portOk_nil (by rw [hp]; rfl)
    case loadingField =>
      exact portOk_append (by rw [hp]; rfl) hsame hs
        (fun w hw => headerWords_ok _ w hw _) fun _ w hw => headerWords_ok _ w hw
    case upField =>
      obtain ⟨h, hport⟩ := beforeScrub_port s
      exact portOk_append (by rw [hp]; exact hport) hsame hs (fun w hw => headerWords_ok _ w hw _)
        fun _ w hw => headerWords_ok _ w hw
    case pixel r g b hpart =>
      have hblack (hd : s.up = false) : s.pipeline.outputMode = .black := (hq hd).2.2.2.2.2.1
      have hdown (hd : s.up = false) (range : LegalRange) :
          (pixelOut s s.nextIndex ⟨r.toNat, g.toNat, b.toNat⟩).1.ok range :=
        pixelOut_loading_ok _ _ (loading_of_down hd hpart) (hblack hd) range
      refine portOk_append (by rw [hp]; rfl) hsame hs ?_ ?_
      · intro w hw
        obtain rfl := List.mem_singleton.1 hw
        cases hup : s.up
        · exact hdown hup _
        · exact pixelOut_ok _ _ fun h => by simp [State.up, h] at hup
      · intro hd w hw
        obtain rfl := List.mem_singleton.1 hw
        exact hdown hd
    case lineReset => exact portOk_congr (by rw [hp]; rfl) hsame.config hsame.up hs
    all_goals exact portOk_congr (by rw [hp]) hsame.config hsame.up hs
  · cases hmoves
    case powerOnReset => exact portOk_nil rfl
    case leaveReset h => exact ⟨hs.1, fun _ => hs.2 (not_up_of_part (.inl h))⟩
    case bootReadEnd image h =>
      have hboth := hs.2 (not_up_of_part (.inr h))
      rw [enterJoining_frame, takeConfig_frame]
      refine ⟨fun w hw => ok_of_both (hboth w ?_) _, fun hd => by cases hd⟩
      simpa [enterJoining] using hw
    case joiningQuietExpiry h =>
      rw [autoFetch_frame]
      exact ⟨hs.1, fun hd => by cases hd⟩

/-- Settles O11, effect by effect (`Acts.portOk`). -/
theorem pixelsLeaveWithinTheLegalRange : Obligations.PixelsLeaveWithinTheLegalRange := by
  unfold Obligations.PixelsLeaveWithinTheLegalRange
  intro s t hq hs
  exact step_gives (P := fun s => s.quietOk ∧ s.portOk) (Q := State.portOk) (fun _ h => h.2) (fun _ _ h => h)
    (fun _ _ _ h ha => ha.portOk h.1 h.2) ⟨hq, hs⟩

end Sys2Proof.Machine
end

section
/-! PROOF. Counters, countdowns and the fetch status record stay in their ranges (R65, R146, R164, R178). -/

namespace Sys2Proof.Machine

/-! ### The saturating counters -/

/-- The saturating counters of the part. -/
def State.counts (s : State) : List Nat :=
  [s.pcu.slips, s.pcu.breaks, s.resolver.late, s.cue.lineErrors, s.cue.rxDrops, s.cue.txAbandons, s.handler.ignored,
    s.events.corrected, s.events.damaged, s.requester.received, s.requester.inserted, s.requester.replaced,
    s.requester.keptLocal, s.requester.refused, s.pipeline.clipInProgress, s.pipeline.clipLast]

theorem countersOk_iff (s : State) : s.countersOk ↔ (∀ n ∈ s.counts, n ≤ 65535) ∧ s.pipeline.pixelIndex ≤ 2047 := by
  simp [State.counts, State.countersOk, and_assoc]

theorem satInc_le (n : Nat) : satInc n ≤ 65535 := by rw [satInc_eq_min]; omega

theorem countersOk_congr {s t : State} (h : t.counts = s.counts) (hp : t.pipeline.pixelIndex = s.pipeline.pixelIndex)
    (hs : s.countersOk) : t.countersOk := by
  rw [countersOk_iff, h, hp, ← countersOk_iff]; exact hs

theorem raise_counts (f : EventFlag) (s : State) : (raise f s).counts = s.counts := by simp [State.counts]

theorem StoreWork.countersOk {s t : State} (h : StoreWork s t) (hs : s.countersOk) : t.countersOk := by
  induction h with
  | trans _ _ ih ig => exact ig (ih hs)
  | raise f s => exact countersOk_congr (raise_counts f s) (by simp) hs
  | abandon =>
    obtain ⟨h1, h2, h3, h4, h5, -, hrest⟩ := hs
    exact ⟨h1, h2, h3, h4, h5, satInc_le _, hrest⟩
  | ignore =>
    obtain ⟨h1, h2, h3, h4, h5, h6, -, hrest⟩ := hs
    exact ⟨h1, h2, h3, h4, h5, h6, satInc_le _, hrest⟩
  | corrected =>
    obtain ⟨h1, h2, h3, h4, h5, h6, h7, -, hrest⟩ := hs
    exact ⟨h1, h2, h3, h4, h5, h6, h7, satInc_le _, hrest⟩
  | damaged =>
    obtain ⟨h1, h2, h3, h4, h5, h6, h7, h8, -, hrest⟩ := hs
    exact ⟨h1, h2, h3, h4, h5, h6, h7, h8, satInc_le _, hrest⟩
  | _ => exact hs

theorem WorkAtStore.countersOk {s t : State} (h : WorkAtStore s t) (hs : s.countersOk) : t.countersOk :=
  h.work.countersOk hs

/-- A change to the unit that follows the film. -/
theorem countersOk_pcu {s : State} {p : Pcu} (hs : s.countersOk) (hslips : p.slips ≤ 65535) (hbreaks : p.breaks ≤ 65535) :
    State.countersOk { s with pcu := p } := by
  obtain ⟨-, -, hrest⟩ := hs
  exact ⟨hslips, hbreaks, hrest⟩

theorem countersOk_requester {s : State} {r : Requester} (hs : s.countersOk)
    (hr : r.received ≤ 65535 ∧ r.inserted ≤ 65535 ∧ r.replaced ≤ 65535 ∧ r.keptLocal ≤ 65535 ∧ r.refused ≤ 65535) :
    State.countersOk { s with requester := r } := by
  obtain ⟨h1, h2, h3, h4, h5, h6, h7, h8, h9, -, -, -, -, -, hrest⟩ := hs
  obtain ⟨r1, r2, r3, r4, r5⟩ := hr
  exact ⟨h1, h2, h3, h4, h5, h6, h7, h8, h9, r1, r2, r3, r4, r5, hrest⟩

theorem abortPunch_countersOk {s : State} (hs : s.countersOk) : (abortPunch s).countersOk :=
  countersOk_congr (by simp [State.counts]) (by simp) hs

theorem cadenceCheck_countersOk {s : State} (hs : s.countersOk) : (cadenceCheck s).countersOk := by
  obtain ⟨h1, h2, -⟩ := id hs
  unfold cadenceCheck
  dsimp only
  split
  · exact hs
  · split
    · exact hs
    · exact countersOk_congr (raise_counts _ _) (by simp) (countersOk_pcu hs h1 (satInc_le _))
  · split
    · exact hs
    · split
      · exact hs
      · exact hs

theorem slip_countersOk {s : State} (hs : s.countersOk) : (slip s).countersOk := by
  obtain ⟨-, h2, -⟩ := id hs
  exact countersOk_congr (raise_counts _ _) (by simp) (countersOk_pcu hs (satInc_le _) h2)

theorem followPosition_countersOk (v : SpeedClass) (p : Option (BitVec 2)) {s : State} (hs : s.countersOk) :
    (followPosition v p s).countersOk :=
  countersOk_congr (by simp [State.counts]) (by simp) hs

theorem moveGate_countersOk {s : State} (hs : s.countersOk) : (moveGate s).countersOk := by
  unfold moveGate
  dsimp only
  split
  · exact hs
  · split
    · unfold applyHeld
      refine followPosition_countersOk _ _ ?_
      dsimp only
      split
      · exact hs
      · exact slip_countersOk (s := { s with pcu := _ }) hs
    · exact hs

theorem framePulse_countersOk (d : Bool) {s : State} (hs : s.countersOk) : (framePulse d s).countersOk := by
  unfold framePulse
  refine (WorkAtStore.trigger _).countersOk (moveGate_countersOk ?_)
  refine cadenceCheck_countersOk ?_
  cases d
  · exact abortPunch_countersOk (s := { s with pcu := _ }) hs
  · exact hs

theorem handPosition_countersOk (m : Message) {s : State} (hs : s.countersOk) : (handPosition m s).countersOk := by
  have hign : (ignore s).countersOk := (WorkAtStore.ignore s).countersOk hs
  unfold handPosition
  split
  · split
    · exact hign
    · unfold takePosition
      dsimp only
      split
      · exact hs
      · unfold reconcile
        refine (WorkAtStore.triggerIf _ _).countersOk (followPosition_countersOk _ _ ?_)
        exact iteInduction (motive := State.countersOk) (fun _ => hs)
          (fun _ => slip_countersOk (s := { s with pcu := _ }) hs)
  · exact hign

/-! ### The line's counters -/

theorem receiveError_countersOk (k : LineErrorKind) (cs : List Byte) {s : State} (hs : s.countersOk) :
    (receiveError k cs s).countersOk := by
  unfold receiveError
  refine countersOk_congr (raise_counts _ _) (by simp) ?_
  obtain ⟨h1, h2, h3, -, hrest⟩ := hs
  exact ⟨h1, h2, h3, satInc_le _, hrest⟩

theorem applyFilter_counts (d : Byte) (s : State) : (applyFilter d s).counts = s.counts := by
  unfold applyFilter
  split <;> rfl

theorem route_countersOk (m : Message) {s : State} (hs : s.countersOk) : (route m s).countersOk := by
  unfold route
  split
  · exact hs
  · split
    · exact hs
    · refine countersOk_congr (raise_counts _ _) (by simp) ?_
      obtain ⟨h1, h2, h3, h4, -, hrest⟩ := hs
      exact ⟨h1, h2, h3, h4, satInc_le _, hrest⟩

theorem applyOutcome_countersOk (x : RxChar) (o : RxOutcome) {s : State} (hs : s.countersOk) :
    (applyOutcome x o s).countersOk := by
  have hfilter {u : State} (hu : u.countersOk) : (applyFilter x.data u).countersOk :=
    countersOk_congr (applyFilter_counts _ _) (by rw [(LineWork.applyFilter _ _).rest]) hu
  unfold applyOutcome
  split
  · exact hs
  · exact hfilter hs
  · exact hfilter (receiveError_countersOk _ _ hs)
  · exact receiveError_countersOk _ _ hs
  · exact hs
  · exact hs
  · exact route_countersOk _ (s := { s with cue := _ }) hs

/-! ### The field start -/

theorem openField_countersOk {s : State} (hs : s.countersOk) : (openField s).countersOk := by
  have hswap : (swapBank (countField s)).countersOk := countersOk_congr (by simp [State.counts]) (by simp) hs
  unfold openField checkLate
  split
  · refine countersOk_congr (raise_counts _ _) (by simp) ?_
    obtain ⟨h1, h2, -, hrest⟩ := hswap
    exact ⟨h1, h2, satInc_le _, hrest⟩
  · exact hswap

theorem closeClip_countersOk {s : State} (hs : s.countersOk) : (closeClip s).countersOk := by
  obtain ⟨h1, h2, h3, h4, h5, h6, h7, h8, h9, h10, h11, h12, h13, h14, hclip, -, hindex⟩ := hs
  exact ⟨h1, h2, h3, h4, h5, h6, h7, h8, h9, h10, h11, h12, h13, h14, Nat.zero_le _, hclip, hindex⟩

theorem beforeScrub_countersOk {s : State} (hs : s.countersOk) : (beforeScrub s).countersOk := by
  have hclosed : (closeClip (enterScene (countHoldback (openField s)))).countersOk :=
    closeClip_countersOk (countersOk_congr (by simp [State.counts]) (by simp) (openField_countersOk hs))
  refine countersOk_congr (s := closeClip (enterScene (countHoldback (openField s)))) ?_ ?_ hclosed
  · simp [beforeScrub, State.counts]
  · simp [beforeScrub]

/-! ### The counts of a fetch -/

theorem startFetch_countersOk (p : Byte) (a b : Nat) {s : State} (hs : s.countersOk) : (startFetch p a b s).countersOk :=
  (WorkAtStore.handShared _ _).countersOk (countersOk_requester hs (by simp))

theorem autoFetch_countersOk {s : State} (hs : s.countersOk) : (autoFetch s).countersOk := by
  unfold autoFetch
  split
  · exact hs
  · split
    · exact startFetch_countersOk _ _ _ hs
    · exact hs

theorem partnerMismatch_countersOk (p : Byte) {s : State} (hs : s.countersOk) : (partnerMismatch p s).countersOk := by
  have hraised : (raise .partnerMismatch s).countersOk := countersOk_congr (raise_counts _ _) (by simp) hs
  unfold partnerMismatch
  dsimp only
  split
  · exact startFetch_countersOk _ _ _ hraised
  · exact hraised

theorem endFetch_countersOk (r : FetchResult) {s : State} (hs : s.countersOk) : (endFetch r s).countersOk :=
  countersOk_congr (raise_counts _ _) (by simp) (s := { s with requester := _ }) hs

theorem countMerge_countersOk (tag : BitVec 8) (o : MergeOutcome) {s : State} (hs : s.countersOk) :
    (countMerge tag o s).countersOk := by
  obtain ⟨-, -, -, -, -, -, -, -, -, h10, h11, h12, h13, h14, -⟩ := id hs
  unfold countMerge
  split
  · cases o
    · exact countersOk_requester hs ⟨h10, satInc_le _, h12, h13, h14⟩
    · exact countersOk_requester hs ⟨h10, h11, satInc_le _, h13, h14⟩
    · exact countersOk_requester hs ⟨h10, h11, h12, satInc_le _, h14⟩
    · exact countersOk_requester hs ⟨h10, h11, h12, h13, satInc_le _⟩
  · exact hs

theorem Requester.lineReset_eq (r : Requester) :
    r.lineReset = { r with
      fetching := false, gapTimer := r.gapTimer && !r.fetching,
      result := if r.fetching then .aborted else r.result } := by
  unfold Requester.lineReset
  cases h : r.fetching <;> simp
  cases r
  simp_all

theorem lineReset_countersOk {s : State} (hs : s.countersOk) : (lineReset s).countersOk := by
  obtain ⟨-, -, -, -, -, -, -, -, -, h10, h11, h12, h13, h14, -, -, hindex⟩ := hs
  have h0 := Nat.zero_le 65535
  unfold lineReset
  rw [Requester.lineReset_eq]
  exact ⟨h0, h0, h0, h0, h0, h0, h0, h0, h0, h10, h11, h12, h13, h14, h0, h0, hindex⟩

theorem Acts.countersOk {s t : State} {c : Instr} (hs : s.countersOk) (ha : Acts s c t) : t.countersOk := by
  cases hw : worksAtStore c
  case true => exact (ha.workAtStore hw).countersOk hs
  cases ha
  case powerOnReset =>
    obtain ⟨-, -, -, -, -, -, -, h, -⟩ := sound_powerOnReset s.pending
    exact h
  case bootReadEnd =>
    rw [takeConfig_frame]
    exact (WorkAtStore.trigger _).countersOk hs
  case joiningQuietExpiry => exact autoFetch_countersOk hs
  case frmPulse d _ => exact framePulse_countersOk d hs
  case loadingField => exact closeClip_countersOk (s := countField s) hs
  case upField chk _ _ => exact (WorkAtStore.scrub chk _).countersOk (beforeScrub_countersOk hs)
  case refLossExpiry =>
    exact abortPunch_countersOk (countersOk_congr (s := { s with pcu := _ }) (raise_counts _ _) (by simp) hs)
  case pixel =>
    obtain ⟨h1, h2, h3, h4, h5, h6, h7, h8, h9, h10, h11, h12, h13, h14, -, hclip, -⟩ := hs
    exact ⟨h1, h2, h3, h4, h5, h6, h7, h8, h9, h10, h11, h12, h13, h14, Nat.min_le_right _ _, hclip,
      Nat.min_le_right _ _⟩
  case character x _ _ _ => exact applyOutcome_countersOk x _ hs
  case gapExpiry => exact receiveError_countersOk _ _ hs
  case position m _ _ => exact handPosition_countersOk m hs
  case queryAnswered m a _ _ => exact (WorkAtStore.answerQuery m a s).countersOk hs
  case mhTake m _ _ _ _ => exact (WorkAtStore.applyVerdict m _ _).countersOk hs
  case queryPunchJoins m u _ ht =>
    have hu : u.countersOk := by rw [ht]; exact (WorkAtStore.sendReply _ _ _ s).countersOk hs
    exact hu
  case queryPunchDropped => exact (WorkAtStore.sendReply _ _ _ s).countersOk hs
  case clear m _ => exact (WorkAtStore.endPlain m _ _ _).countersOk hs
  case setModeRefused m _ => exact (WorkAtStore.endPlain m _ _ _).countersOk hs
  case setMode m _ _ =>
    refine (WorkAtStore.endPlain m _ _ _).countersOk ?_
    exact countersOk_congr (by rw [writeSettings_eq]; simp [State.counts, writeMode]) (by rw [writeSettings_eq]) hs
  case resetSoft m _ =>
    exact ((WorkAtStore.trigger _).trans (.endPlain m _ _ _)).countersOk (lineReset_countersOk hs)
  case resetList m _ =>
    exact ((WorkAtStore.releaseSignal true _).trans (.endPlain m _ _ _)).countersOk (lineReset_countersOk hs)
  case punchArmRefused m _ _ => exact (WorkAtStore.endPlain m _ _ _).countersOk hs
  case punchArm m _ _ => exact (WorkAtStore.endPlain m _ _ _).countersOk hs
  case punchAbort m _ =>
    refine (WorkAtStore.endPlain m _ _ _).countersOk ?_
    rw [cancelPunch_frame]
    exact countersOk_congr (by simp [State.counts]) (by simp) hs
  case partnerAgrees => exact ((WorkAtStore.examineStore _ _ s).trans (.releaseSignal _ _)).countersOk hs
  case partnerDiffers =>
    exact partnerMismatch_countersOk _ (((WorkAtStore.examineStore _ _ s).trans (.releaseSignal _ _)).countersOk hs)
  case fetchRefused m _ _ => exact (WorkAtStore.endPlain m _ _ _).countersOk hs
  case fetchFrom m _ _ => exact (WorkAtStore.endPlain m _ _ _).countersOk (startFetch_countersOk _ _ _ hs)
  case listQueryIgnored => exact (WorkAtStore.ignore s).countersOk hs
  case listQueryBusy => exact (WorkAtStore.handShared _ s).countersOk hs
  case listQuery => exact (WorkAtStore.pokeResponder _).countersOk hs
  case responderFinishes chk c _ _ _ =>
    exact (((WorkAtStore.streamStep chk c (dropPlace s)).trans (.releaseSignal _ _)).trans
      (.pokeResponder _)).countersOk hs
  case responderStreams chk _ _ _ _ =>
    refine ((WorkAtStore.releaseSignal _ _).trans (.pokeResponder _)).countersOk ?_
    rw [advanceStream_frame]
    exact (WorkAtStore.streamStep chk _ (dropPlace s)).countersOk hs
  case responderEnds => exact (WorkAtStore.release (dropPlace s)).countersOk hs
  case responderNoRoom => exact ((WorkAtStore.release (dropPlace s)).trans (.pokeResponder _)).countersOk hs
  case listRec =>
    obtain ⟨-, -, -, -, -, -, -, -, -, h10, h11, h12, h13, h14, -⟩ := id hs
    refine (WorkAtStore.request _ _).countersOk ?_
    exact countersOk_requester (s := { s with handler.state := _ })
      (r := { s.requester with gapTimer := true, received := _, expected := _ }) hs ⟨satInc_le _, h11, h12, h13, h14⟩
  case listRecOutOfSequence => exact endFetch_countersOk _ (s := { s with requester := _ }) hs
  case unexpected => exact (WorkAtStore.raise .unexpectedReply s).countersOk hs
  case merge chk m tag _ _ =>
    exact ((WorkAtStore.releaseSignal _ _).trans (.handlerIdle _)).countersOk
      (countMerge_countersOk _ _ ((WorkAtStore.mergeRecord chk _ s).countersOk hs))
  case listEnd => exact endFetch_countersOk _ hs
  case gapTimerExpiry => exact endFetch_countersOk _ hs
  case resolutionRead chk l _ _ =>
    exact (WorkAtStore.release _).countersOk
      (((WorkAtStore.examineStore _ chk s).trans (.readGrade chk l _)).countersOk hs)
  case fillingComplete => exact (WorkAtStore.triggerIf _ _).countersOk hs
  case attemptStart => exact (WorkAtStore.pokeResponder _).countersOk hs
  case collisionAbandons =>
    exact ((StoreWork.abandon { s with cue.tx := .empty, cue.rx := disown s.cue.rx }).trans
      (.raise .txAbandon _)).countersOk hs
  case unknownKind | sceneSet | gradeSet | sceneMove | sceneDelete | rangeTrimRefused | rangeTrimBegins | trimAsks
    | trimStep | listClear | queryScene => cases hw
  all_goals exact hs

end Sys2Proof.Machine
end

section
/-! PROOF. The countdowns and the fetch status record (R65, R141 to R146, R164, R178). -/

namespace Sys2Proof.Machine

/-! ### The countdowns -/

/-- The three countdowns. -/
def State.countdowns (s : State) : Nat × Nat × Nat :=
  (s.resolver.countdown, s.gate.tallyCountdown, s.events.statusCountdown)

theorem countdownsOk_congr {s t : State} (h : t.countdowns = s.countdowns) (hs : s.countdownsOk) : t.countdownsOk := by
  simp only [State.countdowns, Prod.mk.injEq] at h
  obtain ⟨h1, h2, h3⟩ := h
  unfold State.countdownsOk
  rw [h1, h2, h3]
  exact hs

theorem WorkAtStore.countdowns {s t : State} (h : WorkAtStore s t) : t.countdowns = s.countdowns := by
  unfold State.countdowns; rw [h.resolver, h.gate, h.events]

theorem abortedGate_tallyCountdown (s : State) : s.abortedGate.tallyCountdown = s.gate.tallyCountdown := rfl

theorem FilmWork.countdowns {s t : State} (h : FilmWork s t) : t.countdowns = s.countdowns := by
  unfold State.countdowns
  rw [h.resolver, h.events]
  obtain hg | hg := h.gate <;> rw [hg]
  rw [abortedGate_tallyCountdown]

theorem LineWork.countdowns {s t : State} (h : LineWork s t) : t.countdowns = s.countdowns := by
  unfold State.countdowns; rw [h.rest]

@[simp] theorem endPlain_events_statusCountdown (m : Message) (r : ReplyResult) (b : ReplyBody) (s : State) :
    (endPlain m r b s).events.statusCountdown = s.events.statusCountdown := by
  rw [(WorkAtStore.endPlain m r b s).events]

theorem cancelPunch_countdowns (s : State) : (cancelPunch s).countdowns = s.countdowns := by
  unfold cancelPunch
  split
  · rfl
  · exact (FilmWork.abortPunch s).countdowns
  all_goals rfl

/-- A full status interval is at most 4,080 fields (R178). -/
theorem full_interval_le {c : Config} (hc : c.ok) : 16 * c.statusInterval ≤ 4080 := by
  have := hc.2.2.2.1; omega

theorem countStatus_le {s : State} (hc : s.config.ok) (hs : s.events.statusCountdown ≤ 4080) :
    (countStatus s).events.statusCountdown ≤ 4080 := by
  unfold countStatus
  split
  · split
    · simpa [sendStatus] using full_interval_le hc
    · exact Nat.le_trans (Nat.sub_le _ _) hs
  · exact hs

theorem updateTally_le (b : Bool) {s : State} (hc : s.config.ok) (hs : s.gate.tallyCountdown ≤ 15) :
    (updateTally b s).gate.tallyCountdown ≤ 15 := by
  unfold updateTally
  split
  · exact hs
  · dsimp only
    split
    · exact hc.2.2.2.2.2.2
    · omega
  · split
    · exact hs
    · exact hs

theorem countHoldback_le {s : State} (hs : s.resolver.countdown ≤ 7) : (countHoldback s).resolver.countdown ≤ 7 := by
  unfold countHoldback
  split
  · exact hs
  · split
    · simp
    · exact Nat.le_trans (Nat.sub_le _ _) hs

theorem enterScene_le {s : State} (hc : s.config.ok) (hs : s.resolver.countdown ≤ 7) :
    (enterScene s).resolver.countdown ≤ 7 := by
  unfold enterScene
  split
  · dsimp only
    split
    · simpa using hs
    · exact hc.2.2.2.2.1
  · exact hs

theorem beforeScrub_countdownsOk {s : State} (hc : s.config.ok) (hs : s.countdownsOk) : (beforeScrub s).countdownsOk := by
  obtain ⟨hhold, htally, hstatus⟩ := hs
  have hc' : (countHoldback (openField s)).config.ok := by simpa [openField] using hc
  have hres : (beforeScrub s).resolver = (enterScene (countHoldback (openField s))).resolver := by simp [beforeScrub]
  have hgate : (beforeScrub s).gate.tallyCountdown
      = (updateTally (openField s).entersScene
          (closeClip (enterScene (countHoldback (openField s))))).gate.tallyCountdown := by
    simp [beforeScrub]
  refine ⟨?_, ?_, ?_⟩
  · rw [hres]
    exact enterScene_le hc' (countHoldback_le (by simpa [openField] using hhold))
  · rw [hgate]
    exact updateTally_le _ (by simpa [openField] using hc) (by simpa [openField] using htally)
  · rw [beforeScrub_eq]
    exact countStatus_le (by simpa [beforePunch, openField] using hc) (by simpa [beforePunch, openField] using hstatus)

theorem lineReset_countdownsOk {s : State} (hc : s.config.ok) (hs : s.countdownsOk) : (lineReset s).countdownsOk := by
  refine ⟨Nat.zero_le _, Nat.zero_le _, ?_⟩
  unfold lineReset Events.lineReset
  dsimp only
  split
  · exact full_interval_le hc
  · exact hs.2.2

theorem Acts.countdownsOk {s t : State} {c : Instr} (hc : s.config.ok) (hs : s.countdownsOk) (ha : Acts s c t) :
    t.countdownsOk := by
  cases hw : worksAtStore c
  case true => exact countdownsOk_congr (ha.workAtStore hw).countdowns hs
  cases ha
  case powerOnReset => exact ⟨Nat.zero_le _, Nat.zero_le _, Nat.zero_le _⟩
  case bootReadEnd image _ =>
    have hconfig := takeConfig_ok image s
    rw [takeConfig_frame]
    refine countdownsOk_congr (WorkAtStore.trigger _).countdowns ⟨hs.1, hs.2.1, ?_⟩
    dsimp only
    split
    · exact full_interval_le hconfig
    · exact hs.2.2
  case joiningQuietExpiry => rw [autoFetch_frame]; exact hs
  case frmPulse d _ => exact countdownsOk_congr (FilmWork.framePulse d s).countdowns hs
  case upField chk _ _ =>
    exact countdownsOk_congr (WorkAtStore.scrub chk _).countdowns (beforeScrub_countdownsOk hc hs)
  case refLossExpiry =>
    exact countdownsOk_congr (((FilmWork.ofPcu s _).trans (.raise .refLoss _)).trans (.abortPunch _)).countdowns hs
  case character x _ _ _ => exact countdownsOk_congr (LineWork.applyOutcome x _ _).countdowns hs
  case gapExpiry => exact countdownsOk_congr (LineWork.receiveError _ _ _).countdowns hs
  case position m _ _ => exact countdownsOk_congr (FilmWork.handPosition m _).countdowns hs
  case mhTake m _ _ _ _ => exact countdownsOk_congr (WorkAtStore.applyVerdict m _ _).countdowns hs
  case queryAnswered m a _ _ => exact countdownsOk_congr (WorkAtStore.answerQuery m a s).countdowns hs
  case queryPunchJoins ht => subst ht; exact countdownsOk_congr (by simp [State.countdowns]) hs
  case setMode m mode _ =>
    refine countdownsOk_congr (WorkAtStore.endPlain m _ _ _).countdowns ?_
    rw [writeSettings_eq]
    refine ⟨?_, hs.2.1, ?_⟩
    · simpa [writeMode] using hs.1
    · dsimp only
      split
      · exact full_interval_le hc
      · exact hs.2.2
  case resetSoft m _ =>
    exact countdownsOk_congr ((WorkAtStore.trigger _).trans (.endPlain m _ _ _)).countdowns (lineReset_countdownsOk hc hs)
  case resetList m _ =>
    exact countdownsOk_congr ((WorkAtStore.releaseSignal true _).trans (.endPlain m _ _ _)).countdowns
      (lineReset_countdownsOk hc hs)
  case punchAbort m _ =>
    refine countdownsOk_congr (WorkAtStore.endPlain m _ _ _).countdowns ?_
    exact countdownsOk_congr (cancelPunch_countdowns s) hs
  case partnerDiffers =>
    refine countdownsOk_congr ?_ hs
    rw [partnerMismatch_frame]
    simp [State.countdowns]
  case merge =>
    refine countdownsOk_congr ?_ hs
    rw [countMerge_frame]
    simp [State.countdowns]
  case responderStreams =>
    refine countdownsOk_congr ?_ hs
    rw [advanceStream_frame]
    simp [State.countdowns, dropPlace]
  case unknownKind | sceneSet | gradeSet | sceneMove | sceneDelete | rangeTrimRefused | rangeTrimBegins | trimAsks
    | trimStep | listClear | queryScene => cases hw
  all_goals refine countdownsOk_congr ?_ hs
  all_goals simp [State.countdowns, Machine.loadingField, Machine.unexpected, pixelTaken, dropPlace, resolve]

/-! ### The fetch status record (R141 to R146) -/

/-- The tag of a record in merge, none unless a merge is in progress. -/
def State.merging (s : State) : Option (BitVec 8) := s.handler.state.mergeTag

theorem fetchOk_congr {s t : State} (hpart : t.part = s.part) (hreq : t.requester = s.requester)
    (hm : t.merging = s.merging) (hs : s.fetchOk) : t.fetchOk := by
  unfold State.merging at hm
  unfold State.fetchOk
  rw [hpart, hreq, hm]
  exact hs

/-- What a fetch has counted, where nothing is in merge: all that it received, unless the count has stopped. -/
def Requester.settled (r : Requester) : Prop :=
  r.received = 65535 ∨ r.inserted + r.replaced + r.keptLocal + r.refused = r.received

theorem fetchOk_of_settled {s : State} (hm : s.merging = none) (h : s.requester.settled) : s.fetchOk := by
  unfold State.merging at hm
  unfold State.fetchOk
  rw [hm]
  exact ⟨by simpa [Requester.settled] using h, by simp⟩

theorem fetchOk_settled {s : State} (hm : s.merging = none) (h : s.fetchOk) : s.requester.settled := by
  unfold State.merging at hm
  have hsum := h.1
  rw [hm] at hsum
  simpa [Requester.settled] using hsum

/-- The message in hand is at no merge. -/
theorem merging_of_inHand {k : MsgKind} {s : State} {m : Message} (h : inHand k s = some m) : s.merging = none := by
  rw [State.merging, (inHand_eq_some_iff.1 h).1]; rfl

theorem merging_of_atStore {k : MsgKind} {s : State} {m : Message} (h : atStore k s = some m) : s.merging = none := by
  rw [State.merging, (atStore_eq_some_iff.1 h).2.1]; rfl

theorem merging_of_walk {s : State} {m : Message} {w : Walk} (h : s.handler.state = .executing m (.walk w)) :
    s.merging = none := by
  rw [State.merging, h]; rfl

@[simp] theorem handlerIdle_merging (s : State) : (handlerIdle s).merging = none := rfl
@[simp] theorem endPlain_merging (m : Message) (r : ReplyResult) (b : ReplyBody) (s : State) :
    (endPlain m r b s).merging = none := rfl
@[simp] theorem endEdit_merging (m : Message) (e : EditEnd) : (endEdit m e).merging = none := rfl
@[simp] theorem endWalk_merging (m : Message) (r : ReplyResult) (n : Nat) (b : Bool) (s : State) :
    (endWalk m r n b s).merging = none := rfl

theorem trimStep_merging (chk : Checks) (m : Message) (w : Walk) (s : State) :
    (trimStep chk m w s).merging = none := by
  unfold trimStep
  dsimp only
  split
  · rfl
  · split
    · rfl
    · split
      · rfl
      · simp [State.merging, HandlerState.mergeTag]

/-- Where nothing is in merge before and after, and the fetch status record stands. -/
theorem fetchOk_aside {s t : State} (hm : s.merging = none) (hm' : t.merging = none) (hreq : t.requester = s.requester)
    (hs : s.fetchOk) : t.fetchOk :=
  fetchOk_of_settled hm' (by rw [hreq]; exact fetchOk_settled hm hs)

theorem applyVerdict_merging (m : Message) (v : Verdict) {s : State} (h : s.merging = none) :
    (applyVerdict m v s).merging = none := by
  cases v
  case ignored => exact h
  case atOnce => rfl
  case store => simp [applyVerdict, State.merging, HandlerState.mergeTag]
  case refused => rfl

/-- What work at the store does to the message in hand: it goes on, or ends, and starts no merge. -/
theorem Acts.merging {s t : State} {c : Instr} (ha : Acts s c t) (hw : worksAtStore c = true) :
    t.merging = s.merging ∨ (s.merging = none ∧ t.merging = none) := by
  have hother := not_other_of_worksAtStore hw
  cases ha
  case nothing => exact .inl rfl
  case unknownKind m h => exact .inr ⟨by rw [State.merging, h]; rfl, rfl⟩
  case sceneSet h | gradeSet h | sceneMove h | sceneDelete h | rangeTrimRefused h | rangeTrimBegins h | listClear h
    | queryScene h => exact .inr ⟨merging_of_atStore h, rfl⟩
  case trimAsks h => left; rw [State.merging, askForStep_handler]; rfl
  case trimStep chk m w h _ =>
    exact .inr ⟨merging_of_walk h, trimStep_merging chk m w _⟩
  case queryAnswered h _ => exact .inr ⟨merging_of_inHand h, rfl⟩
  case loadingField | upField | characterPassed | character | unexpected => simp_all
  all_goals cases hw

theorem startFetch_requester (p : Byte) (a b : Nat) (s : State) :
    (startFetch p a b s).requester = ⟨true, .noResult, some p, s.requester.tag + 1, a, b, 0, 0, 0, 0, 0, 0, true⟩ := by
  simp [startFetch]

theorem startFetch_settled (p : Byte) (a b : Nat) (s : State) : (startFetch p a b s).requester.settled := by
  rw [startFetch_requester]; exact .inr rfl

/-- The entry to RUNNING may start a fetch while a record of the one before is in merge. -/
theorem joiningQuietExpiry_fetchOk {s t : State} (hs : s.fetchOk) (hpart : s.part = .joining) (hrun : t.part = .running)
    (hreq : t.requester = s.requester) (hm : t.merging = s.merging) : (autoFetch t).fetchOk := by
  have hsame : t.fetchOk := by
    unfold State.merging at hm
    unfold State.fetchOk
    rw [hreq, hm, hrun]
    exact ⟨hs.1, fun tag ht => (hs.2 tag ht).imp_right fun h => absurd (hpart.symm.trans h.1) (by decide)⟩
  unfold autoFetch
  split
  · exact hsame
  · next p _ =>
    split
    · have hmerging : (startFetch p 0 maxFrame t).handler.state.mergeTag = s.handler.state.mergeTag := by
        rw [startFetch_handler]; exact hm
      unfold State.fetchOk
      rw [startFetch_requester, hmerging, startFetch_part, hreq]
      have htag {tag : BitVec 8} (ht : tag ∈ s.handler.state.mergeTag) : tag = s.requester.tag :=
        (hs.2 tag ht).resolve_right fun h => absurd (hpart.symm.trans h.1) (by decide)
      refine ⟨.inr ?_, fun tag ht => .inr ⟨hrun, by rw [htag ht]⟩⟩
      have hne : ¬s.handler.state.mergeTag = some (s.requester.tag + 1) := fun h => by
        have hself := htag (Option.mem_def.2 h)
        simp at hself
      rw [if_neg hne]
      rfl
    · exact hsame

/-- The merge of a record counts it once, in the fetch it came with (R142). -/
theorem countMerge_settled {tag : BitVec 8} (o : MergeOutcome) {s : State} (hm : s.merging = some tag)
    (hle : s.requester.received ≤ 65535) (hs : s.fetchOk) : (countMerge tag o s).requester.settled := by
  unfold State.merging at hm
  obtain ⟨hsum, -⟩ := hs
  rw [hm] at hsum
  unfold countMerge
  split
  · next htag =>
    rw [if_pos (by rw [htag])] at hsum
    unfold Requester.settled
    cases o <;> simp only [satInc_eq_min] <;> omega
  · next htag =>
    rw [if_neg (by simpa using Ne.symm htag)] at hsum
    exact hsum

/-- A record received goes to its merge, which is then the one not yet counted (R141). -/
theorem receive_counts {received sum : Nat} {tag : BitVec 8} (h : received = 65535 ∨ sum = received) :
    satInc received = 65535 ∨ sum + (if some tag = some tag then 1 else 0) = satInc received := by
  rw [if_pos rfl, satInc_eq_min]
  omega

theorem lineReset_settled {s : State} (h : s.requester.settled) : (lineReset s).requester.settled := by
  change s.requester.lineReset.settled
  rw [Requester.lineReset_eq]
  exact h

theorem Acts.fetchOk {s t : State} {c : Instr} (hq : s.quietOk) (hcount : s.countersOk) (hs : s.fetchOk)
    (ha : Acts s c t) : t.fetchOk := by
  cases hw : worksAtStore c
  case true =>
    have hwork := ha.workAtStore hw
    obtain h | ⟨h, h'⟩ := ha.merging hw
    · exact fetchOk_congr hwork.part hwork.requester h hs
    · exact fetchOk_aside h h' hwork.requester hs
  have hquiet (hpart : s.part = .reset ∨ s.part = .loading) : s.merging = none := by
    obtain ⟨-, -, -, -, -, -, -, hidle, -⟩ := hq (not_up_of_part hpart)
    rw [State.merging, hidle]; rfl
  cases ha
  case powerOnReset => exact fetchOk_of_settled rfl (.inr rfl)
  case leaveReset h => exact fetchOk_aside (hquiet (.inl h)) (hquiet (.inl h)) rfl hs
  case bootReadEnd h =>
    have hm := hquiet (.inr h)
    refine fetchOk_aside hm ?_ ?_ hs
    · rw [enterJoining_frame, takeConfig_frame]; exact hm
    · rw [enterJoining_frame, takeConfig_frame]
  case joiningQuietExpiry h => exact joiningQuietExpiry_fetchOk hs h rfl rfl rfl
  case frmPulse d _ =>
    have h := FilmWork.framePulse d s
    exact fetchOk_congr h.part h.requester (by rw [State.merging, h.handler]; rfl) hs
  case upField chk _ _ =>
    have h := WorkAtStore.scrub chk (beforeScrub s)
    rw [upField_eq]
    refine fetchOk_congr ?_ ?_ ?_ hs
    · rw [h.part]; simp [beforeScrub, openField]
    · rw [h.requester]; simp [beforeScrub, openField]
    · simp [State.merging, beforeScrub, openField]
  case refLossExpiry => exact fetchOk_congr (by simp) (by simp) (by simp [State.merging]) hs
  case character x _ _ _ =>
    have h := LineWork.applyOutcome x (rxOutcome s.cue.rx x) (restartIdle s)
    exact fetchOk_congr (by rw [h.rest]; rfl) (by rw [h.rest]; rfl) (by rw [h.rest]; rfl) hs
  case gapExpiry =>
    have h := LineWork.receiveError .gap
    exact fetchOk_congr (by rw [(h _ _).rest]) (by rw [(h _ _).rest]) (by rw [(h _ _).rest]; rfl) hs
  case position m rest _ =>
    have h := FilmWork.handPosition m { s with cue.handover := rest }
    exact fetchOk_congr h.part h.requester (by rw [State.merging, h.handler]; rfl) hs
  case mhTake m rest hidle _ _ =>
    have hm : s.merging = none := by rw [State.merging, hidle]; rfl
    exact fetchOk_aside hm (applyVerdict_merging m _ hm) (WorkAtStore.applyVerdict m _ _).requester hs
  case queryAnswered m a h _ =>
    exact fetchOk_aside (merging_of_inHand h) rfl (WorkAtStore.answerQuery m a s).requester hs
  case queryPunchJoins h ht => subst ht; exact fetchOk_aside (merging_of_inHand h) rfl (by simp) hs
  case queryPunchDropped h | clear h | setModeRefused h | punchArmRefused h | fetchRefused h | listQueryBusy h =>
    exact fetchOk_aside (merging_of_inHand h) rfl (by simp) hs
  case punchArm h _ => exact fetchOk_aside (merging_of_inHand h) rfl (by simp) hs
  case listQueryIgnored h => exact fetchOk_aside (merging_of_inHand h) rfl rfl hs
  case listQuery h _ => exact fetchOk_aside (merging_of_inHand h) rfl (by simp) hs
  case setMode h => exact fetchOk_aside (merging_of_inHand h) rfl (by rw [endPlain_requester, writeSettings_eq]) hs
  case punchAbort h => exact fetchOk_aside (merging_of_inHand h) rfl (by rw [endPlain_requester, cancelPunch_frame]) hs
  case partnerAgrees h => exact fetchOk_aside (merging_of_atStore h) rfl (by simp) hs
  case partnerDiffers chk m f h =>
    refine fetchOk_of_settled rfl ?_
    have hsame : s.requester.settled := fetchOk_settled (merging_of_atStore h) hs
    rw [handlerIdle_requester]
    unfold partnerMismatch
    dsimp only
    split
    · exact startFetch_settled _ _ _ _
    · simpa using hsame
  case fetchFrom h _ =>
    refine fetchOk_of_settled rfl ?_
    rw [endPlain_requester]
    exact startFetch_settled _ _ _ _
  case resetSoft h =>
    have hsame := fetchOk_settled (merging_of_inHand h) hs
    exact fetchOk_of_settled rfl (by rw [endPlain_requester, trigger_requester]; exact lineReset_settled hsame)
  case resetList h =>
    have hsame := fetchOk_settled (merging_of_atStore h) hs
    exact fetchOk_of_settled rfl (by rw [endPlain_requester, releaseSignal_requester]; exact lineReset_settled hsame)
  case responderStreams chk _ _ _ _ =>
    refine fetchOk_congr ?_ ?_ ?_ hs
    · rw [advanceStream_frame]; simp [dropPlace]
    · rw [advanceStream_frame]; simp [dropPlace]
    · rw [advanceStream_frame]; simp [dropPlace, State.merging]
  case listRec m h _ =>
    have hsame := fetchOk_settled (merging_of_inHand h) hs
    refine ⟨?_, ?_⟩
    · rw [request_requester, request_handler]
      exact receive_counts hsame
    · rw [request_requester, request_handler]
      simp [HandlerState.mergeTag]
  case listRecOutOfSequence h =>
    exact fetchOk_of_settled rfl (by simpa [endFetch, Requester.settled] using fetchOk_settled (merging_of_inHand h) hs)
  case listEnd h =>
    exact fetchOk_of_settled rfl (by simpa [endFetch, Requester.settled] using fetchOk_settled (merging_of_inHand h) hs)
  case gapTimerExpiry =>
    unfold State.fetchOk at hs ⊢
    simpa [endFetch] using hs
  case unexpected h _ => exact fetchOk_aside (merging_of_inHand h) rfl (by simp [Machine.unexpected]) hs
  case merge chk m tag _ hmerge =>
    refine fetchOk_of_settled rfl ?_
    rw [handlerIdle_requester, releaseSignal_requester]
    have hwork := WorkAtStore.mergeRecord chk (recordAt m.payload 3) s
    have hm : (mergeRecord chk (recordAt m.payload 3) s).1.merging = s.merging := by simp [State.merging]
    refine countMerge_settled _ (by rw [hm, State.merging, hmerge]; rfl) ?_ (fetchOk_congr hwork.part hwork.requester hm hs)
    rw [hwork.requester]
    exact hcount.2.2.2.2.2.2.2.2.2.1
  case unknownKind | sceneSet | gradeSet | sceneMove | sceneDelete | rangeTrimRefused | rangeTrimBegins | trimAsks
    | trimStep | listClear | queryScene => cases hw
  all_goals refine fetchOk_congr (s := s) ?_ ?_ ?_ hs
  all_goals simp [State.merging, Machine.loadingField, pixelTaken, dropPlace, resolve]

/-- Settles O12, effect by effect (`Acts.countersOk`, `Acts.countdownsOk`, `Acts.fetchOk`). -/
theorem countsStayInRange : Obligations.CountsStayInRange := by
  unfold Obligations.CountsStayInRange
  intro s t hq hc hcount hdown hfetch
  exact step_gives
    (P := fun s => s.quietOk ∧ s.config.ok ∧ s.countersOk ∧ s.countdownsOk ∧ s.fetchOk)
    (Q := fun t => t.countersOk ∧ t.countdownsOk ∧ t.fetchOk) (fun _ h => h.2.2) (fun _ _ h => h)
    (fun _ _ _ ⟨hq, hc, hcount, hdown, hfetch⟩ ha =>
      ⟨ha.countersOk hcount, ha.countdownsOk hc hdown, ha.fetchOk hq hcount hfetch⟩)
    ⟨hq, hc, hcount, hdown, hfetch⟩

end Sys2Proof.Machine
end

section
/-! PROOF. The arbiter and its clients stay consistent (R41 to R43, R56 to R58, R149): the invariant in its three sides,
what a request, a release and a trigger do to each, and the effects. -/

namespace Sys2Proof.Machine

/-! ### The three sides of the invariant -/

/-- The resolver's side: who holds the store, and the one resolution in flight (R41, R43, R56 to R58). -/
structure ResolverSide (s : State) : Prop where
  free : s.arbiter.holder = none → s.arbiter.noneWaits = true
  notScrubber : s.arbiter.holder ≠ some .scrubber
  inFlight : s.resolver.inFlight =
    (s.arbiter.resolverWaits || decide (s.arbiter.holder = some .resolver) || s.pipeline.pendingBank.isFilling)
  waits : s.arbiter.resolverWaits = true →
    s.arbiter.holder ≠ some .resolver ∧ s.pipeline.pendingBank.isFilling = false
  holds : s.arbiter.holder = some .resolver → s.pipeline.pendingBank.isFilling = false
  latch : s.resolver.latch.isSome = decide (s.arbiter.holder = some .resolver)
  rerun : s.resolver.rerun = true → s.resolver.inFlight = true

/-- The handler's side, where the message in hand is as `h` says (R37, R41). -/
structure HandlerSide (h : HandlerState) (s : State) : Prop where
  uses : h.betweenSteps = false →
    h.usesStore = (s.arbiter.handlerWaits || decide (s.arbiter.holder = some .handler))
  waits : s.arbiter.handlerWaits = true → s.arbiter.holder ≠ some .handler

/-- The responder's side (R149, R152). -/
structure ResponderSide (s : State) : Prop where
  waits : s.arbiter.responderWaits = true → s.arbiter.holder ≠ some .responder ∧ s.responder.streaming = true
  holds : s.arbiter.holder = some .responder → s.responder.streaming = true ∨ s.responder.unfinished.isSome = true
  unfinished : s.responder.unfinished.isSome = true → s.arbiter.holder = some .responder
  place : s.responder.placeHeld = true → s.arbiter.holder = some .responder

theorem arbiterOk_iff (s : State) :
    s.arbiterOk ↔ ResolverSide s ∧ HandlerSide s.handler.state s ∧ ResponderSide s := by
  constructor
  · rintro ⟨h1, h2, h3, h4, h5, h6, h7, h8, h9, h10, h11, h12, h13⟩
    exact ⟨⟨h1, h2, h3, h4, h5, h6, h7⟩, ⟨h8, h9⟩, ⟨h10, h11, h12, h13⟩⟩
  · rintro ⟨⟨h1, h2, h3, h4, h5, h6, h7⟩, ⟨h8, h9⟩, ⟨h10, h11, h12, h13⟩⟩
    exact ⟨h1, h2, h3, h4, h5, h6, h7, h8, h9, h10, h11, h12, h13⟩

/-- The sides with the message in hand as `h` says. -/
structure Sides (h : HandlerState) (s : State) : Prop where
  resolver : ResolverSide s
  handler : HandlerSide h s
  responder : ResponderSide s

theorem sides_of_arbiterOk {s : State} (hs : s.arbiterOk) : Sides s.handler.state s := by
  obtain ⟨h1, h2, h3⟩ := (arbiterOk_iff s).1 hs
  exact ⟨h1, h2, h3⟩

theorem Sides.arbiterOk {h : HandlerState} {s : State} (hs : Sides h s) (hh : s.handler.state = h) : s.arbiterOk := by
  subst hh
  exact (arbiterOk_iff s).2 ⟨hs.resolver, hs.handler, hs.responder⟩

/-- The sides read the arbiter, the resolution, the pending bank and the responder alone. -/
theorem Sides.congr {h : HandlerState} {s t : State} (hs : Sides h s) (harb : t.arbiter = s.arbiter)
    (hflight : t.resolver.inFlight = s.resolver.inFlight) (hrerun : t.resolver.rerun = s.resolver.rerun)
    (hlatch : t.resolver.latch = s.resolver.latch)
    (hbank : t.pipeline.pendingBank.isFilling = s.pipeline.pendingBank.isFilling)
    (hresp : t.responder = s.responder) : Sides h t := by
  obtain ⟨⟨h1, h2, h3, h4, h5, h6, h7⟩, ⟨h8, h9⟩, ⟨h10, h11, h12, h13⟩⟩ := hs
  constructor
  · constructor <;> simp only [harb, hflight, hrerun, hlatch, hbank] <;> assumption
  · constructor <;> simp only [harb] <;> assumption
  · constructor <;> simp only [harb, hresp] <;> assumption

/-- A message that leaves the store alone, or a walk between two steps, may take the place of another such. -/
theorem Sides.rehand {h h' : HandlerState} {s : State} (hs : Sides h s) (hb : h.betweenSteps = false)
    (hu : h'.betweenSteps = true ∨ h'.usesStore = h.usesStore) : Sides h' s :=
  ⟨hs.resolver, ⟨fun hb' => (hu.resolve_left (by simp [hb'])).trans (hs.handler.uses hb), hs.handler.waits⟩, hs.responder⟩

theorem ListWork.sides {h : HandlerState} {s t : State} (hw : ListWork s t) (hs : Sides h s) : Sides h t := by
  rw [hw.frame]
  exact Sides.congr hs rfl rfl rfl rfl rfl rfl

/-! ### The request (R41) -/

theorem noneWaits_iff (a : Arbiter) :
    a.noneWaits = true ↔ a.resolverWaits = false ∧ a.handlerWaits = false ∧ a.responderWaits = false := by
  simp [Arbiter.noneWaits, and_assoc]

/-- In a sound state a request is granted exactly where the store is free. -/
theorem request_of_free {c : Client} {s : State} (hs : ResolverSide s) (h : s.arbiter.holder = none) :
    request c s = grant c s := by
  simp [request, h, hs.free h]

theorem request_of_held {c : Client} {s : State} (h : s.arbiter.holder ≠ none) :
    request c s = { s with arbiter := s.arbiter.wait c } := by
  simp [request, h]

/-- A trigger's request: the resolution is in flight from it on. -/
theorem requestResolver_sides {h : HandlerState} {s : State} (hs : Sides h s) (hfl : s.resolver.inFlight = false) :
    Sides h (request .resolver { s with resolver.inFlight := true }) := by
  obtain ⟨⟨h1, h2, h3, h4, h5, h6, h7⟩, ⟨h8, h9⟩, ⟨h10, h11, h12, h13⟩⟩ := hs
  have hidle : s.arbiter.resolverWaits = false ∧ s.arbiter.holder ≠ some .resolver
      ∧ s.pipeline.pendingBank.isFilling = false := by
    rw [hfl] at h3
    simpa [and_assoc] using h3
  cases hh : s.arbiter.holder with
  | none =>
    have hnone := h1 hh
    rw [noneWaits_iff] at hnone
    have hgrant : request .resolver { s with resolver.inFlight := true }
        = grant .resolver { s with resolver.inFlight := true } := by simp [request, hh, h1 hh]
    rw [hgrant]
    constructor <;> constructor <;> simp_all [grant]
  | some c =>
    rw [request_of_held (by simp [hh])]
    constructor <;> constructor <;> simp_all [Arbiter.wait]

theorem trigger_sides {h : HandlerState} {s : State} (hs : Sides h s) : Sides h (trigger s) := by
  unfold trigger
  split
  · split
    · next hfl =>
      obtain ⟨⟨h1, h2, h3, h4, h5, h6, h7⟩, ⟨h8, h9⟩, ⟨h10, h11, h12, h13⟩⟩ := hs
      exact ⟨⟨h1, h2, h3, h4, h5, h6, fun _ => hfl⟩, ⟨h8, h9⟩, ⟨h10, h11, h12, h13⟩⟩
    · next hfl => exact requestResolver_sides hs (by simpa using hfl)
  · exact hs

theorem triggerIf_sides {h : HandlerState} (b : Bool) {s : State} (hs : Sides h s) : Sides h (triggerIf b s) := by
  cases b
  · exact hs
  · exact trigger_sides hs

/-- The handler asks for the store with a message that is to be at it. -/
theorem requestHandler_sides {h h' : HandlerState} {s : State} (hs : Sides h s)
    (hout : s.arbiter.handlerWaits = false ∧ s.arbiter.holder ≠ some .handler)
    (hu : h'.betweenSteps = false → h'.usesStore = true) : Sides h' (request .handler s) := by
  obtain ⟨⟨h1, h2, h3, h4, h5, h6, h7⟩, ⟨h8, h9⟩, ⟨h10, h11, h12, h13⟩⟩ := hs
  cases hh : s.arbiter.holder with
  | none =>
    have hnone := h1 hh
    have hgrant : request .handler s = grant .handler s := by simp [request, hh, hnone]
    rw [noneWaits_iff] at hnone
    rw [hgrant]
    constructor <;> constructor <;> simp_all [grant]
  | some c =>
    rw [request_of_held (by simp [hh])]
    constructor <;> constructor <;> simp_all [Arbiter.wait, Arbiter.noneWaits]

theorem pokeResponder_sides {h : HandlerState} {s : State} (hs : Sides h s) : Sides h (pokeResponder s) := by
  unfold pokeResponder
  split
  · next hcond =>
    simp only [Bool.and_eq_true, bne_iff_ne, Bool.not_eq_true'] at hcond
    obtain ⟨⟨⟨hstream, hnot⟩, hwait⟩, -⟩ := hcond
    obtain ⟨⟨h1, h2, h3, h4, h5, h6, h7⟩, ⟨h8, h9⟩, ⟨h10, h11, h12, h13⟩⟩ := hs
    cases hh : s.arbiter.holder with
    | none =>
      have hnone := h1 hh
      have hgrant : request .responder s = grant .responder s := by simp [request, hh, hnone]
      rw [noneWaits_iff] at hnone
      rw [hgrant]
      constructor <;> constructor <;> simp_all [grant]
    | some c =>
      rw [request_of_held (by simp [hh])]
      constructor <;> constructor <;> simp_all [Arbiter.wait, Arbiter.noneWaits]
  · exact hs

/-! ### The release (R42) -/

/-- What the sides come to at a release: the holder's part is over, and the waiting clients are as they were. -/
structure LetsGo (h : HandlerState) (s : State) : Prop where
  inFlight : s.resolver.inFlight = (s.arbiter.resolverWaits || s.pipeline.pendingBank.isFilling)
  waits : s.arbiter.resolverWaits = true → s.pipeline.pendingBank.isFilling = false
  latch : s.resolver.latch = none
  rerun : s.resolver.rerun = true → s.resolver.inFlight = true
  uses : h.betweenSteps = false → h.usesStore = s.arbiter.handlerWaits
  streams : s.arbiter.responderWaits = true → s.responder.streaming = true
  unfinished : s.responder.unfinished = none
  place : s.responder.placeHeld = false

theorem release_sides {h : HandlerState} {s : State} (hs : LetsGo h s) : Sides h (release s) := by
  obtain ⟨h1, h2, h3, h4, h5, h6, h7, h8⟩ := hs
  unfold release
  split
  · next hr =>
    constructor <;> constructor <;> simp_all [grant]
  · next hr =>
    split
    · next hh => constructor <;> constructor <;> simp_all [grant]
    · next hh =>
      split
      · next hp => constructor <;> constructor <;> simp_all [grant]
      · next hp => constructor <;> constructor <;> simp_all [Arbiter.noneWaits]

/-- A signal at a release is a request that waits for it. -/
theorem LetsGo.trigger {h : HandlerState} {s : State} (hs : LetsGo h s) (hheld : s.arbiter.holder ≠ none) :
    LetsGo h (trigger s) := by
  obtain ⟨h1, h2, h3, h4, h5, h6, h7, h8⟩ := hs
  unfold Machine.trigger
  split
  · split
    · next hfl => exact ⟨h1, h2, h3, fun _ => hfl, h5, h6, h7, h8⟩
    · next hfl =>
      rw [request_of_held (s := { s with resolver.inFlight := true }) hheld]
      constructor <;> simp_all [Arbiter.wait]
  · exact ⟨h1, h2, h3, h4, h5, h6, h7, h8⟩

theorem releaseSignal_sides {h : HandlerState} {s : State} (b : Bool) (hs : LetsGo h s)
    (hheld : s.arbiter.holder ≠ none) : Sides h (releaseSignal b s) := by
  cases b
  · exact release_sides hs
  · exact release_sides (hs.trigger hheld)

/-- The handler lets go of the store with its message done, or between two steps of a walk. -/
theorem Sides.handlerLetsGo {h h' : HandlerState} {s : State} (hs : Sides h s)
    (hheld : s.arbiter.holder = some .handler) (hdone : h'.betweenSteps = true ∨ h'.usesStore = false) :
    LetsGo h' s := by
  obtain ⟨⟨h1, h2, h3, h4, h5, h6, h7⟩, ⟨h8, h9⟩, ⟨h10, h11, h12, h13⟩⟩ := hs
  constructor <;> simp_all
  exact fun hb => hdone.resolve_left (by simp [hb])

/-- The responder lets go of the store, its step done. -/
theorem Sides.responderLetsGo {h : HandlerState} {s t : State} (hs : Sides h s)
    (hheld : s.arbiter.holder = some .responder) (hrest : t.arbiter = s.arbiter ∧ t.resolver = s.resolver
      ∧ t.pipeline = s.pipeline) (hdrop : t.responder.unfinished = none ∧ t.responder.placeHeld = false) :
    LetsGo h t := by
  obtain ⟨⟨h1, h2, h3, h4, h5, h6, h7⟩, ⟨h8, h9⟩, ⟨h10, h11, h12, h13⟩⟩ := hs
  constructor <;> simp_all

/-! ### The message in hand -/

theorem sides_of_inHand {k : MsgKind} {s : State} {m : Message} (hs : s.arbiterOk) (h : inHand k s = some m) :
    Sides (.executing m .carry) s := by
  have hsides := sides_of_arbiterOk hs
  rwa [(inHand_eq_some_iff.1 h).1] at hsides

/-- A message carried out at once ends with the store as it was. -/
theorem idle_of_inHand {k : MsgKind} {s : State} {m : Message} (hs : s.arbiterOk) (h : inHand k s = some m) :
    Sides .idle s :=
  (sides_of_inHand hs h).rehand rfl (.inr rfl)

theorem Sides.handlerIdle {h : HandlerState} {s : State} (hs : Sides h s) : Sides h (handlerIdle s) :=
  Sides.congr hs rfl rfl rfl rfl rfl rfl

/-- A message that has let go of the store, or never was at it, is done. -/
theorem Sides.ends {s : State} (hs : Sides .idle s) : (Machine.handlerIdle s).arbiterOk := hs.handlerIdle.arbiterOk rfl

theorem sendReply_sides {h : HandlerState} (m : Message) (r : ReplyResult) (b : ReplyBody) {s : State}
    (hs : Sides h s) : Sides h (sendReply m r b s).1 :=
  hs.congr (by simp) (by simp) (by simp) (by simp) (by simp) (by simp)

theorem endPlain_arbiterOk (m : Message) (r : ReplyResult) (b : ReplyBody) {s : State} (hs : Sides .idle s) :
    (endPlain m r b s).arbiterOk := by
  unfold endPlain
  refine (sendReply_sides m r b ?_).ends
  exact iteInduction (motive := Sides .idle) (fun _ => Sides.congr hs rfl rfl rfl rfl rfl rfl) (fun _ => hs)

/-- Work on the list by the handler, and the release with its signal. -/
theorem handlerStep_sides {h h' : HandlerState} {s t : State} (hs : Sides h s) (hheld : s.arbiter.holder = some .handler)
    (hw : ListWork s t) (b : Bool) (hdone : h'.betweenSteps = true ∨ h'.usesStore = false) :
    Sides h' (releaseSignal b t) := by
  have ht := hw.sides hs
  have hheld' : t.arbiter.holder = some .handler := by rw [hw.frame]; exact hheld
  exact releaseSignal_sides b (ht.handlerLetsGo hheld' hdone) (by simp [hheld'])

theorem endEdit_arbiterOk {h : HandlerState} {s : State} (m : Message) (e : EditEnd) (hs : Sides h s)
    (hheld : s.arbiter.holder = some .handler) (hw : ListWork s e.state) : (endEdit m e).arbiterOk := by
  unfold endEdit
  refine (sendReply_sides m _ _ ?_).ends
  refine handlerStep_sides hs hheld ?_ _ (.inr rfl)
  split
  · exact hw
  · exact hw.trans (.raise _ _)

/-- An edit granted the store ends with it released. -/
theorem edit_arbiterOk {k : MsgKind} {s : State} {m : Message} (hs : s.arbiterOk) (h : atStore k s = some m)
    (e : EditEnd) (hw : ListWork s e.state) : (endEdit m e).arbiterOk :=
  endEdit_arbiterOk m e (sides_of_arbiterOk hs) (atStore_eq_some_iff.1 h).1 hw

theorem askForStep_sides {m : Message} {w : Walk} {s : State} (hs : Sides (.executing m (.walk w)) s) :
    Sides (.executing m (.walk w)) (askForStep s) := by
  unfold askForStep
  split
  · exact hs
  · next h =>
    simp only [Bool.or_eq_true, decide_eq_true_eq, not_or, Bool.not_eq_true] at h
    exact requestHandler_sides hs ⟨h.2, h.1⟩ fun _ => rfl

theorem endFetch_sides {h : HandlerState} (r : FetchResult) {s : State} (hs : Sides h s) : Sides h (endFetch r s) :=
  (ListWork.raise .fetchEnd _).sides (hs.congr rfl rfl rfl rfl rfl rfl)

theorem advanceStream_unfinished (sent : Option Nat) (s : State) :
    (advanceStream sent s).responder.unfinished = s.responder.unfinished := by cases sent <;> rfl

theorem advanceStream_placeHeld (sent : Option Nat) (s : State) :
    (advanceStream sent s).responder.placeHeld = s.responder.placeHeld := by cases sent <;> rfl

theorem ListWork.arbiter {s t : State} (h : ListWork s t) : t.arbiter = s.arbiter := by rw [h.frame]

/-- A walk lets go of the store between two of its steps (R37). -/
theorem walkGoesOn_arbiterOk {h : HandlerState} {s t : State} (m : Message) (c n : Nat) (b : Bool) (hs : Sides h s)
    (hheld : s.arbiter.holder = some .handler) (hw : ListWork s t) :
    (releaseSignal b { t with handler.state := .executing m (.walk ⟨some c, n⟩) }).arbiterOk := by
  have hheld' : t.arbiter.holder = some .handler := by rw [hw.arbiter, hheld]
  have ht : Sides h { t with handler.state := .executing m (.walk ⟨some c, n⟩) } :=
    Sides.congr (hw.sides hs) rfl rfl rfl rfl rfl rfl
  refine (releaseSignal_sides b (ht.handlerLetsGo (h' := .executing m (.walk ⟨some c, n⟩)) hheld' (.inl rfl)) (by simp [hheld'])).arbiterOk ?_
  rw [releaseSignal_handler]

theorem trimStep_arbiterOk {h : HandlerState} (chk : Checks) (m : Message) (w : Walk) {s : State} (hs : Sides h s)
    (hheld : s.arbiter.holder = some .handler) : (trimStep chk m w s).arbiterOk := by
  have hx := ListWork.examineStore (walkStop (u24 m.payload 0) w) chk s
  unfold trimStep
  dsimp only
  split
  · exact endEdit_arbiterOk m _ hs hheld (.refl s)
  · split
    · exact endEdit_arbiterOk m _ hs hheld hx
    · next e _ =>
      have hr := hx.trans (.readBody .edit chk e _)
      have ht (v : BodyView) := hr.trans (.trimRecord (deltasAt m.payload) e v _)
      split
      · exact endEdit_arbiterOk m _ hs hheld (ht _)
      · exact walkGoesOn_arbiterOk m _ _ _ hs hheld (ht _)

theorem applyVerdict_arbiterOk (m : Message) (v : Verdict) {s : State} (hs : s.arbiterOk)
    (hidle : s.handler.state = .idle) : (applyVerdict m v s).arbiterOk := by
  have hsides : Sides .idle s := by rw [← hidle]; exact sides_of_arbiterOk hs
  cases v
  case ignored => exact hs
  case atOnce =>
    exact Sides.arbiterOk (h := .executing m .carry)
      (Sides.congr (hsides.rehand rfl (.inr rfl)) rfl rfl rfl rfl rfl rfl) rfl
  case refused => exact endPlain_arbiterOk m _ _ hsides
  case store =>
    refine Sides.arbiterOk (h := .executing m .store) ?_ (by simp [applyVerdict])
    have huses := hsides.handler.uses rfl
    refine requestHandler_sides (h := .idle) (s := hold m .store s)
      (Sides.congr hsides rfl rfl rfl rfl rfl rfl) ?_ (fun _ => rfl)
    have hfree := huses.symm
    simp only [HandlerState.usesStore, Bool.or_eq_false_iff, decide_eq_false_iff_not] at hfree
    exact hfree

/-! ### The remaining blocks -/

theorem Triggers.arbiterOk {s t u : State} {b : Bool} (h : Triggers s t b u) (hs : s.arbiterOk) : t.arbiterOk := by
  rw [h.eq]
  have hhand : u.handler.state = s.handler.state := by rw [h.film.handler]
  refine Sides.arbiterOk (triggerIf_sides b ?_) (by rw [triggerIf_handler, hhand])
  exact (sides_of_arbiterOk hs).congr h.arbiter (by rw [h.resolver]) (by rw [h.resolver]) (by rw [h.resolver])
    (by rw [h.film.pipeline]) h.film.responder

theorem scrub_sides {h : HandlerState} (chk : Checks) {s : State} (hs : Sides h s) : Sides h (scrub chk s) := by
  unfold scrub
  dsimp only
  split
  · have hx := ListWork.examineStore (fun n => decide (s.store.scrubCursor ≤ n)) chk s
    split
    · exact triggerIf_sides _ ((hx.trans (.scrubRecord _ _ _)).sides hs)
    · have hy := hx.trans (.examineStore (fun _ => true) chk _)
      split
      · exact triggerIf_sides _ ((hy.trans (.scrubRecord _ _ _)).sides hs)
      · exact triggerIf_sides _ ((hy.trans (.ofStore _ _)).sides hs)
  · exact hs

theorem swapBank_isFilling (s : State) :
    (swapBank s).pipeline.pendingBank.isFilling = s.pipeline.pendingBank.isFilling := by
  unfold swapBank
  split
  · next h => rw [h]; rfl
  · rfl
  · rfl

theorem beforeScrub_sides {h : HandlerState} {s : State} (hs : Sides h s) : Sides h (beforeScrub s) := by
  refine hs.congr ?_ ?_ ?_ ?_ ?_ ?_
  case refine_5 =>
    have hbank : (beforeScrub s).pipeline.pendingBank = (swapBank (countField s)).pipeline.pendingBank := by
      simp [beforeScrub, openField]
    rw [hbank, swapBank_isFilling, countField_pipeline]
  all_goals simp [beforeScrub, openField]

theorem enterJoining_sides {h : HandlerState} {s : State} (hs : Sides h s)
    (hbank : s.pipeline.pendingBank.isFilling = false) : Sides h (enterJoining s) := by
  unfold enterJoining
  refine trigger_sides (hs.congr rfl rfl rfl rfl ?_ rfl)
  rw [hbank]
  rfl

theorem lineReset_sides {h : HandlerState} {s : State} (hs : Sides h s) : Sides h (lineReset s) := by
  obtain ⟨⟨h1, h2, h3, h4, h5, h6, h7⟩, ⟨h8, h9⟩, ⟨h10, h11, h12, h13⟩⟩ := hs
  constructor
  · refine ⟨fun h => ?_, h2, h3, h4, h5, h6, h7⟩
    obtain ⟨hr, hh, -⟩ := (noneWaits_iff _).1 (h1 h)
    exact (noneWaits_iff _).2 ⟨hr, hh, rfl⟩
  · exact ⟨h8, h9⟩
  · refine ⟨(fun h => by cases h), fun hheld => .inr ?_, fun hun => ?_, h13⟩
    · change s.arbiter.holder = some .responder at hheld
      simp only [lineReset, Responder.lineReset]
      cases hu : s.responder.unfinished with
      | some c => rfl
      | none => simp [hheld, (h11 hheld).resolve_right (by simp [hu])]
    · change s.arbiter.holder = some .responder
      simp only [lineReset, Responder.lineReset] at hun
      cases hu : s.responder.unfinished with
      | some c => exact h12 (by simp [hu])
      | none =>
        refine Classical.byContradiction fun hheld => ?_
        simp [hu, hheld] at hun

/-- A step of the responder ends with the store released, and the responder may ask anew. -/
theorem responderStep_arbiterOk {s t : State} (b : Bool) (hs : s.arbiterOk)
    (hheld : s.arbiter.holder = some .responder)
    (hrest : t.arbiter = s.arbiter ∧ t.resolver = s.resolver ∧ t.pipeline = s.pipeline)
    (hhand : t.handler = s.handler) (hdrop : t.responder.unfinished = none ∧ t.responder.placeHeld = false) :
    (releaseSignal b t).arbiterOk ∧ (pokeResponder (releaseSignal b t)).arbiterOk := by
  have hlets := (sides_of_arbiterOk hs).responderLetsGo hheld hrest hdrop
  have hsides := releaseSignal_sides b hlets (by rw [hrest.1]; simp [hheld])
  exact ⟨hsides.arbiterOk (by rw [releaseSignal_handler, hhand]),
    (pokeResponder_sides hsides).arbiterOk (by rw [pokeResponder_handler, releaseSignal_handler, hhand])⟩

theorem Sides.resolverLetsGo {h : HandlerState} {s t : State} (hs : Sides h s)
    (hheld : s.arbiter.holder = some .resolver) (harb : t.arbiter = s.arbiter)
    (hres : t.resolver.inFlight = s.resolver.inFlight ∧ t.resolver.rerun = s.resolver.rerun ∧ t.resolver.latch = none)
    (hfill : t.pipeline.pendingBank.isFilling = true) (hresp : t.responder = s.responder) : LetsGo h t := by
  obtain ⟨⟨h1, h2, h3, h4, h5, h6, h7⟩, ⟨h8, h9⟩, ⟨h10, h11, h12, h13⟩⟩ := hs
  constructor <;> simp_all

/-! ### The effects -/

theorem sides_same {s t : State} (hs : s.arbiterOk) (harb : t.arbiter = s.arbiter)
    (hflight : t.resolver.inFlight = s.resolver.inFlight) (hrerun : t.resolver.rerun = s.resolver.rerun)
    (hlatch : t.resolver.latch = s.resolver.latch) (hbank : t.pipeline.pendingBank = s.pipeline.pendingBank)
    (hresp : t.responder = s.responder) (hhand : t.handler.state = s.handler.state) : t.arbiterOk :=
  ((sides_of_arbiterOk hs).congr harb hflight hrerun hlatch (by rw [hbank]) hresp).arbiterOk hhand

theorem Acts.arbiterOk {s t : State} {c : Instr} (hq : s.quietOk) (hs : s.arbiterOk) (ha : Acts s c t) :
    t.arbiterOk := by
  have hsides := sides_of_arbiterOk hs
  cases ha
  case powerOnReset =>
    obtain ⟨-, -, -, -, h, -⟩ := sound_powerOnReset s.pending
    exact h
  case bootReadEnd image h =>
    have hbank : s.pipeline.pendingBank = .empty := (hq (not_up_of_part (.inr h))).2.2.2.2.1
    rw [takeConfig_frame]
    refine (enterJoining_sides (h := s.handler.state) ?_ ?_).arbiterOk (by rw [enterJoining_frame])
    · exact hsides.congr rfl rfl rfl rfl rfl rfl
    · rw [hbank]; rfl
  case joiningQuietExpiry => rw [autoFetch_frame]; exact hs
  case frmPulse d _ =>
    obtain ⟨u, h⟩ := framePulse_triggers d s
    exact h.arbiterOk hs
  case position m rest _ =>
    obtain ⟨b, u, h⟩ := handPosition_triggers m { s with cue.handover := rest }
    exact h.arbiterOk hs
  case upField chk _ _ =>
    rw [upField_eq]
    exact (scrub_sides chk (beforeScrub_sides hsides)).arbiterOk (by simp [beforeScrub, openField])
  case character x _ _ _ =>
    have h := LineWork.applyOutcome x (rxOutcome s.cue.rx x) (restartIdle s)
    rw [h.rest]; exact hs
  case gapExpiry waited a _ =>
    rw [(LineWork.receiveError .gap a.chars { s with cue.idle := ⟨true, s.quiet waited⟩ }).rest]; exact hs
  case mhTake m rest hidle _ _ => exact applyVerdict_arbiterOk m _ (s := { s with cue.inbound := rest }) hs hidle
  case unknownKind m h =>
    rw [h] at hsides
    exact endPlain_arbiterOk m _ _ (hsides.rehand rfl (.inr rfl))
  case sceneSet chk m h => exact edit_arbiterOk hs h _ (.sceneSet chk _ s)
  case gradeSet chk m h => exact edit_arbiterOk hs h _ (.gradeSet chk _ _ s)
  case sceneMove chk m h => exact edit_arbiterOk hs h _ (.sceneMove chk _ _ s)
  case sceneDelete chk m h => exact edit_arbiterOk hs h _ (.sceneDelete chk _ s)
  case listClear chk m h => exact edit_arbiterOk hs h _ (.listClear chk _ _ s)
  case rangeTrimRefused m r h => exact edit_arbiterOk hs h _ (.refl s)
  case rangeTrimBegins m h =>
    obtain ⟨-, hstate, -⟩ := atStore_eq_some_iff.1 h
    rw [hstate] at hsides
    exact Sides.arbiterOk (h := .executing m (.walk ⟨none, 0⟩))
      (Sides.congr (hsides.rehand rfl (.inr rfl)) rfl rfl rfl rfl rfl rfl) rfl
  case trimAsks chk m w h =>
    rw [h] at hsides
    exact (askForStep_sides hsides).arbiterOk (by rw [askForStep_handler, h])
  case trimStep chk m w h hheld =>
    rw [h] at hsides
    exact trimStep_arbiterOk chk m w (askForStep_sides hsides) hheld
  case queryAnswered m a h _ => exact endPlain_arbiterOk m _ _ (idle_of_inHand hs h)
  case queryScene chk m h =>
    refine (sendReply_sides m _ _ ?_).ends
    exact handlerStep_sides hsides (atStore_eq_some_iff.1 h).1 (.queryScene chk _ s) _ (.inr rfl)
  case queryPunchJoins m u h hu =>
    have hu' : Sides .idle u := by rw [hu]; exact sendReply_sides m _ _ (idle_of_inHand hs h)
    exact Sides.ends (hu'.congr rfl rfl rfl rfl rfl rfl)
  case queryPunchDropped m h => exact (sendReply_sides m _ _ (idle_of_inHand hs h)).ends
  case clear m h => exact endPlain_arbiterOk m _ _ ((idle_of_inHand hs h).congr rfl rfl rfl rfl rfl rfl)
  case setModeRefused m h | punchArmRefused m _ h | fetchRefused m _ h =>
    exact endPlain_arbiterOk m _ _ (idle_of_inHand hs h)
  case setMode m mode h =>
    refine endPlain_arbiterOk m _ _ ?_
    have hmode : Sides .idle (writeMode mode s) :=
      triggerIf_sides _ ((idle_of_inHand hs h).congr rfl rfl rfl rfl rfl rfl)
    rw [writeSettings_eq]
    refine hmode.congr rfl rfl rfl rfl ?_ ?_
    · rw [writeMode_frame]
    · rw [writeMode_frame]
  case resetSoft m h =>
    exact endPlain_arbiterOk m _ _ (trigger_sides (lineReset_sides (idle_of_inHand hs h)))
  case resetList m h =>
    refine endPlain_arbiterOk m _ _ ?_
    exact handlerStep_sides (lineReset_sides hsides) (atStore_eq_some_iff.1 h).1 (.store _ _) _ (.inr rfl)
  case punchArm m h _ => exact endPlain_arbiterOk m _ _ ((idle_of_inHand hs h).congr rfl rfl rfl rfl rfl rfl)
  case punchAbort m h =>
    refine endPlain_arbiterOk m _ _ ?_
    rw [cancelPunch_frame]
    exact (idle_of_inHand hs h).congr rfl rfl rfl rfl rfl rfl
  case partnerAgrees chk m f h =>
    exact (handlerStep_sides hsides (atStore_eq_some_iff.1 h).1 (.examineStore _ chk s) _ (.inr rfl)).ends
  case partnerDiffers chk m f h =>
    refine Sides.ends ?_
    rw [partnerMismatch_frame]
    exact (handlerStep_sides hsides (atStore_eq_some_iff.1 h).1 (.examineStore _ chk s) _ (.inr rfl)).congr
      rfl rfl rfl rfl rfl rfl
  case fetchFrom m h _ =>
    refine endPlain_arbiterOk m _ _ ?_
    rw [startFetch_frame]
    exact (idle_of_inHand hs h).congr rfl rfl rfl rfl rfl rfl
  case listQueryIgnored h => exact ((idle_of_inHand hs h).congr rfl rfl rfl rfl rfl rfl).ends
  case listQueryBusy m h =>
    exact ((idle_of_inHand hs h).congr (by simp) (by simp) (by simp) (by simp) (by simp) (by simp)).ends
  case listQuery m h hnot =>
    refine (pokeResponder_sides ?_).ends
    obtain ⟨hr, hh, ⟨h10, h11, h12, h13⟩⟩ := idle_of_inHand hs h
    exact ⟨⟨hr.free, hr.notScrubber, hr.inFlight, hr.waits, hr.holds, hr.latch, hr.rerun⟩, ⟨hh.uses, hh.waits⟩,
      ⟨fun hw => ⟨(h10 hw).1, rfl⟩, fun _ => .inl rfl, h12, h13⟩⟩
  case responderFinishes chk c hheld _ _ =>
    refine (responderStep_arbiterOk _ hs hheld ?_ ?_ ?_).2
    · simp [dropPlace]
    · simp [dropPlace]
    · simp [dropPlace]
  case responderStreams chk hheld _ _ _ =>
    refine (responderStep_arbiterOk _ hs hheld ?_ ?_ ?_).2
    · rw [advanceStream_frame]; simp [dropPlace]
    · rw [advanceStream_frame]; simp [dropPlace]
    · rw [advanceStream_unfinished, advanceStream_placeHeld]; simp [dropPlace]
  case responderEnds hheld _ _ =>
    exact (responderStep_arbiterOk (t := dropPlace s) false hs hheld ⟨rfl, rfl, rfl⟩ rfl ⟨rfl, rfl⟩).1
  case responderNoRoom hheld _ =>
    exact (responderStep_arbiterOk (t := dropPlace s) false hs hheld ⟨rfl, rfl, rfl⟩ rfl ⟨rfl, rfl⟩).2
  case listRec m h _ =>
    have hidle := idle_of_inHand hs h
    have hfree := (hidle.handler.uses rfl).symm
    simp only [HandlerState.usesStore, Bool.or_eq_false_iff, decide_eq_false_iff_not] at hfree
    refine Sides.arbiterOk (h := .executing m (.merging s.requester.tag)) ?_ (by rw [request_handler])
    exact requestHandler_sides (hidle.congr rfl rfl rfl rfl rfl rfl) hfree fun _ => rfl
  case listRecOutOfSequence m h =>
    refine (endFetch_sides .sequence (h := .idle) ?_).ends
    exact (idle_of_inHand hs h).congr rfl rfl rfl rfl rfl rfl
  case unexpected h _ => exact ((ListWork.raise .unexpectedReply s).sides (idle_of_inHand hs h)).ends
  case merge chk m tag hheld _ =>
    refine (releaseSignal_sides _ ?_ ?_).ends
    · refine Sides.handlerLetsGo (h := s.handler.state) ?_ ?_ (.inr rfl)
      · rw [countMerge_frame]
        exact ((ListWork.mergeRecord chk _ s).sides hsides).congr rfl rfl rfl rfl rfl rfl
      · rw [countMerge_frame]; simp [hheld]
    · rw [countMerge_frame]; simp [hheld]
  case listEnd m h =>
    exact (endFetch_sides _ (idle_of_inHand hs h)).ends
  case gapTimerExpiry =>
    exact (endFetch_sides .timeout hsides).arbiterOk (by rw [endFetch_handler])
  case resolutionRead chk l hheld _ =>
    have hw := (ListWork.examineStore (fun x => decide (l.frame < x)) chk s).trans (.readGrade chk l _)
    unfold resolve
    refine (release_sides (h := s.handler.state) ?_).arbiterOk (by simp)
    exact hsides.resolverLetsGo hheld hw.arbiter (by simp) rfl (by simp)
  case fillingComplete r hfill =>
    refine (triggerIf_sides _ ?_).arbiterOk (by rw [triggerIf_handler])
    obtain ⟨⟨h1, h2, h3, h4, h5, h6, h7⟩, ⟨h8, h9⟩, ⟨h10, h11, h12, h13⟩⟩ := hsides
    have hbank : s.pipeline.pendingBank.isFilling = true := by rw [hfill]; rfl
    refine ⟨⟨h1, h2, ?_, ?_, fun _ => rfl, h6, fun h => by cases h⟩, ⟨h8, h9⟩, ⟨h10, h11, h12, h13⟩⟩ <;> simp_all [PendingBank.isFilling]
  case attemptStart =>
    refine (pokeResponder_sides (h := s.handler.state) ?_).arbiterOk (by rw [pokeResponder_handler])
    exact hsides.congr rfl rfl rfl rfl rfl rfl
  all_goals refine sides_same hs ?_ ?_ ?_ ?_ ?_ ?_ ?_
  all_goals simp [Machine.loadingField, pixelTaken]

/-- Settles O7, effect by effect (`Acts.arbiterOk`), in the three sides of the invariant. -/
theorem arbiterStaysConsistent : Obligations.ArbiterStaysConsistent := by
  unfold Obligations.ArbiterStaysConsistent
  intro s t hq hs
  exact step_gives (P := fun s => s.quietOk ∧ s.arbiterOk) (Q := State.arbiterOk) (fun _ h => h.2) (fun _ _ h => h)
    (fun _ _ _ h ha => ha.arbiterOk h.1 h.2) ⟨hq, hs⟩

end Sys2Proof.Machine
end

section
/-! PROOF. The queues of the cue line stay within their places (R96, R104, R105, R107, R110, R149). -/

namespace Sys2Proof.Machine

/-! ### The transmit queue -/

/-- The transmit queue within its places, one of the shared ones held or not (R105, R107, R149). -/
structure TxOk (q : List TxMsg) (held : Bool) : Prop where
  shared : sharedCount q + (if held then 1 else 0) ≤ 5
  records : listRecCount q + (if held then 1 else 0) ≤ 4
  entered : kindCount .sceneEntered q ≤ 1
  report : kindCount .eventReport q ≤ 1
  status : kindCount .status q ≤ 1

def State.txOk (s : State) : Prop := TxOk s.cue.txq s.responder.placeHeld

theorem kindCount_eq (k : MsgKind) (q : List TxMsg) :
    kindCount k q = (q.map fun e => e.content.kind).countP (fun k' => k' = k) := by
  rw [kindCount, List.countP_map, List.countP_eq_length_filter]
  rfl

theorem listRecCount_eq (q : List TxMsg) : listRecCount q = kindCount .listRec q := rfl

theorem kindCount_append (k : MsgKind) (q : List TxMsg) (m : TxMsg) :
    kindCount k (q ++ [m]) = kindCount k q + (if m.content.kind = k then 1 else 0) := by
  simp [kindCount, List.filter_append, List.filter_cons, apply_ite List.length]

theorem sharedCount_append (q : List TxMsg) (m : TxMsg) :
    sharedCount (q ++ [m]) = sharedCount q + (if m.content.reserved then 0 else 1) := by
  simp only [sharedCount, List.filter_append, List.length_append, List.filter_cons, List.filter_nil]
  cases m.content.reserved <;> simp

/-- A report takes no place of another kind, and of its own kind no second one (R105, R106). -/
theorem kindCount_joinReserved (k : MsgKind) (m : TxMsg) (q : List TxMsg) :
    kindCount k (joinReserved m q) =
      if m.content.kind = k then max 1 (kindCount k q) else kindCount k q := by
  rw [kindCount_eq, joinReserved_kinds, kindCount_eq]
  split
  · next hany =>
    split
    · next hk =>
      have hpos : 0 < (q.map fun e => e.content.kind).countP (fun k' => k' = k) := by
        rw [List.countP_pos_iff]
        simpa [hk] using hany
      omega
    · rfl
  · next hany =>
    rw [List.countP_append]
    split
    · next hk =>
      have hzero : (q.map fun e => e.content.kind).countP (fun k' => k' = k) = 0 := by
        rw [List.countP_eq_zero]
        simpa [hk] using hany
      rw [hzero]
      simp [hk]
    · next hk => simp [hk]

theorem joinReserved_txOk {m : TxMsg} {q : List TxMsg} {b : Bool} (hm : m.content.reserved = true) (h : TxOk q b) :
    TxOk (joinReserved m q) b := by
  have hrec : m.content.kind ≠ .listRec := by cases hc : m.content <;> simp_all [TxContent.reserved, TxContent.kind]
  constructor
  case shared => rw [sharedCount_joinReserved m q hm]; exact h.shared
  case records => rw [listRecCount_eq, kindCount_joinReserved, if_neg hrec]; exact h.records
  case entered => rw [kindCount_joinReserved]; have := h.entered; split <;> omega
  case report => rw [kindCount_joinReserved]; have := h.report; split <;> omega
  case status => rw [kindCount_joinReserved]; have := h.status; split <;> omega

theorem handReport_tx {c : TxContent} {s : State} {b : Bool} (hc : c.reserved = true) (h : TxOk s.cue.txq b) :
    TxOk (handReport c s).cue.txq b := by
  unfold handReport
  split
  · exact h
  · exact joinReserved_txOk hc h

theorem raise_tx (f : EventFlag) {s : State} {b : Bool} (h : TxOk s.cue.txq b) : TxOk (raise f s).cue.txq b := by
  unfold raise
  split
  · dsimp only
    split
    · exact handReport_tx (s := { s with events := _ }) rfl h
    · exact h
  · exact h

theorem ListWork.tx {s t : State} {b : Bool} (hw : ListWork s t) (h : TxOk s.cue.txq b) : TxOk t.cue.txq b := by
  induction hw with
  | refl => exact h
  | trans _ _ ih ig => exact ig (ih h)
  | raise f s => exact raise_tx f h
  | _ => exact h

theorem raise_txOk (f : EventFlag) {s : State} (h : s.txOk) : (raise f s).txOk := by
  unfold State.txOk
  rw [raise_responder]
  exact raise_tx f h

theorem ListWork.txOk {s t : State} (hw : ListWork s t) (h : s.txOk) : t.txOk := by
  have hresp : t.responder = s.responder := by rw [hw.frame]
  unfold State.txOk
  rw [hresp]
  exact hw.tx h

/-- A place held is let go of, or used. -/
theorem TxOk.drop {q : List TxMsg} {b : Bool} (h : TxOk q b) : TxOk q false := by
  obtain ⟨hs, hr, he, hp, ht⟩ := h
  constructor
  case shared => simp only [Bool.false_eq_true, if_false]; omega
  case records => simp only [Bool.false_eq_true, if_false]; omega
  case entered => exact he
  case report => exact hp
  case status => exact ht

/-- A hand-over for a shared place that is not a LIST_REC. -/
theorem handShared_txOk {m : TxMsg} {s : State} (hrec : m.content.kind ≠ .listRec) (hres : m.content.reserved = false)
    (h : s.txOk) : (handShared m s).1.txOk := by
  unfold handShared
  split
  · next hroom =>
    have hkind : m.content.kind ≠ .sceneEntered ∧ m.content.kind ≠ .eventReport ∧ m.content.kind ≠ .status := by
      cases hc : m.content <;> simp_all [TxContent.reserved, TxContent.kind]
    unfold State.sharedTaken at hroom
    constructor <;> dsimp only
    case shared => rw [sharedCount_append, hres]; simp only [Bool.false_eq_true, if_false]; omega
    case records => rw [listRecCount_eq, kindCount_append, if_neg hrec]; exact h.records
    case entered => rw [kindCount_append, if_neg hkind.1]; exact h.entered
    case report => rw [kindCount_append, if_neg hkind.2.1]; exact h.report
    case status => rw [kindCount_append, if_neg hkind.2.2]; exact h.status
  · exact raise_txOk _ (s := { s with cue := _ }) h

theorem sendReply_txOk (m : Message) (r : ReplyResult) (b : ReplyBody) {s : State} (h : s.txOk) :
    (sendReply m r b s).1.txOk := by
  unfold sendReply
  split
  · exact handShared_txOk (by simp [TxContent.kind]) rfl h
  · exact h

/-! ### The place held for the responder (R149) -/

/-- Where room is offered, a place may be held. -/
theorem TxOk.offered {q : List TxMsg} {b : Bool} (h : TxOk q b) : TxOk q (offersRoom q) := by
  cases hroom : offersRoom q with
  | false => exact h.drop
  | true =>
    simp only [offersRoom, Bool.and_eq_true, decide_eq_true_eq] at hroom
    exact ⟨by simp only [if_true]; omega, by simp only [if_true]; omega, h.entered, h.report, h.status⟩

theorem grant_txOk (c : Client) {s : State} (h : s.txOk) : (grant c s).txOk := by
  cases c
  case responder => exact TxOk.offered h
  all_goals exact h

theorem request_txOk (c : Client) {s : State} (h : s.txOk) : (request c s).txOk := by
  unfold request
  split
  · exact grant_txOk c h
  · exact h

theorem release_txOk {s : State} (h : s.txOk) : (release s).txOk := by
  unfold release
  split
  · exact grant_txOk _ (s := { s with arbiter := _ }) h
  · split
    · exact grant_txOk _ (s := { s with arbiter := _ }) h
    · split
      · exact grant_txOk _ (s := { s with arbiter := _ }) h
      · exact h

theorem trigger_txOk {s : State} (h : s.txOk) : (trigger s).txOk := by
  unfold trigger
  split
  · split
    · exact h
    · exact request_txOk _ (s := { s with resolver := _ }) h
  · exact h

theorem triggerIf_txOk (b : Bool) {s : State} (h : s.txOk) : (triggerIf b s).txOk := by
  cases b
  · exact h
  · exact trigger_txOk h

theorem releaseSignal_txOk (b : Bool) {s : State} (h : s.txOk) : (releaseSignal b s).txOk :=
  release_txOk (triggerIf_txOk b h)

theorem pokeResponder_txOk {s : State} (h : s.txOk) : (pokeResponder s).txOk := by
  unfold pokeResponder
  split
  · exact request_txOk _ h
  · exact h

/-! ### Steps at the store -/

theorem endPlain_txOk (m : Message) (r : ReplyResult) (b : ReplyBody) {s : State} (h : s.txOk) :
    (endPlain m r b s).txOk := by
  unfold endPlain
  refine sendReply_txOk m r b (?_ : State.txOk (if _ then _ else _))
  split
  · exact h
  · exact h

theorem endEdit_txOk (m : Message) (e : EditEnd) {s : State} (hw : ListWork s e.state) (h : s.txOk) :
    (endEdit m e).txOk := by
  unfold endEdit
  refine sendReply_txOk m _ _ (releaseSignal_txOk _ ?_)
  split
  · exact hw.txOk h
  · exact raise_txOk _ (hw.txOk h)

theorem trimStep_txOk (chk : Checks) (m : Message) (w : Walk) {s : State} (h : s.txOk) : (trimStep chk m w s).txOk := by
  have hx := ListWork.examineStore (walkStop (u24 m.payload 0) w) chk s
  unfold trimStep
  dsimp only
  split
  · exact endEdit_txOk m _ (.refl s) h
  · split
    · exact endEdit_txOk m _ hx h
    · next e _ =>
      have hr := hx.trans (.readBody .edit chk e _)
      have ht (v : BodyView) := hr.trans (.trimRecord (deltasAt m.payload) e v _)
      split
      · exact endEdit_txOk m _ (ht _) h
      · exact releaseSignal_txOk _ ((ht _).txOk h)

/-- A hand-over to the place that was held for it. -/
theorem handShared_held {m : TxMsg} {s : State} (hres : m.content.reserved = false)
    (hplace : s.responder.placeHeld = false) (h : TxOk s.cue.txq true) : (handShared m s).1.txOk := by
  have hkind : m.content.kind ≠ .sceneEntered ∧ m.content.kind ≠ .eventReport ∧ m.content.kind ≠ .status := by
    cases hc : m.content <;> simp_all [TxContent.reserved, TxContent.kind]
  unfold handShared
  split
  · unfold State.txOk
    dsimp only
    rw [hplace]
    obtain ⟨hs, hr, he, hp, ht⟩ := h
    simp only [if_true] at hs hr
    constructor
    case shared => rw [sharedCount_append, hres]; simp only [Bool.false_eq_true, if_false]; omega
    case records =>
      rw [listRecCount_eq, kindCount_append, ← listRecCount_eq]
      simp only [Bool.false_eq_true, if_false]
      split <;> omega
    case entered => rw [kindCount_append, if_neg hkind.1]; exact he
    case report => rw [kindCount_append, if_neg hkind.2.1]; exact hp
    case status => rw [kindCount_append, if_neg hkind.2.2]; exact ht
  · refine raise_txOk _ (s := { s with cue := _ }) ?_
    unfold State.txOk
    dsimp only
    rw [hplace]
    exact h.drop

theorem ListWork.responder {s t : State} (h : ListWork s t) : t.responder = s.responder := by rw [h.frame]

/-- A step of a stream uses the place that was held for it: its record, or its end, joins the queue (R149). -/
theorem streamStep_txOk (chk : Checks) (c : Stream) {s : State} (hplace : s.responder.placeHeld = true) (h : s.txOk) :
    (streamStep chk c (dropPlace s)).1.txOk := by
  have hx := ListWork.examineStore (streamStop c) chk (dropPlace s)
  have hheld : TxOk (dropPlace s).cue.txq true := by
    unfold State.txOk at h
    rw [hplace] at h
    exact h
  have hr (e : Entry) := hx.trans (.readBody .send chk e _)
  unfold streamStep
  dsimp only
  split
  · split
    · exact handShared_held rfl (by rw [(hr _).responder]; rfl) ((hr _).tx hheld)
    · exact handShared_held rfl (by rw [hx.responder]; rfl) (hx.tx hheld)
  · exact handShared_held rfl (by rw [hx.responder]; rfl) (hx.tx hheld)

/-! ### The film, the line and the field start -/

theorem txOk_congr {s t : State} (hq : t.cue.txq = s.cue.txq) (hp : t.responder.placeHeld = s.responder.placeHeld)
    (h : s.txOk) : t.txOk := by
  unfold State.txOk; rw [hq, hp]; exact h

theorem abortPunch_txOk {s : State} (h : s.txOk) : (abortPunch s).txOk := by
  unfold abortPunch
  split
  · exact raise_txOk _ (s := { s with gate := _ }) h
  · exact h

theorem cadenceCheck_txOk {s : State} (h : s.txOk) : (cadenceCheck s).txOk := by
  unfold cadenceCheck
  dsimp only
  split
  · exact h
  · split
    · exact h
    · exact raise_txOk _ (s := { s with pcu := _ }) h
  · split
    · exact h
    · split
      · exact h
      · exact h

theorem slip_txOk {s : State} (h : s.txOk) : (slip s).txOk := raise_txOk _ (s := { s with pcu := _ }) h

theorem followPosition_txOk (v : SpeedClass) (p : Option (BitVec 2)) {s : State} (h : s.txOk) :
    (followPosition v p s).txOk := by
  unfold followPosition
  dsimp only
  split
  · exact h
  · exact abortPunch_txOk (s := { s with pcu := _ }) h

theorem moveGate_txOk {s : State} (h : s.txOk) : (moveGate s).txOk := by
  unfold moveGate
  dsimp only
  split
  · exact h
  · split
    · unfold applyHeld
      refine followPosition_txOk _ _ ?_
      dsimp only
      split
      · exact h
      · exact slip_txOk (s := { s with pcu := _ }) h
    · exact h

theorem framePulse_txOk (d : Bool) {s : State} (h : s.txOk) : (framePulse d s).txOk := by
  unfold framePulse
  refine trigger_txOk (moveGate_txOk (cadenceCheck_txOk ?_))
  cases d
  · exact abortPunch_txOk (s := { s with pcu := _ }) h
  · exact h

theorem handPosition_txOk (m : Message) {s : State} (h : s.txOk) : (handPosition m s).txOk := by
  unfold handPosition
  split
  · split
    · exact h
    · unfold takePosition
      dsimp only
      split
      · exact h
      · unfold reconcile
        refine triggerIf_txOk _ (followPosition_txOk _ _ ?_)
        exact iteInduction (motive := State.txOk) (fun _ => h) (fun _ => slip_txOk (s := { s with pcu := _ }) h)
  · exact h

theorem receiveError_txOk (k : LineErrorKind) (cs : List Byte) {s : State} (h : s.txOk) :
    (receiveError k cs s).txOk :=
  raise_txOk _ (s := { s with cue := _ }) h

theorem applyFilter_txOk (d : Byte) {s : State} (h : s.txOk) : (applyFilter d s).txOk := by
  unfold applyFilter
  split
  · exact h
  · exact h

theorem route_txOk (m : Message) {s : State} (h : s.txOk) : (route m s).txOk := by
  unfold route
  split
  · exact h
  · split
    · exact h
    · exact raise_txOk _ (s := { s with cue := _ }) h

theorem applyOutcome_txOk (x : RxChar) (o : RxOutcome) {s : State} (h : s.txOk) : (applyOutcome x o s).txOk := by
  unfold applyOutcome
  split
  · exact h
  · exact applyFilter_txOk _ h
  · exact applyFilter_txOk _ (receiveError_txOk _ _ h)
  · exact receiveError_txOk _ _ h
  · exact h
  · exact h
  · exact route_txOk _ (s := { s with cue := _ }) h

theorem handReport_txOk {c : TxContent} {s : State} (hc : c.reserved = true) (h : s.txOk) : (handReport c s).txOk := by
  unfold State.txOk
  rw [handReport_responder]
  exact handReport_tx hc h

theorem openField_txOk {s : State} (h : s.txOk) : (openField s).txOk := by
  have hswap : (swapBank (countField s)).txOk := txOk_congr (by simp) (by simp) h
  unfold openField checkLate
  split
  · exact raise_txOk _ (s := { swapBank (countField s) with resolver := _ }) hswap
  · exact hswap

theorem countHoldback_txOk {s : State} (h : s.txOk) : (countHoldback s).txOk := by
  unfold countHoldback
  split
  · exact h
  · split
    · exact handReport_txOk (s := { s with resolver := _ }) rfl h
    · exact h

theorem enterScene_txOk {s : State} (h : s.txOk) : (enterScene s).txOk := by
  unfold enterScene
  split
  · dsimp only
    split
    · exact handReport_txOk (s := { s with resolver := _ }) rfl h
    · exact h
  · exact h

theorem evalPunch_txOk (b : Bool) {s : State} (h : s.txOk) : (evalPunch b s).txOk := by
  unfold evalPunch
  split
  · unfold evalArmed
    dsimp only
    split
    · exact raise_txOk _ (s := { s with gate := _ }) h
    · split
      · exact raise_txOk _ (s := { s with gate := _ }) h
      · exact h
  · unfold evalRecording
    dsimp only
    split
    · exact raise_txOk _ (s := { s with gate := _ }) h
    · split
      · exact h
      · exact h
  all_goals exact h

theorem countStatus_txOk {s : State} (h : s.txOk) : (countStatus s).txOk := by
  unfold countStatus
  split
  · split
    · exact handReport_txOk (s := { s with events := _ }) rfl h
    · exact h
  · exact h

theorem beforeScrub_txOk {s : State} (h : s.txOk) : (beforeScrub s).txOk := by
  have hentered := enterScene_txOk (countHoldback_txOk (openField_txOk h))
  have hbefore : (beforePunch s).txOk := txOk_congr (by simp [beforePunch]) (by simp [beforePunch]) hentered
  have hpunch := evalPunch_txOk (openField s).fieldOmitted hbefore
  rw [beforeScrub_eq]
  exact countStatus_txOk (txOk_congr (by simp) (by simp) hpunch)

theorem scrub_txOk (chk : Checks) {s : State} (h : s.txOk) : (scrub chk s).txOk := by
  unfold scrub
  dsimp only
  split
  · have hx := ListWork.examineStore (fun n => decide (s.store.scrubCursor ≤ n)) chk s
    split
    · exact triggerIf_txOk _ ((hx.trans (.scrubRecord _ _ _)).txOk h)
    · have hy := hx.trans (.examineStore (fun _ => true) chk _)
      split
      · exact triggerIf_txOk _ ((hy.trans (.scrubRecord _ _ _)).txOk h)
      · exact triggerIf_txOk _ ((hy.trans (.ofStore _ _)).txOk h)
  · exact h

/-! ### The effects on the transmit queue -/

theorem askForStep_txOk {s : State} (h : s.txOk) : (askForStep s).txOk := by
  unfold askForStep
  split
  · exact h
  · exact request_txOk _ h

theorem startFetch_txOk (p : Byte) (a b : Nat) {s : State} (h : s.txOk) : (startFetch p a b s).txOk :=
  handShared_txOk (s := { s with requester := _ }) (by simp [TxContent.kind]) rfl h

/-- The head leaves the queue at an attempt (R109). -/
theorem TxOk.tail {m : TxMsg} {q : List TxMsg} {b : Bool} (h : TxOk (m :: q) b) : TxOk q b := by
  have hsub (p : TxMsg → Bool) : (q.filter p).length ≤ ((m :: q).filter p).length :=
    ((List.sublist_cons_self m q).filter p).length_le
  exact ⟨Nat.le_trans (Nat.add_le_add_right (hsub _) _) h.shared, Nat.le_trans (Nat.add_le_add_right (hsub _) _) h.records,
    Nat.le_trans (hsub _) h.entered, Nat.le_trans (hsub _) h.report, Nat.le_trans (hsub _) h.status⟩

theorem TxOk.nil (b : Bool) : TxOk [] b := by cases b <;> constructor <;> decide

theorem nextMessage_eq_some {s : State} {m : TxMsg} {n : Nat} {q : List TxMsg} (h : s.nextMessage = some (m, n, q)) :
    (s.cue.tx = .waiting m n ∧ q = s.cue.txq) ∨ (s.cue.tx = .empty ∧ n = 0 ∧ s.cue.txq = m :: q) := by
  unfold State.nextMessage at h
  split at h
  · next htx => cases h; exact .inl ⟨htx, rfl⟩
  · next htx hq => cases h; exact .inr ⟨htx, rfl, hq⟩
  all_goals cases h

theorem Acts.txOk {s t : State} {c : Instr} (h : s.txOk) (ha : Acts s c t) : t.txOk := by
  cases ha
  case powerOnReset => exact TxOk.nil false
  case bootReadEnd =>
    rw [takeConfig_frame]
    unfold enterJoining
    refine trigger_txOk ?_
    exact h
  case joiningQuietExpiry =>
    unfold autoFetch
    split
    · exact h
    · split
      · refine startFetch_txOk _ _ _ ?_
        exact h
      · exact h
  case frmPulse d _ => exact framePulse_txOk d h
  case position m rest _ => exact handPosition_txOk m (s := { s with cue := _ }) h
  case upField chk _ _ => exact scrub_txOk chk (beforeScrub_txOk h)
  case refLossExpiry => exact abortPunch_txOk (raise_txOk _ (s := { s with pcu := _ }) h)
  case character x _ _ _ => exact applyOutcome_txOk x _ (s := restartIdle s) h
  case gapExpiry => exact receiveError_txOk _ _ (s := { s with cue := _ }) h
  case mhTake m rest _ _ _ =>
    cases judge m s with
    | ignored => exact h
    | atOnce => exact h
    | store => exact request_txOk _ (s := { s with cue := _, handler := _ }) h
    | refused r b => exact endPlain_txOk m r b (s := { s with cue := _ }) h
  case unknownKind m _ => exact endPlain_txOk m _ _ h
  case sceneSet chk m _ => exact endEdit_txOk m _ (.sceneSet chk _ s) h
  case gradeSet chk m _ => exact endEdit_txOk m _ (.gradeSet chk _ _ s) h
  case sceneMove chk m _ => exact endEdit_txOk m _ (.sceneMove chk _ _ s) h
  case sceneDelete chk m _ => exact endEdit_txOk m _ (.sceneDelete chk _ s) h
  case listClear chk m _ => exact endEdit_txOk m _ (.listClear chk _ _ s) h
  case rangeTrimRefused m _ _ => exact endEdit_txOk m _ (.refl s) h
  case trimAsks => exact askForStep_txOk h
  case trimStep chk m w _ _ => exact trimStep_txOk chk m w (askForStep_txOk h)
  case queryAnswered m a _ _ => exact endPlain_txOk m _ _ h
  case queryScene chk m _ => exact sendReply_txOk m _ _ (releaseSignal_txOk _ ((ListWork.queryScene chk _ s).txOk h))
  case queryPunchJoins m u _ hu =>
    have hu' : u.txOk := by rw [hu]; exact sendReply_txOk m _ _ h
    exact hu'
  case queryPunchDropped m _ => exact sendReply_txOk m _ _ h
  case clear m _ => exact endPlain_txOk m _ _ (s := clearCaptures _ _ (clearFlags _ s)) h
  case setModeRefused m _ | punchArmRefused m _ _ | fetchRefused m _ _ => exact endPlain_txOk m _ _ h
  case setMode m mode _ =>
    refine endPlain_txOk m _ _ ?_
    have hmode : (writeMode mode s).txOk := triggerIf_txOk _ (s := { s with resolver := _ }) h
    refine txOk_congr ?_ ?_ hmode
    · unfold writeSettings writeStatusEnable; dsimp only; split <;> rfl
    · unfold writeSettings writeStatusEnable; dsimp only; split <;> rfl
  case resetSoft m _ => exact endPlain_txOk m _ _ (trigger_txOk (TxOk.nil _))
  case resetList m _ => exact endPlain_txOk m _ _ (releaseSignal_txOk _ (TxOk.nil _))
  case punchArm m _ _ => exact endPlain_txOk m _ _ (s := armPunch _ _ _ s) h
  case punchAbort m _ =>
    refine endPlain_txOk m _ _ ?_
    unfold cancelPunch
    split
    · exact h
    · exact abortPunch_txOk h
    all_goals exact h
  case partnerAgrees chk _ _ _ => exact releaseSignal_txOk _ ((ListWork.examineStore _ chk s).txOk h)
  case partnerDiffers chk m f _ =>
    have hx := raise_txOk .partnerMismatch (releaseSignal_txOk (examineStore (fun n => decide (f < n)) chk s).2
      ((ListWork.examineStore (fun n => decide (f < n)) chk s).txOk h))
    unfold partnerMismatch
    dsimp only
    split
    · exact startFetch_txOk _ _ _ hx
    · exact hx
  case fetchFrom m _ _ => exact endPlain_txOk m _ _ (startFetch_txOk _ _ _ h)
  case listQueryBusy m _ => exact handShared_txOk (by simp [TxContent.kind]) rfl h
  case listQuery m _ _ => exact pokeResponder_txOk (s := { s with responder := _ }) h
  case responderFinishes chk c _ hplace _ => exact pokeResponder_txOk (releaseSignal_txOk _ (streamStep_txOk chk c hplace h))
  case responderStreams chk _ hplace _ _ =>
    refine pokeResponder_txOk (releaseSignal_txOk _ ?_)
    have hstep := streamStep_txOk chk s.responder.stream hplace h
    unfold State.txOk
    rw [advanceStream_placeHeld, advanceStream_frame]
    exact hstep
  case responderEnds => exact release_txOk (s := dropPlace s) h.drop
  case responderNoRoom => exact pokeResponder_txOk (release_txOk (s := dropPlace s) h.drop)
  case listRec => exact request_txOk _ (s := { s with requester := _, handler := _ }) h
  case listRecOutOfSequence => exact raise_txOk _ (s := { s with requester := _ }) h
  case unexpected => exact raise_txOk _ h
  case merge chk m tag _ _ =>
    refine releaseSignal_txOk _ ?_
    rw [countMerge_frame]
    exact (ListWork.mergeRecord chk _ s).txOk h
  case listEnd | gapTimerExpiry => exact raise_txOk _ (s := { s with requester := _ }) h
  case resolutionRead chk l _ _ =>
    exact release_txOk (((ListWork.examineStore (fun x => decide (l.frame < x)) chk s).trans (.readGrade chk l _)).txOk h)
  case fillingComplete => exact triggerIf_txOk _ (s := { s with pipeline := _, resolver := _ }) h
  case attemptStart m n q _ hnext =>
    refine pokeResponder_txOk ?_
    obtain ⟨-, rfl⟩ | ⟨-, -, hq⟩ := nextMessage_eq_some hnext
    · exact h
    · unfold State.txOk at h ⊢
      rw [hq] at h
      exact h.tail
  case collisionAbandons => exact raise_txOk _ (s := { s with cue := _ }) h
  all_goals exact h

/-! ### The receiver, the inbound queue and the transmitter (R96, R104, R110) -/

/-- The rest of the line's limits. -/
structure LineOk (c : CueLine) : Prop where
  inbound : c.inbound.length ≤ inboundLimit
  payloads : ∀ m ∈ c.inbound, m.payload.length ≤ 64
  assembly : ∀ a ∈ c.rx.assembly, a.ok
  attempts : c.tx.attempts ≤ 7

theorem queuesOk_iff (s : State) : s.queuesOk ↔ s.txOk ∧ LineOk s.cue := by
  constructor
  · rintro ⟨h1, h2, h3, h4, h5, h6, h7, h8, h9⟩
    exact ⟨⟨h3, h4, h5, h6, h7⟩, ⟨h1, h2, h8, h9⟩⟩
  · rintro ⟨⟨h3, h4, h5, h6, h7⟩, ⟨h1, h2, h8, h9⟩⟩
    exact ⟨h1, h2, h3, h4, h5, h6, h7, h8, h9⟩

theorem LineOk.congr {c d : CueLine} (h : LineOk c) (hin : d.inbound = c.inbound) (hrx : d.rx = c.rx)
    (htx : d.tx = c.tx) : LineOk d := by
  obtain ⟨h1, h2, h3, h4⟩ := h
  constructor
  · rw [hin]; exact h1
  · rw [hin]; exact h2
  · rw [hrx]; exact h3
  · rw [htx]; exact h4

theorem WorkAtStore.lineOk {s t : State} (hw : WorkAtStore s t) (h : LineOk s.cue) : LineOk t.cue := by
  rw [hw.cue]; exact h.congr rfl rfl rfl

theorem FilmWork.lineOk {s t : State} (hw : FilmWork s t) (h : LineOk s.cue) : LineOk t.cue := by
  rw [hw.cue]; exact h.congr rfl rfl rfl

theorem LineOk.setRx {c : CueLine} {rx : Receiver} (h : LineOk c) (hrx : ∀ a ∈ rx.assembly, a.ok) :
    LineOk { c with rx := rx } :=
  ⟨h.inbound, h.payloads, hrx, h.attempts⟩

theorem byte_append_left {cs : List Byte} {i : Nat} (ds : List Byte) (h : i < cs.length) :
    (cs ++ ds).getD i 0 = cs.getD i 0 := by
  rw [List.getD_eq_getElem?_getD, List.getD_eq_getElem?_getD, List.getElem?_append_left h]

theorem byte_append_right (cs ds : List Byte) (i : Nat) : (cs ++ ds).getD (cs.length + i) 0 = ds.getD i 0 := by
  rw [List.getD_eq_getElem?_getD, List.getD_eq_getElem?_getD, List.getElem?_append_right (Nat.le_add_right _ _),
    Nat.add_sub_cancel_left]

/-- A character appended leaves the fourth where it is. -/
theorem u8_append {cs : List Byte} {i : Nat} (d : Byte) (h : i < cs.length) : u8 (cs ++ [d]) i = u8 cs i := by
  unfold u8
  rw [byte_append_left _ h]

theorem u8_append_last (cs : List Byte) (d : Byte) : u8 (cs ++ [d]) cs.length = d.toNat := by
  simp [u8]

/-- What a mark-0 character comes to stays within the length its fourth character gives (R96). -/
theorem addChar_ok {a : Assembly} (d : Byte) (h : a.ok) :
    (∀ b, addChar a d = .added b → b.ok) ∧ ∀ m, addChar a d = .accepted m → m.payload.length ≤ 64 := by
  obtain ⟨hpos, hlen⟩ := h
  have hlast (h4 : a.chars.length = 3) : u8 (a.chars ++ [d]) 3 = d.toNat := by
    have hd := u8_append_last a.chars d
    rwa [h4] at hd
  have hsame (h4 : 4 ≤ a.chars.length) : u8 (a.chars ++ [d]) 3 = u8 a.chars 3 := u8_append d (by omega)
  unfold addChar
  dsimp only
  simp only [List.length_append, List.length_cons, List.length_nil]
  split
  · exact ⟨by simp, by simp⟩
  · next hfour =>
    split
    · next hfull =>
      split
      · exact ⟨by simp, by simp⟩
      · split
        · refine ⟨by simp, ?_⟩
          rintro m ⟨⟩
          have h4 : 4 ≤ a.chars.length := by omega
          have hle := (hlen h4).1
          simp only [messageOf, List.length_take, hsame h4]
          omega
        · exact ⟨by simp, by simp⟩
    · next hfull =>
      refine ⟨?_, by simp⟩
      rintro b ⟨⟩
      refine ⟨by simp, fun h4 => ?_⟩
      simp only [List.length_append, List.length_cons, List.length_nil] at h4 ⊢
      by_cases h3 : a.chars.length = 3
      · have hd := hlast h3
        rw [hd] at hfull ⊢
        omega
      · have hd := hsame (by omega)
        have := hlen (by omega)
        rw [hd] at hfull ⊢
        omega

/-- What a character comes to, as far as it is added to a message or completes one, is within the limits. -/
theorem rxOutcome_ok {rx : Receiver} (x : RxChar) (h : ∀ a ∈ rx.assembly, a.ok) :
    (∀ b, rxOutcome rx x = .added b → b.ok) ∧ ∀ m, rxOutcome rx x = .accepted m → m.payload.length ≤ 64 := by
  cases rx
  case assembling a =>
    unfold rxOutcome
    dsimp only
    split
    · exact ⟨by simp, by simp⟩
    · exact ⟨by simp, by simp⟩
    · exact addChar_ok x.data (h a (by simp [Receiver.assembly]))
  all_goals
    unfold rxOutcome
    dsimp only
    split
    · exact ⟨by simp, by simp⟩
    · exact ⟨by simp, by simp⟩
    · exact ⟨by simp, by simp⟩

theorem receiveError_lineOk (k : LineErrorKind) (cs : List Byte) {s : State} (h : LineOk s.cue) :
    LineOk (receiveError k cs s).cue := by
  have hdrop : LineOk { s.cue with rx := .discarding } := h.setRx (by simp [Receiver.assembly])
  exact hdrop.congr (by simp [receiveError]) (by simp [receiveError]) (by simp [receiveError])

theorem applyFilter_lineOk (d : Byte) {s : State} (h : LineOk s.cue) : LineOk (applyFilter d s).cue := by
  unfold applyFilter
  split
  · exact h.setRx (by simp [Receiver.assembly])
  · exact h.setRx (by simp [Receiver.assembly, Assembly.ok])

theorem route_lineOk {m : Message} {s : State} (hm : m.payload.length ≤ 64) (h : LineOk s.cue) :
    LineOk (route m s).cue := by
  unfold route
  split
  · exact h.congr rfl rfl rfl
  · split
    · next hroom =>
      refine ⟨?_, fun m' hm' => ?_, h.assembly, h.attempts⟩
      · show (s.cue.inbound ++ [m]).length ≤ inboundLimit
        rw [List.length_append]
        exact hroom
      · obtain hm' | hm' := List.mem_append.1 hm'
        · exact h.payloads m' hm'
        · obtain rfl := List.mem_singleton.1 hm'
          exact hm
    · exact h.congr (by simp) (by simp) (by simp)

theorem applyOutcome_lineOk (x : RxChar) {o : RxOutcome} {s : State} (h : LineOk s.cue)
    (hadded : ∀ b, o = .added b → b.ok) (haccepted : ∀ m, o = .accepted m → m.payload.length ≤ 64) :
    LineOk (applyOutcome x o s).cue := by
  unfold applyOutcome
  split
  · exact h
  · exact applyFilter_lineOk _ h
  · exact applyFilter_lineOk _ (receiveError_lineOk _ _ h)
  · exact receiveError_lineOk _ _ h
  · next a => exact h.setRx (by simpa [Receiver.assembly] using hadded a rfl)
  · exact h.setRx (by simp [Receiver.assembly])
  · next m => exact route_lineOk (haccepted m rfl) (s := { s with cue.rx := .idle }) (h.setRx (by simp [Receiver.assembly]))

theorem dropOwn_ok {rx : Receiver} (h : ∀ a ∈ rx.assembly, a.ok) : ∀ a ∈ (dropOwn rx).assembly, a.ok := by
  cases rx
  case assembling a =>
    unfold dropOwn
    dsimp only
    split
    · simp [Receiver.assembly]
    · exact h
  all_goals exact h

theorem disown_ok {rx : Receiver} (h : ∀ a ∈ rx.assembly, a.ok) : ∀ a ∈ (disown rx).assembly, a.ok := by
  cases rx
  case assembling a =>
    rintro _ ⟨⟩
    exact h a (by simp [Receiver.assembly])
  all_goals exact h

theorem stopped_attempts (tx : Transmitter) : tx.stopped.attempts = 0 := by cases tx <;> rfl

theorem lineReset_lineOk {c : CueLine} (h : ∀ a ∈ c.rx.assembly, a.ok) : LineOk c.lineReset :=
  ⟨Nat.zero_le _, by simp [CueLine.lineReset], h, by rw [CueLine.lineReset, stopped_attempts]; exact Nat.zero_le _⟩

theorem Acts.lineOk {s t : State} {c : Instr} (h : LineOk s.cue) (ha : Acts s c t) : LineOk t.cue := by
  cases hw : worksAtStore c
  case true => exact (ha.workAtStore hw).lineOk h
  have hrx := h.assembly
  cases ha
  case powerOnReset =>
    obtain ⟨-, -, -, -, -, h, -⟩ := sound_powerOnReset s.pending
    exact ((queuesOk_iff _).1 h).2
  case bootReadEnd =>
    rw [enterJoining_frame, takeConfig_frame]
    exact (h.setRx (rx := .idle) (by simp [Receiver.assembly])).congr rfl rfl rfl
  case joiningQuietExpiry => rw [autoFetch_frame]; exact h.congr rfl rfl rfl
  case frmPulse d _ => exact (FilmWork.framePulse d s).lineOk h
  case position m rest _ =>
    exact (FilmWork.handPosition m { s with cue.handover := rest }).lineOk (h.congr rfl rfl rfl)
  case upField chk _ _ =>
    refine (WorkAtStore.scrub chk (beforeScrub s)).lineOk (h.congr ?_ ?_ ?_)
    all_goals simp [beforeScrub, openField]
  case character x _ _ _ =>
    obtain ⟨hadded, haccepted⟩ := rxOutcome_ok x hrx
    exact applyOutcome_lineOk x (s := restartIdle s) (h.congr rfl rfl rfl) hadded haccepted
  case gapExpiry waited a _ =>
    exact receiveError_lineOk .gap a.chars (s := { s with cue.idle := ⟨true, s.quiet waited⟩ }) (h.congr rfl rfl rfl)
  case mhTake m rest _ hq _ =>
    refine (WorkAtStore.applyVerdict m _ _).lineOk ⟨?_, fun m' hm' => ?_, hrx, h.attempts⟩
    · have hin := h.inbound
      rw [hq] at hin
      exact Nat.le_trans (Nat.le_succ _) hin
    · exact h.payloads m' (by rw [hq]; exact List.mem_cons_of_mem _ hm')
  case queryAnswered m a _ _ => exact (WorkAtStore.answerQuery m a s).lineOk h
  case queryPunchJoins hu => subst hu; exact h.congr (by simp) (by simp) (by simp)
  case clear m _ => exact (WorkAtStore.endPlain m _ _ _).lineOk (h.congr rfl rfl rfl)
  case setModeRefused m _ | punchArmRefused m _ _ | fetchRefused m _ _ => exact (WorkAtStore.endPlain m _ _ _).lineOk h
  case setMode m mode _ =>
    refine (WorkAtStore.endPlain m _ _ _).lineOk ?_
    rw [writeSettings_eq]
    exact h
  case resetSoft m _ =>
    refine ((WorkAtStore.trigger _).trans (.endPlain m _ _ _)).lineOk (lineReset_lineOk hrx)
  case resetList m _ =>
    refine ((WorkAtStore.releaseSignal _ _).trans (.endPlain m _ _ _)).lineOk (lineReset_lineOk hrx)
  case punchArm m _ _ => exact (WorkAtStore.endPlain m _ _ _).lineOk h
  case punchAbort m _ =>
    refine (WorkAtStore.endPlain m _ _ _).lineOk ?_
    rw [cancelPunch_frame]
    exact h.congr (by simp) (by simp) (by simp)
  case partnerDiffers => rw [partnerMismatch_frame]; exact h.congr (by simp) (by simp) (by simp)
  case fetchFrom m _ _ =>
    refine (WorkAtStore.endPlain m _ _ _).lineOk ?_
    rw [startFetch_frame]
    exact h.congr rfl rfl rfl
  case merge => rw [countMerge_frame]; exact h.congr (by simp) (by simp) (by simp)
  case responderStreams =>
    rw [advanceStream_frame]
    exact h.congr (by simp [dropPlace]) (by simp [dropPlace]) (by simp [dropPlace])
  case attemptStart m n q _ hnext =>
    refine (WorkAtStore.pokeResponder _).lineOk ⟨h.inbound, h.payloads, hrx, ?_⟩
    have hn := h.attempts
    obtain ⟨htx, -⟩ | ⟨-, rfl, -⟩ := nextMessage_eq_some hnext
    · rw [htx] at hn; exact hn
    · exact Nat.zero_le _
  case attemptComplete => exact ⟨h.inbound, h.payloads, dropOwn_ok hrx, Nat.zero_le _⟩
  case collisionAgain hn => exact ⟨h.inbound, h.payloads, disown_ok hrx, Nat.le_of_lt_succ hn⟩
  case collisionAbandons =>
    have hend : LineOk { s.cue with tx := .empty, rx := disown s.cue.rx } :=
      ⟨h.inbound, h.payloads, disown_ok hrx, Nat.zero_le _⟩
    exact hend.congr (by simp) (by simp) (by simp)
  case collisionStopped => exact ⟨h.inbound, h.payloads, disown_ok hrx, Nat.zero_le _⟩
  case stoppedCharacterEnd => exact ⟨h.inbound, h.payloads, dropOwn_ok hrx, Nat.zero_le _⟩
  case unknownKind | sceneSet | gradeSet | sceneMove | sceneDelete | rangeTrimRefused | rangeTrimBegins | trimAsks
    | trimStep | listClear | queryScene => cases hw
  all_goals refine h.congr ?_ ?_ ?_
  all_goals simp [Machine.loadingField, Machine.unexpected, pixelTaken, dropPlace, resolve]

/-- Settles O8, effect by effect: the transmit queue with the place held (`Acts.txOk`), and the rest of the line
(`Acts.lineOk`). -/
theorem queuesStayWithinTheirPlaces : Obligations.QueuesStayWithinTheirPlaces := by
  unfold Obligations.QueuesStayWithinTheirPlaces
  intro s t _ hs
  refine step_gives (P := State.queuesOk) (Q := State.queuesOk) (fun _ h => h) (fun _ _ h => h) (fun c s t h ha => ?_) hs
  obtain ⟨htx, hline⟩ := (queuesOk_iff s).1 h
  exact (queuesOk_iff t).2 ⟨ha.txOk htx, ha.lineOk hline⟩

end Sys2Proof.Machine
end

section
/-! PROOF. The stages of a channel, the curves, and the clamps of an edit (R26, R72 to R77). -/

namespace Sys2Proof.Machine

/-! ### Stages 1, 2 and 4 (R72, R73, R77) -/

/-- A gain of 1,024 leaves a value as it is (R73). -/
theorem stageGain_unity {v : Int} (hv : v ≤ 4095) : stageGain v 1024 = v := by
  rw [stageGain_eq_min]; omega

/-- A gain of 0 gives 0 (R73). -/
theorem stageGain_zero (v : Int) : stageGain v 0 = 0 := by simp [stageGain]

theorem stageGain_nonneg {v gain : Int} (hv : 0 ≤ v) (hg : 0 ≤ gain) : 0 ≤ stageGain v gain := by
  have hprod : 0 ≤ v * gain := Int.mul_nonneg hv hg
  rw [stageGain_eq_min]; omega

/-- Settles O31: each stage is its formula, and a formula of minima and maxima shows its bounds. -/
theorem stagesStayInTheirRanges : Obligations.StagesStayInTheirRanges := by
  intro x black gain v lift hx hx' hblack hgain hv hv'
  refine ⟨stageBlack_eq_max .., ?black, stageGain_eq_min .., ?gain, stageGain_unity hv', stageGain_zero v,
    stageLift_eq .., ?lift⟩
  case black => rw [stageBlack_eq_max]; omega
  case gain =>
    refine ⟨stageGain_nonneg hv hgain, ?_⟩
    rw [stageGain_eq_min]; omega
  case lift => rw [stageLift_eq]; omega

/-! ### Values between two others (R74, R76) -/

/-- A value on the way from `a` to `b`, `n` of `d` along and rounded, lies between the bounds of the two. -/
theorem between_within {n d lo hi a b : Int} (hd : 0 < d) (hn : 0 ≤ n) (hnd : n ≤ d) (ha : lo ≤ a ∧ a ≤ hi)
    (hb : lo ≤ b ∧ b ≤ hi) : lo ≤ a + (n * (b - a) + d / 2) / d ∧ a + (n * (b - a) + d / 2) / d ≤ hi := by
  obtain ⟨hlow, hhigh⟩ := share_within hn hnd ha hb
  rw [Int.mul_comm (b - a) n] at hlow hhigh
  have hfloor : lo - a ≤ (n * (b - a) + d / 2) / d := (Int.le_ediv_iff_mul_le hd).2 (by omega)
  have hceil : (n * (b - a) + d / 2) / d < hi - a + 1 :=
    (Int.ediv_lt_iff_lt_mul hd).2 (by rw [Int.add_mul]; omega)
  omega

theorem onSegment_within {a b : Knot} {v lo hi : Int} (hav : (a.x : Int) ≤ v) (hvb : v < b.x)
    (ha : lo ≤ a.y ∧ a.y ≤ hi) (hb : lo ≤ b.y ∧ b.y ≤ hi) : lo ≤ onSegment a b v ∧ onSegment a b v ≤ hi :=
  between_within (by omega) (by omega) (by omega) ha hb

/-- A segment begins at its first knot. -/
theorem onSegment_start {a b : Knot} (h : a.x < b.x) : onSegment a b a.x = a.y := by
  have hhalf : ((b.x : Int) - a.x) / 2 / ((b.x : Int) - a.x) = 0 := Int.ediv_eq_zero_of_lt (by omega) (by omega)
  simp [onSegment, hhalf]

/-! ### Rising knots (R27, R74) -/

/-- Knots that rise from each to the next rise from each to every later one. -/
theorem ascending_iff : ∀ ks : List Knot, ascending ks = true ↔ ks.Pairwise (·.x < ·.x)
  | [] => by simp [ascending]
  | [_] => by simp [ascending]
  | a :: b :: ks => by
    have hstep : ascending (a :: b :: ks) = true ↔ a.x < b.x ∧ ascending (b :: ks) = true := by simp [ascending]
    rw [hstep, ascending_iff (b :: ks), List.pairwise_cons (a := a)]
    refine ⟨fun ⟨hab, htail⟩ => ⟨fun c hc => ?_, htail⟩, fun ⟨hall, htail⟩ => ⟨hall b List.mem_cons_self, htail⟩⟩
    obtain rfl | hc := List.mem_cons.1 hc
    · exact hab
    · exact Nat.lt_trans hab ((List.pairwise_cons.1 htail).1 c hc)

/-- A knot list without a structural fault (R27). -/
theorem knotsFault_eq_false {ks : List Knot} : knotsFault ks = false
    ↔ 2 ≤ ks.length ∧ ks.length ≤ 9 ∧ ks.Pairwise (·.x < ·.x) ∧ ∀ k ∈ ks, k.x ≤ 4095 := by
  have hrise : ascending ks = true ↔ ks.Pairwise (·.x < ·.x) := ascending_iff ks
  have hfew : 1 < ks.length ↔ 2 ≤ ks.length := Iff.rfl
  simp [knotsFault, ← hrise, and_assoc, hfew]

/-- The x values of a sound knot list rise from each knot to every later one. -/
theorem knotsFault_rising {ks : List Knot} (h : knotsFault ks = false) : ks.Pairwise (·.x < ·.x) :=
  (knotsFault_eq_false.1 h).2.2.1

/-- At its own x a knot gives its y. -/
theorem evalFrom_start {a : Knot} {ks : List Knot} (h : (a :: ks).Pairwise (·.x < ·.x)) : evalFrom a.x a ks = a.y := by
  cases ks with
  | nil => rfl
  | cons b ks =>
    have hab : a.x < b.x := (List.pairwise_cons.1 h).1 b (by simp)
    simp [evalFrom, hab, onSegment_start hab]

/-- Right of a knot, the knots before it do not matter. -/
theorem evalFrom_append {v : Int} {k : Knot} {after : List Knot} (hk : (k.x : Int) ≤ v) :
    ∀ {before : List Knot} {a : Knot}, (a :: (before ++ k :: after)).Pairwise (·.x < ·.x) →
      evalFrom v a (before ++ k :: after) = evalFrom v k after
  | [], a, _ => by simp [evalFrom, Int.not_lt.2 hk]
  | b :: before, a, h => by
    have htail := (List.pairwise_cons.1 h).2
    have hbk : b.x < k.x := (List.pairwise_cons.1 htail).1 k (by simp)
    have hbv : ¬ v < b.x := by omega
    simpa [evalFrom, hbv] using evalFrom_append hk htail

theorem evalKnots_append {v : Int} {before after : List Knot} {k : Knot}
    (h : (before ++ k :: after).Pairwise (·.x < ·.x)) (hk : (k.x : Int) ≤ v) :
    evalKnots (before ++ k :: after) v = evalFrom v k after := by
  cases before with
  | nil =>
    rcases (Int.le_iff_eq_or_lt.1 hk) with rfl | hlt
    · simpa [evalKnots] using (evalFrom_start h).symm
    · simp [evalKnots, Int.not_le.2 hlt]
  | cons a before =>
    have hak : a.x < k.x := (List.pairwise_cons.1 h).1 k (by simp)
    have hav : ¬ v ≤ a.x := by omega
    simpa [evalKnots, hav] using evalFrom_append hk h

theorem evalFrom_within {v lo hi : Int} : ∀ {ks : List Knot} {a : Knot}, (a.x : Int) ≤ v →
    (∀ k ∈ a :: ks, lo ≤ (k.y : Int) ∧ (k.y : Int) ≤ hi) → lo ≤ evalFrom v a ks ∧ evalFrom v a ks ≤ hi
  | [], a, _, hy => hy a (by simp)
  | b :: ks, a, hav, hy => by
    unfold evalFrom
    split
    · next hvb => exact onSegment_within hav hvb (hy a (by simp)) (hy b (by simp))
    · next hbv => exact evalFrom_within (by omega) fun k hk => hy k (List.mem_cons_of_mem _ hk)

/-- A curve stays within the bounds of its knots' outputs (R74). -/
theorem evalKnots_within {lo hi : Int} {ks : List Knot} (hlo : lo ≤ 0) (hhi : 0 ≤ hi)
    (hy : ∀ k ∈ ks, lo ≤ (k.y : Int) ∧ (k.y : Int) ≤ hi) (v : Int) : lo ≤ evalKnots ks v ∧ evalKnots ks v ≤ hi := by
  cases ks with
  | nil => exact ⟨hlo, hhi⟩
  | cons a ks =>
    simp only [evalKnots]
    split
    · exact hy a (by simp)
    · next hav => exact evalFrom_within (by omega) hy

/-! ### The curve of a bank (R75, R76) -/

theorem curveKnots_of {cfg : Config} {knots : Curve → List Knot} (hpreset : ∀ i, knots (.preset i) = cfg.presets.getD i [])
    (hown : ∀ ks, knots (.knots ks) = ks) (c : Curve) : knots c = curveKnots cfg c := by
  cases c with
  | preset i => exact hpreset i
  | knots ks => exact hown ks

/-- Settles O32: right of a knot only that knot and the later ones matter (`evalKnots_append`), and a segment and a
blend lie between their two ends (`between_within`). -/
theorem curvePassesItsKnots : Obligations.CurvePassesItsKnots := by
  refine ⟨?curve, ?bank⟩
  case curve =>
    intro ks ⟨hfault, hy⟩
    have hrise := knotsFault_rising hfault
    refine ⟨?through, ?left, ?right, ?segment, fun v => ?range⟩
    case through =>
      intro k hk
      obtain ⟨before, after, rfl⟩ := List.append_of_mem hk
      rw [evalKnots_append hrise (Int.le_refl _), evalFrom_start (List.pairwise_append.1 hrise).2.1]
    case left =>
      intro k v hhead hv
      obtain ⟨rest, rfl⟩ := List.head?_eq_some_iff.1 hhead
      simp [evalKnots, hv]
    case right =>
      intro k v hlast hv
      obtain ⟨before, rfl⟩ := List.getLast?_eq_some_iff.1 hlast
      rw [evalKnots_append hrise hv, evalFrom]
    case segment =>
      rintro before after a b v d n rfl hav hvb rfl rfl
      have hsplit : before ++ [a, b] ++ after = before ++ a :: b :: after := by simp
      have hseg : evalKnots (before ++ [a, b] ++ after) v = onSegment a b v := by
        rw [hsplit] at hrise ⊢
        rw [evalKnots_append hrise hav, evalFrom, if_pos hvb]
      rw [hseg]
      exact ⟨rfl, onSegment_within hav hvb (by omega) (by omega)⟩
    case range =>
      exact evalKnots_within (by decide) (by decide) (fun k hk => ⟨by omega, Int.ofNat_le.2 (hy k hk)⟩) v
  case bank =>
    intro cfg bank v knots hpreset hown
    have hknots := curveKnots_of hpreset hown
    refine ⟨fun hnone => ?own, ?mixing⟩
    case own => simp [stageCurve, hnone, hknots]
    case mixing =>
      rintro c x y hc rfl rfl
      have hblend : stageCurve cfg bank v = blend bank.w (evalKnots (knots c) v) (evalKnots (knots bank.toCurve) v) := by
        simp [stageCurve, hc, hknots, blend]
      rw [hblend]
      exact ⟨rfl, fun hw => blend_within hw (by omega) (by omega)⟩

/-! ### The clamps of an edit (R26) -/

theorem Rgb.clamped_eq {lo hi : Int} (h : lo ≤ hi) (v : Rgb) :
    v.clamped lo hi = ⟨max lo (min hi v.r), max lo (min hi v.g), max lo (min hi v.b)⟩ := by
  simp only [Rgb.clamped, clamp_eq _ _ _ h]

theorem clampKnot_eq (k : Knot) : clampKnot k = ⟨k.x, min 1023 k.y⟩ := by
  unfold clampKnot
  congr 1
  split <;> omega

/-- Settles O39: the body a record is stored with is its fields, each clamped. -/
theorem editValuesAreClamped : Obligations.EditValuesAreClamped := by
  intro r g hg
  have htransition : r.body.transitionLen = min 63 r.transitionLen := by
    show (if 63 < r.transitionLen then 63 else r.transitionLen) = _
    split <;> omega
  refine ⟨g.clamped, by simp [Record.body, hg], rfl, htransition, rfl, Rgb.clamped_eq (by decide) _,
    Rgb.clamped_eq (by decide) _, Rgb.clamped_eq (by decide) _, clamp_eq _ _ _ (by decide), ?preset, ?own⟩
  case preset => intro i hi; simp [Grade.clamped, Curve.clamped, hi]
  case own => intro ks hks; simp [Grade.clamped, Curve.clamped, hks, clampKnot_eq]

end Sys2Proof.Machine
end

section
/-! PROOF. Fields laid out in bytes read back as themselves (R190, R193). -/

namespace Sys2Proof.Machine

/-! ### Bytes that lie at a place -/

/-- The bytes `bs` lie in `p` from byte `i` on. -/
def LiesAt (bs p : List Byte) (i : Nat) : Prop := bs <+: p.drop i

theorem liesAt_append {a b p : List Byte} {i : Nat} :
    LiesAt (a ++ b) p i ↔ LiesAt a p i ∧ LiesAt b p (i + a.length) := by
  unfold LiesAt
  constructor
  · rintro ⟨rest, h⟩
    rw [List.append_assoc] at h
    refine ⟨⟨b ++ rest, h⟩, rest, ?_⟩
    rw [← List.drop_drop, ← h, List.drop_left]
  · rintro ⟨⟨rest, h⟩, hb⟩
    rw [← List.drop_drop, ← h, List.drop_left] at hb
    rw [← h]
    exact (List.prefix_append_right_inj a).2 hb

theorem liesAt_cons {b : Byte} {bs p : List Byte} {i : Nat} :
    LiesAt (b :: bs) p i ↔ LiesAt [b] p i ∧ LiesAt bs p (i + 1) := liesAt_append (a := [b])

theorem liesAt_middle (before bs after : List Byte) : LiesAt bs (before ++ bs ++ after) before.length := by
  unfold LiesAt
  rw [List.append_assoc, List.drop_left]
  exact List.prefix_append bs after

theorem getD_of_liesAt {b : Byte} {p : List Byte} {i : Nat} (h : LiesAt [b] p i) : p.getD i 0 = b := by
  obtain ⟨rest, h⟩ := h
  have hget : p[i]? = some b := by
    have := List.getElem?_drop (xs := p) (i := i) (j := 0)
    rw [← h] at this
    simpa using this.symm
  simp [List.getD, hget]

/-! ### Unsigned and signed fields (R190) -/

theorem toNat_byteOf (n : Nat) : (byteOf n).toNat = n % 256 := by simp [byteOf]

theorem u8_of_liesAt {b : Byte} {p : List Byte} {i : Nat} (h : LiesAt [b] p i) : u8 p i = b.toNat := by
  rw [u8, getD_of_liesAt h]

theorem u8_byteOf_of_liesAt {n : Nat} {p : List Byte} {i : Nat} (hn : n < 256) (h : LiesAt [byteOf n] p i) :
    u8 p i = n := by
  rw [u8_of_liesAt h, toNat_byteOf, Nat.mod_eq_of_lt hn]

theorem bitAt_of_liesAt {b : Byte} {p : List Byte} {i : Nat} (h : LiesAt [b] p i) (k : Nat) :
    bitAt p i k = b.getLsbD k := by
  rw [bitAt, getD_of_liesAt h]

theorem u16_of_liesAt {n : Nat} {p : List Byte} {i : Nat} (hn : n < 65536) (h : LiesAt (be2 n) p i) : u16 p i = n := by
  obtain ⟨hhigh, hlow⟩ := liesAt_cons.1 h
  rw [u16, u8_of_liesAt hhigh, u8_of_liesAt hlow, toNat_byteOf, toNat_byteOf]
  omega

theorem u24_of_liesAt {n : Nat} {p : List Byte} {i : Nat} (hn : n < 16777216) (h : LiesAt (be3 n) p i) :
    u24 p i = n := by
  obtain ⟨hhigh, hrest⟩ := liesAt_cons.1 h
  obtain ⟨hmid, hlow⟩ := liesAt_cons.1 hrest
  rw [u24, u8_of_liesAt hhigh, u8_of_liesAt hmid, u8_of_liesAt hlow, toNat_byteOf, toNat_byteOf, toNat_byteOf]
  omega

theorem u16_of_liesAt_signed {x : Int} {p : List Byte} {i : Nat} (hx : 0 ≤ x ∧ x ≤ 65535) (h : LiesAt (be2s x) p i) :
    (u16 p i : Int) = x := by
  have := u16_of_liesAt (by omega) h
  omega

theorem s16_of_liesAt {x : Int} {p : List Byte} {i : Nat} (hx : -32768 ≤ x ∧ x ≤ 32767) (h : LiesAt (be2s x) p i) :
    s16 p i = x := by
  have := u16_of_liesAt (by omega) h
  unfold s16
  split <;> omega

/-! ### Knots, grades and records (R193) -/

theorem Rgb.bytes_length (v : Rgb) : v.bytes.length = 6 := rfl

theorem Rgb.liesAt {v : Rgb} {p : List Byte} {i : Nat} (h : LiesAt v.bytes p i) :
    LiesAt (be2s v.r) p i ∧ LiesAt (be2s v.g) p (i + 2) ∧ LiesAt (be2s v.b) p (i + 4) := by
  obtain ⟨⟨lr, lg⟩, lb⟩ := liesAt_append.1 h |>.imp_left liesAt_append.1
  exact ⟨lr, lg, lb⟩

theorem rgbAt_of_liesAt {v : Rgb} {p : List Byte} {i : Nat} (hv : v.within 0 65535) (h : LiesAt v.bytes p i) :
    rgbAt p i = v := by
  obtain ⟨hr, hg, hb⟩ := hv
  obtain ⟨lr, lg, lb⟩ := Rgb.liesAt h
  rw [rgbAt, u16_of_liesAt_signed hr lr, u16_of_liesAt_signed hg lg, u16_of_liesAt_signed hb lb]

theorem srgbAt_of_liesAt {v : Rgb} {p : List Byte} {i : Nat} (hv : v.within (-32768) 32767) (h : LiesAt v.bytes p i) :
    srgbAt p i = v := by
  obtain ⟨hr, hg, hb⟩ := hv
  obtain ⟨lr, lg, lb⟩ := Rgb.liesAt h
  rw [srgbAt, s16_of_liesAt hr lr, s16_of_liesAt hg lg, s16_of_liesAt hb lb]

theorem knotsAt_of_liesAt {p : List Byte} : ∀ {ks : List Knot} {i : Nat}, (∀ k ∈ ks, k.x < 8192 ∧ k.y < 2048) →
    LiesAt (ks.flatMap Knot.bytes) p i → knotsAt p i ks.length = ks
  | [], _, _, _ => rfl
  | k :: ks, i, hk, h => by
    obtain ⟨hx, hy⟩ := hk k (by simp)
    obtain ⟨hfirst, hrest⟩ := liesAt_append.1 h
    have hrest : LiesAt (ks.flatMap Knot.bytes) p (i + 3) := hrest
    have hknot : knotOf (u24 p i) = k := by
      have : u24 p i = k.x * 2048 + k.y := u24_of_liesAt (by omega) hfirst
      rw [this, knotOf]
      have hdiv : (k.x * 2048 + k.y) / 2048 = k.x := by omega
      have hmod : (k.x * 2048 + k.y) % 2048 = k.y := by omega
      rw [hdiv, hmod]
    rw [List.length_cons, knotsAt, hknot, knotsAt_of_liesAt (fun k hk' => hk k (List.mem_cons_of_mem _ hk')) hrest]

theorem length_flatMap_bytes (ks : List Knot) : (ks.flatMap Knot.bytes).length = 3 * ks.length := by
  induction ks with
  | nil => rfl
  | cons k ks ih =>
    rw [List.flatMap_cons, List.length_append, ih, List.length_cons]
    show 3 + _ = _
    omega

/-- A curve as a message can carry it (R193). -/
def Curve.carried : Curve → Prop
  | .preset i => i < 128
  | .knots ks => 2 ≤ ks.length ∧ ks.length ≤ 9 ∧ ∀ k ∈ ks, k.x < 8192 ∧ k.y < 2048

/-- The curve byte of a carried curve says its kind and its knots. -/
theorem curveAt_of_liesAt {c : Curve} {p : List Byte} {i : Nat} (hc : c.carried) (h : LiesAt c.bytes p i) :
    curveAt p i = c ∧ 1 + knotBytes p i = c.bytes.length := by
  cases c with
  | preset n =>
    have hn : n < 128 := hc
    have hbyte : u8 p i = n := u8_byteOf_of_liesAt (by omega) h
    simp [curveAt, knotBytes, hbyte, hn, Curve.bytes]
    omega
  | knots ks =>
    obtain ⟨hfew, hmany, hk⟩ := hc
    obtain ⟨hcount, hknots⟩ := liesAt_cons.1 h
    have hbyte : u8 p i = 128 + ks.length := u8_byteOf_of_liesAt (by omega) hcount
    have hlow : 130 ≤ 128 + ks.length ∧ 128 + ks.length ≤ 137 := by omega
    have hlen : 1 + 3 * ks.length = (Curve.knots ks).bytes.length := by
      rw [Curve.bytes, List.length_cons, length_flatMap_bytes]; omega
    simp [curveAt, knotBytes, hbyte, hlow, hlen, knotsAt_of_liesAt hk hknots]

/-- A grade as a message can carry it (R193). -/
def Grade.carried (g : Grade) : Prop :=
  g.black.within 0 65535 ∧ g.gain.within 0 65535 ∧ g.lift.within (-32768) 32767 ∧ (0 ≤ g.sat ∧ g.sat ≤ 65535)
    ∧ g.curve.carried

theorem Grade.bytes_length (g : Grade) : g.bytes.length = 20 + g.curve.bytes.length := by
  simp only [Grade.bytes, List.length_append, Rgb.bytes_length]
  show 6 + 6 + 6 + 2 + _ = _
  rfl

theorem gradeAt_of_liesAt {g : Grade} {p : List Byte} {i : Nat} (hg : g.carried) (h : LiesAt g.bytes p i) :
    gradeAt p i = g ∧ 21 + knotBytes p (i + 20) = g.bytes.length := by
  obtain ⟨hblack, hgain, hlift, hsat, hcurve⟩ := hg
  simp only [Grade.bytes, liesAt_append, List.length_append, Rgb.bytes_length] at h
  obtain ⟨⟨⟨⟨lblack, lgain⟩, llift⟩, lsat⟩, lcurve⟩ := h
  obtain ⟨hread, hlen⟩ := curveAt_of_liesAt hcurve lcurve
  have hread : curveAt p (i + 20) = g.curve := hread
  have hlen : 1 + knotBytes p (i + 20) = g.curve.bytes.length := hlen
  refine ⟨?_, by rw [Grade.bytes_length]; omega⟩
  rw [gradeAt, rgbAt_of_liesAt hblack lblack, rgbAt_of_liesAt hgain lgain, srgbAt_of_liesAt hlift llift,
    u16_of_liesAt_signed hsat lsat, hread]

/-- The flags byte of a record holds its three bits (R193). -/
theorem getLsbD_packBits (a b c : Bool) :
    (byteOf (packBits [a, b, c])).getLsbD 0 = a ∧ (byteOf (packBits [a, b, c])).getLsbD 1 = b
      ∧ (byteOf (packBits [a, b, c])).getLsbD 2 = c := by
  revert a b c; decide

theorem Record.carried_grade {r : Record} (h : r.carried) : ∀ g ∈ r.grade, g.carried := by
  intro g hg
  obtain ⟨-, -, -, -, hgrade⟩ := h
  obtain ⟨hblack, hgain, hlift, hsat, hcurve⟩ := hgrade g hg
  refine ⟨hblack, hgain, hlift, hsat, ?_⟩
  cases hc : g.curve <;> simpa [Curve.carried, hc] using hcurve

/-- The fields of a record before its grade. -/
def Record.head (r : Record) : List Byte :=
  be3 r.start ++ be2 r.sceneId
    ++ [byteOf r.revision, byteOf r.transitionLen, byteOf (packBits [r.omitted, r.grade.isSome, r.damaged])]

theorem Record.liesAt_head {r : Record} {p : List Byte} {i : Nat} (h : LiesAt r.head p i) :
    LiesAt (be3 r.start) p i ∧ LiesAt (be2 r.sceneId) p (i + 3) ∧ LiesAt [byteOf r.revision] p (i + 5)
      ∧ LiesAt [byteOf r.transitionLen] p (i + 6)
      ∧ LiesAt [byteOf (packBits [r.omitted, r.grade.isSome, r.damaged])] p (i + 7) := by
  obtain ⟨⟨lstart, lscene⟩, lrest⟩ := liesAt_append.1 h |>.imp_left liesAt_append.1
  obtain ⟨lrevision, lrest⟩ := liesAt_cons.1 lrest
  obtain ⟨ltransition, lflags⟩ := liesAt_cons.1 lrest
  exact ⟨lstart, lscene, lrevision, ltransition, lflags⟩

/-- A record that lies in a payload is read from it, with its length. -/
theorem recordAt_of_liesAt {r : Record} {p : List Byte} {i : Nat} (hr : r.carried) (h : LiesAt r.bytes p i) :
    recordAt p i = r ∧ recordBytes p i = r.bytes.length := by
  have hgrades := Record.carried_grade hr
  obtain ⟨hstart, hscene, hrevision, htransition, -⟩ := hr
  have hbytes : r.bytes = r.head ++ (r.grade.elim [] Grade.bytes) := by
    rw [Record.bytes, Record.head]; cases r.grade <;> rfl
  rw [hbytes] at h ⊢
  obtain ⟨lhead, lgrade⟩ := liesAt_append.1 h
  have lgrade : LiesAt (r.grade.elim [] Grade.bytes) p (i + 8) := lgrade
  obtain ⟨lstart, lscene, lrevision, ltransition, lflags⟩ := Record.liesAt_head lhead
  obtain ⟨homit, hgraded, hdamaged⟩ := getLsbD_packBits r.omitted r.grade.isSome r.damaged
  have hflags (k : Nat) : bitAt p (i + 7) k = _ := bitAt_of_liesAt lflags k
  have hhead : recordAt p i = { r with grade := if r.grade.isSome then some (gradeAt p (i + 8)) else none } := by
    rw [recordAt, u24_of_liesAt hstart lstart, u16_of_liesAt hscene lscene, u8_byteOf_of_liesAt hrevision lrevision,
      u8_byteOf_of_liesAt htransition ltransition, hflags 0, hflags 1, hflags 2, homit, hgraded, hdamaged]
  have hlen : recordBytes p i = 8 + if r.grade.isSome then 21 + knotBytes p (i + 28) else 0 := by
    rw [recordBytes, hflags 1, hgraded]
  rw [hhead, hlen, List.length_append]
  cases hg : r.grade with
  | none => exact ⟨by cases r; subst hg; rfl, rfl⟩
  | some g =>
    rw [hg] at lgrade
    obtain ⟨hread, hcount⟩ := gradeAt_of_liesAt (hgrades g hg) lgrade
    have hcount : 21 + knotBytes p (i + 28) = g.bytes.length := hcount
    rw [hread, hcount]
    exact ⟨by cases r; subst hg; rfl, rfl⟩

/-- Settles O15: a record that lies in a payload is read from it (`recordAt_of_liesAt`). -/
theorem sceneRecordRoundTrip : Obligations.SceneRecordRoundTrip :=
  fun before after r hr => recordAt_of_liesAt hr (liesAt_middle before r.bytes after)

end Sys2Proof.Machine
end

section
/-! PROOF. A message sent is received whole (R93 to R97, R109). -/

namespace Sys2Proof.Machine

/-! ### Characters without a fault (R93, R94) -/

/-- A character as a sender lays it out shows no fault. -/
theorem charFault_sent (data : Byte) (mark : Bool) : charFault ⟨data, mark, parityOf data mark, true⟩ = none := by
  simp [charFault, framingFault, parityFault]

theorem takeCharacter_on {s : State} (hup : s.up = true) (hon : s.cue.receiverOn = true) (c : RxChar) :
    takeCharacter c s = applyOutcome c (rxOutcome s.cue.rx c) (restartIdle s) := by
  simp [takeCharacter, hup, hon]

/-! ### The characters of a message, one after the other (R96) -/

theorem u8_append_left {cs : List Byte} {i : Nat} (ds : List Byte) (h : i < cs.length) : u8 (cs ++ ds) i = u8 cs i := by
  unfold u8
  rw [byte_append_left _ h]

/-- The characters received so far, `data` and those still to come are a message of its own length. -/
def Completes (a : Assembly) (data : Byte) (rest : List Byte) : Prop :=
  let full := a.chars ++ [data] ++ rest
  full.length = 6 + u8 full 3 ∧ u8 full 3 ≤ 64

theorem Completes.length_le {a : Assembly} {data : Byte} {rest : List Byte} (h : Completes a data rest)
    (hfour : (a.chars ++ [data]).length = 4) : data.toNat ≤ 64 := by
  obtain ⟨-, hlen⟩ := h
  have hlast := u8_append_last a.chars data
  have hthree : a.chars.length = 3 := by simpa using hfour
  rw [hthree] at hlast
  rwa [u8_append_left rest (by omega), hlast] at hlen

/-- A character that does not complete its message is added to it. -/
theorem addChar_added {a : Assembly} {data : Byte} {rest : List Byte} (h : Completes a data rest) (hrest : rest ≠ []) :
    addChar a data = .added { a with chars := a.chars ++ [data] } := by
  have hlimit : ¬ ((a.chars ++ [data]).length = 4 ∧ 64 < data.toNat) := by
    rintro ⟨hfour, hlong⟩
    have := h.length_le hfour
    omega
  have hopen : ¬ (6 ≤ (a.chars ++ [data]).length ∧ (a.chars ++ [data]).length = 6 + u8 (a.chars ++ [data]) 3) := by
    rintro ⟨hsix, hlen⟩
    obtain ⟨hfull, -⟩ := h
    rw [u8_append_left rest (by omega), List.length_append] at hfull
    exact hrest (List.length_eq_zero_iff.1 (by omega))
  simp only [addChar, if_neg hlimit, if_neg hopen]

/-- The character that completes its message. -/
theorem addChar_last {a : Assembly} {data : Byte} (h : Completes a data []) (hown : a.own = false)
    (hcrc : crcChecks (a.chars ++ [data]) = true) : addChar a data = .accepted (messageOf a (a.chars ++ [data])) := by
  have hlimit : ¬ ((a.chars ++ [data]).length = 4 ∧ 64 < data.toNat) := by
    rintro ⟨hfour, hlong⟩
    have := h.length_le hfour
    omega
  obtain ⟨hfull, -⟩ := h
  rw [List.append_nil] at hfull
  have hclosed : 6 ≤ (a.chars ++ [data]).length ∧ (a.chars ++ [data]).length = 6 + u8 (a.chars ++ [data]) 3 :=
    ⟨by omega, hfull⟩
  simp only [addChar, if_neg hlimit, if_pos hclosed, hown, hcrc, Bool.false_eq_true, if_false, if_true]

/-- The state with a message under assembly, right after a character of it. -/
def State.assembling (s : State) (a : Assembly) : State :=
  { s with cue.rx := .assembling a, cue.idle := ⟨true, 0⟩ }

theorem takeCharacter_assembling {s : State} (hup : s.up = true) (hon : s.cue.receiverOn = true) (a : Assembly)
    (data : Byte) : takeCharacter ⟨data, false, parityOf data false, true⟩ (s.assembling a)
      = applyOutcome ⟨data, false, parityOf data false, true⟩ (addChar a data) (s.assembling a) := by
  rw [takeCharacter_on (s := s.assembling a) hup hon]
  simp [rxOutcome, State.assembling, charFault_sent, restartIdle]

/-- The sent characters of a list of mark-0 bytes. -/
abbrev sentChars (cs : List Byte) : List RxChar := rxChars (cs.map fun c => (c, false))

/-- A run of characters up to the last leaves the message assembled so far. -/
theorem takeAll_assembling {s : State} (hup : s.up = true) (hon : s.cue.receiverOn = true) :
    ∀ {cs : List Byte} {a : Assembly} {last : Byte}, Completes { a with chars := a.chars ++ cs } last [] →
      takeAll (sentChars cs) (s.assembling a) = s.assembling { a with chars := a.chars ++ cs }
  | [], a, _, _ => by simp [takeAll, rxChars]
  | c :: cs, a, last, h => by
    have hstep : takeCharacter ⟨c, false, parityOf c false, true⟩ (s.assembling a)
        = s.assembling { a with chars := a.chars ++ [c] } := by
      have hcompletes : Completes a c (cs ++ [last]) := by simpa [Completes] using h
      rw [takeCharacter_assembling hup hon, addChar_added hcompletes (by simp)]
      rfl
    have hrest := takeAll_assembling hup hon (cs := cs) (a := { a with chars := a.chars ++ [c] }) (last := last)
      (by simpa using h)
    simp only [takeAll, rxChars, List.map_cons, List.foldl_cons, hstep]
    simpa [takeAll, rxChars] using hrest

theorem takeAll_append (cs ds : List RxChar) (s : State) : takeAll (cs ++ ds) s = takeAll ds (takeAll cs s) :=
  List.foldl_append

/-! ### The frame of a message (R97, R109) -/

/-- The characters of a frame that its CRC covers. -/
def coveredBytes (sender : Byte) (m : TxMsg) : List Byte :=
  sender :: m.content.kind.code :: byteOf m.content.payload.length :: m.content.payload

/-- All the characters of a frame. -/
def frameBytes (sender : Byte) (m : TxMsg) : List Byte :=
  m.dest :: (coveredBytes sender m ++ be2 (crc (coveredBytes sender m)).toNat)

section
variable {sender : Byte} {m : TxMsg} (hlen : m.content.payload.length ≤ 64)
include hlen

theorem u8_frameBytes : u8 (frameBytes sender m) 3 = m.content.payload.length := by
  show (byteOf m.content.payload.length).toNat = _
  rw [toNat_byteOf, Nat.mod_eq_of_lt (by omega)]

theorem frameBytes_length : (frameBytes sender m).length = 6 + u8 (frameBytes sender m) 3 := by
  rw [u8_frameBytes hlen]
  simp [frameBytes, coveredBytes, be2]
  omega

theorem crcChecks_frameBytes : crcChecks (frameBytes sender m) = true := by
  have hcount : (coveredBytes sender m).length = 3 + m.content.payload.length := by
    simp [coveredBytes]; omega
  have hcovered : ((frameBytes sender m).drop 1).take (3 + m.content.payload.length) = coveredBytes sender m := by
    rw [← hcount]; exact List.take_left
  have hcrc : LiesAt (be2 (crc (coveredBytes sender m)).toNat) (frameBytes sender m) (4 + m.content.payload.length) := by
    have := liesAt_middle (m.dest :: coveredBytes sender m) (be2 (crc (coveredBytes sender m)).toNat) []
    rw [List.length_cons, hcount, List.append_nil] at this
    have hplace : 4 + m.content.payload.length = 3 + m.content.payload.length + 1 := by omega
    rw [hplace]
    exact this
  simp only [crcChecks, u8_frameBytes hlen, hcovered, u16_of_liesAt (crc _).isLt hcrc, decide_true]

theorem messageOf_frameBytes (a : Assembly) : messageOf a (frameBytes sender m)
    = ⟨m.dest, a.addressing, sender, m.content.kind.code, m.content.payload⟩ := by
  have hpayload : ((frameBytes sender m).drop 4).take m.content.payload.length = m.content.payload := List.take_left
  rw [messageOf, u8_frameBytes hlen, hpayload]
  rfl

end

/-- The part sends no POSITION (R109). -/
theorem ofCode_sent (c : TxContent) : MsgKind.ofCode c.kind.code ≠ some .position := by
  cases c <;> simp only [TxContent.kind] <;> decide

/-- A message other than a POSITION joins the inbound queue where it has a place (R104). -/
theorem route_queued {s : State} {m : Message} (hkind : MsgKind.ofCode m.kind ≠ some .position)
    (hroom : s.cue.inbound.length < inboundLimit) :
    route m s = { s with cue.inbound := s.cue.inbound ++ [m] } := by
  rw [route, if_neg hkind, if_pos hroom]

theorem accepts_station (s : State) : accepts s s.station = some .individual := by
  have hlow : s.station.toNat ≤ 0x3F := by
    have := s.address.isLt
    simp [State.station]
    omega
  simp [accepts, hlow]

/-- Settles O16: the destination opens the message (R95), the other characters but the last are added to it
(`takeAll_assembling`), and the last completes a message whose CRC checks (`crcChecks_frameBytes`). -/
theorem sentMessageIsReceived : Obligations.SentMessageIsReceived := by
  intro s sender m hup hon hidle hdriving hdest hlen hroom
  obtain ⟨cs, last, hcs⟩ : ∃ cs last, coveredBytes sender m ++ be2 (crc (coveredBytes sender m)).toNat = cs ++ [last] :=
    ⟨coveredBytes sender m ++ [byteOf ((crc (coveredBytes sender m)).toNat / 256)], _, by simp [be2]; rfl⟩
  have hbytes : frameBytes sender m = [m.dest] ++ cs ++ [last] := by rw [frameBytes, hcs]; rfl
  have hframe : rxChars (frameOf sender m)
      = [⟨m.dest, true, parityOf m.dest true, true⟩] ++ sentChars cs ++ sentChars [last] := by
    show _ :: rxChars ((coveredBytes sender m ++ be2 (crc (coveredBytes sender m)).toNat).map _) = _
    rw [hcs]
    simp [rxChars]
  let a : Assembly := ⟨.individual, [m.dest], false⟩
  have hopen : takeCharacter ⟨m.dest, true, parityOf m.dest true, true⟩ s = s.assembling a := by
    rw [takeCharacter_on hup hon, hidle]
    have haccepts : accepts (restartIdle s) m.dest = some .individual := by
      rw [hdest]; exact accepts_station (restartIdle s)
    have hquiet : (restartIdle s).driving = false := hdriving
    simp only [rxOutcome, charFault_sent, applyOutcome, applyFilter, haccepts, hquiet]
    rfl
  have hcompletes : Completes { a with chars := a.chars ++ cs } last [] := by
    have hfull : a.chars ++ cs ++ [last] ++ [] = frameBytes sender m := by rw [List.append_nil, hbytes]
    simp only [Completes, hfull]
    exact ⟨frameBytes_length hlen, by rw [u8_frameBytes hlen]; exact hlen⟩
  have hlast : addChar { a with chars := a.chars ++ cs } last
      = .accepted ⟨m.dest, .individual, sender, m.content.kind.code, m.content.payload⟩ := by
    rw [addChar_last hcompletes rfl (by rw [← hbytes]; exact crcChecks_frameBytes hlen), ← hbytes,
      messageOf_frameBytes hlen]
  have hroute : takeAll (rxChars (frameOf sender m)) s
      = route ⟨m.dest, .individual, sender, m.content.kind.code, m.content.payload⟩
          { s with cue.rx := .idle, cue.idle := ⟨true, 0⟩ } := by
    rw [hframe, takeAll_append, takeAll_append]
    show takeAll (sentChars [last]) (takeAll (sentChars cs) (takeCharacter _ s)) = _
    rw [hopen, takeAll_assembling hup hon hcompletes]
    show takeCharacter _ _ = _
    rw [takeCharacter_assembling hup hon, hlast]
    rfl
  rw [hroute, route_queued (s := { s with cue.rx := .idle, cue.idle := ⟨true, 0⟩ }) (ofCode_sent m.content) hroom]
  exact ⟨_, rfl, rfl, rfl, rfl, rfl, rfl⟩

end Sys2Proof.Machine
end

section
/-! PROOF. The boot read and the entry to JOINING (R182, R183, R187, R198, R199). -/

namespace Sys2Proof.Machine

/-! ### The entry to JOINING (R187) -/

/-- Out of a quiet part the entry to JOINING finds the store free, so its trigger is granted at once. -/
theorem enterJoining_quiet {s : State} (harbiter : s.arbiter = Arbiter.idle) (hresolver : s.resolver = Resolver.reset) :
    enterJoining s = { s with
      part := .joining,
      arbiter := ⟨some .resolver, false, false, false⟩,
      resolver := { Resolver.reset with inFlight := true, latch := some ⟨s.pcu.gateFrame, ⟨.off, 0⟩⟩ },
      pipeline := { s.pipeline with
        active := Bank.ofGrade s.config.baseGrade s.pcu.gateFrame true ModeSetting.off SceneDesc.none,
        pendingBank := .empty },
      cue := { s.cue with rx := .idle, idle := ⟨true, 0⟩ },
      events := { s.events with
        enable := s.config.enableMask, statusEnable := decide (0 < s.config.statusInterval),
        statusCountdown := if 0 < s.config.statusInterval then 16 * s.config.statusInterval
          else s.events.statusCountdown } } := by
  simp [enterJoining, trigger, request, grant, State.up, harbiter, hresolver, Arbiter.idle, Arbiter.noneWaits,
    Resolver.reset, ModeSetting.off]

/-! ### The checks of the image, in their order (R182) -/

theorem readImage_eq_some {own : Byte} {image : List Byte} {c : Config} : readImage own image = some c ↔
    image.take 2 = bootMarker ∧ lengthOk (u16 image 2) = true ∧ 6 + u16 image 2 ≤ image.length
      ∧ (crc ((image.drop 2).take (2 + u16 image 2))).toNat = u16 image (4 + u16 image 2)
      ∧ configOf own ((image.drop 4).take (u16 image 2)) = some c := by
  unfold readImage
  simp only [ne_eq, ite_not, Bool.not_eq_true']
  constructor
  · intro h
    split at h
    · next hmarker =>
      split at h
      · cases h
      · next hlength =>
        split at h
        · cases h
        · next hwhole =>
          split at h
          · next hcrc => exact ⟨hmarker, by simpa using hlength, by omega, hcrc, h⟩
          · cases h
    · cases h
  · rintro ⟨hmarker, hlength, hwhole, hcrc, h⟩
    simp [hmarker, hlength, Nat.not_lt.2 hwhole, hcrc, h]

/-- An image laid out as R198 gives it passes the checks of marker, length and CRC. -/
theorem readImage_laid {own : Byte} {body : List Byte} (rest : List Byte) (hlen : lengthOk body.length = true) :
    readImage own ([0x47, 0x33] ++ be2 body.length ++ body ++ be2 (crc (be2 body.length ++ body)).toNat ++ rest)
      = configOf own body := by
  have hlong : body.length ≤ 272 := by simp [lengthOk] at hlen; omega
  have hn : u16 ([0x47, 0x33] ++ be2 body.length ++ body ++ be2 (crc (be2 body.length ++ body)).toNat ++ rest) 2
      = body.length := by
    have := liesAt_middle [0x47, 0x33] (be2 body.length) (body ++ be2 (crc (be2 body.length ++ body)).toNat ++ rest)
    rw [← List.append_assoc, ← List.append_assoc] at this
    exact u16_of_liesAt (by omega) this
  have hcrc : u16 ([0x47, 0x33] ++ be2 body.length ++ body ++ be2 (crc (be2 body.length ++ body)).toNat ++ rest)
      (4 + body.length) = (crc (be2 body.length ++ body)).toNat := by
    have := liesAt_middle ([0x47, 0x33] ++ be2 body.length ++ body) (be2 (crc (be2 body.length ++ body)).toNat) rest
    have hplace : ([0x47, 0x33] ++ be2 body.length ++ body : List Byte).length = 4 + body.length := by
      simp [be2]; omega
    rw [hplace] at this
    exact u16_of_liesAt (crc _).isLt this
  have hcovered : (([0x47, 0x33] ++ be2 body.length ++ body ++ be2 (crc (be2 body.length ++ body)).toNat ++ rest).drop
      2).take (2 + body.length) = be2 body.length ++ body := by
    have hcount : 2 + body.length = (be2 body.length ++ body).length := by simp [be2]; omega
    rw [hcount]
    simp only [List.append_assoc]
    rw [← List.append_assoc (be2 body.length)]
    exact List.take_left
  have hbody : (([0x47, 0x33] ++ be2 body.length ++ body ++ be2 (crc (be2 body.length ++ body)).toNat ++ rest).drop
      4).take body.length = body := by
    simp only [List.append_assoc]
    exact List.take_left
  refine Option.ext fun c => ?_
  rw [readImage_eq_some, hn, hcrc, hcovered, hbody]
  refine ⟨fun ⟨_, _, _, _, h⟩ => h, fun h => ⟨rfl, hlen, ?_, rfl, h⟩⟩
  simp [be2]
  omega

/-! ### The codes of a body (R183, R198) -/

/-- The codes and addresses of a body that stand in their sets (R183). -/
structure CodesOk (b : List Byte) : Prop where
  report : u8 b 9 ≤ 0x80 ∨ u8 b 9 = 0xFF
  partner : u8 b 10 ≤ 63 ∨ u8 b 10 = 0xFF
  transport : u8 b 11 ≤ 63 ∨ u8 b 11 = 0xFF
  recorder : u8 b 12 ≤ 63 ∨ u8 b 12 = 0xFF
  bitRate : u8 b 13 ≤ 2
  cadenceMode : u8 b 14 ≤ 1
  legalRange : u8 b 15 ≤ 1
  curve : u8 b 36 ≤ 7
  tallyMode : u8 b 43 ≤ 2
  amarkMode : u8 b 45 ≤ 1

theorem toNat_eq_of {b : Byte} (n : Byte) : b = n ↔ b.toNat = n.toNat := BitVec.toNat_inj.symm

theorem reportOf_eq {b : Byte} (h : b.toNat ≤ 0x80 ∨ b.toNat = 0xFF) :
    reportOf b = some (if b.toNat = 0x80 then none else some b) := by
  by_cases h80 : b.toNat = 0x80
  · have hb : b = 0x80 := (toNat_eq_of 0x80).2 h80
    simp [reportOf, hb]
  · have hb : b ≠ 0x80 := fun hb => h80 ((toNat_eq_of 0x80).1 hb)
    have hset : b.toNat ≤ 0x7F ∨ b = 0xFF := h.imp (by omega) (toNat_eq_of 0xFF).2
    simp only [reportOf, if_neg hb, if_pos hset, if_neg h80]

theorem reportOf_some {b : Byte} {r : Option Byte} (h : reportOf b = some r) : b.toNat ≤ 0x80 ∨ b.toNat = 0xFF := by
  unfold reportOf at h
  split at h
  · next h80 => exact .inl (by rw [h80]; decide)
  · split at h
    · next hset => exact hset.imp (by omega) (toNat_eq_of 0xFF).1
    · cases h

theorem stationOf_eq {own b : Byte} (h : b.toNat ≤ 63 ∨ b.toNat = 0xFF) :
    stationOf own b = some (if b.toNat = 0xFF ∨ b = own then none else some b) := by
  by_cases hff : b.toNat = 0xFF
  · have hb : b = 0xFF := (toNat_eq_of 0xFF).2 hff
    simp [stationOf, hb]
  · have hb : b ≠ 0xFF := fun hb => hff ((toNat_eq_of 0xFF).1 hb)
    have hlow : b.toNat ≤ 63 := by omega
    simp only [stationOf, if_neg hb, if_pos hlow, hff, false_or]

theorem stationOf_some {own b : Byte} {r : Option Byte} (h : stationOf own b = some r) :
    b.toNat ≤ 63 ∨ b.toNat = 0xFF := by
  unfold stationOf at h
  split at h
  · next hff => exact .inr (by rw [hff]; decide)
  · split at h
    · next hlow => exact .inl hlow
    · cases h

theorem bitRateOf_le : ∀ {n : Nat}, n ≤ 2 → bitRateOf n = some
    (match n with
      | 0 => .kbit250
      | 1 => .kbit500
      | _ => .mbit1) := by
  intro n h
  obtain rfl | rfl | rfl : n = 0 ∨ n = 1 ∨ n = 2 := by omega
  all_goals rfl

theorem bitRateOf_some {n : Nat} {r : BitRate} (h : bitRateOf n = some r) : n ≤ 2 := by
  unfold bitRateOf at h; split at h <;> simp_all

theorem cadenceModeOf_le {n : Nat} (h : n ≤ 1) :
    cadenceModeOf n = some (if n = 0 then .unity else .pulldown) := by
  obtain rfl | rfl : n = 0 ∨ n = 1 := by omega
  all_goals rfl

theorem cadenceModeOf_some {n : Nat} {r : CadenceMode} (h : cadenceModeOf n = some r) : n ≤ 1 := by
  unfold cadenceModeOf at h; split at h <;> simp_all

theorem legalRangeOf_le {n : Nat} (h : n ≤ 1) : legalRangeOf n = some (if n = 0 then .narrow else .full) := by
  obtain rfl | rfl : n = 0 ∨ n = 1 := by omega
  all_goals rfl

theorem legalRangeOf_some {n : Nat} {r : LegalRange} (h : legalRangeOf n = some r) : n ≤ 1 := by
  unfold legalRangeOf at h; split at h <;> simp_all

theorem tallyModeOf_le : ∀ {n : Nat}, n ≤ 2 → tallyModeOf n = some
    (match n with
      | 0 => .off
      | 1 => .pulse
      | _ => .toggle) := by
  intro n h
  obtain rfl | rfl | rfl : n = 0 ∨ n = 1 ∨ n = 2 := by omega
  all_goals rfl

theorem tallyModeOf_some {n : Nat} {r : TallyMode} (h : tallyModeOf n = some r) : n ≤ 2 := by
  unfold tallyModeOf at h; split at h <;> simp_all

theorem amarkModeOf_le {n : Nat} (h : n ≤ 1) : amarkModeOf n = some (if n = 0 then .off else .phase0) := by
  obtain rfl | rfl : n = 0 ∨ n = 1 := by omega
  all_goals rfl

theorem amarkModeOf_some {n : Nat} {r : AmarkMode} (h : amarkModeOf n = some r) : n ≤ 1 := by
  unfold amarkModeOf at h; split at h <;> simp_all

theorem baseGradeOf_some {p : List Byte} {g : Grade} (h : baseGradeOf p = some g) : u8 p 36 ≤ 7 := by
  unfold baseGradeOf at h; split at h <;> simp_all

/-- The base grade of a body: every value within its range (R183, R198). -/
theorem baseGradeOf_le {p : List Byte} (h : u8 p 36 ≤ 7) : baseGradeOf p = some
    ⟨⟨min 1023 (u16 p 16), min 1023 (u16 p 18), min 1023 (u16 p 20)⟩,
      ⟨min 4095 (u16 p 22), min 4095 (u16 p 24), min 4095 (u16 p 26)⟩,
      ⟨max (-256) (min 255 (s16 p 28)), max (-256) (min 255 (s16 p 30)), max (-256) (min 255 (s16 p 32))⟩,
      min 2047 (u16 p 34), .preset (u8 p 36)⟩ := by
  have hnat : ∀ (k : Int) (n : Nat), 0 ≤ k → max 0 (min k (n : Int)) = min k n := fun k n hk => by omega
  simp [baseGradeOf, h, Rgb.clamped_eq, clamp_eq, rgbAt, srgbAt, hnat]

/-- A body that gives a configuration has its codes in their sets, and its presets are read. -/
theorem codesOk_of_configOf {own : Byte} {p : List Byte} {c : Config} (h : configOf own p = some c) :
    CodesOk p ∧ ∃ l, bodyPresets p = some l := by
  simp only [configOf, Option.bind_eq_bind, Option.bind_eq_some_iff, Option.pure_def, Option.some.injEq] at h
  obtain ⟨_, hreport, _, hpartner, _, htransport, _, hrecorder, _, hrate, _, hcadence, _, hrange, _, hgrade, _, htally,
    _, hamark, l, hpresets, -⟩ := h
  exact ⟨⟨reportOf_some hreport, stationOf_some hpartner, stationOf_some htransport, stationOf_some hrecorder,
    bitRateOf_some hrate, cadenceModeOf_some hcadence, legalRangeOf_some hrange, baseGradeOf_some hgrade,
    tallyModeOf_some htally, amarkModeOf_some hamark⟩, l, hpresets⟩

/-! ### The presets of a body (R198, R199) -/

theorem knotsAt_length (p : List Byte) (i n : Nat) : (knotsAt p i n).length = n := by
  induction n generalizing i with
  | zero => rfl
  | succ n ih => rw [knotsAt, List.length_cons, ih]

theorem knotsAt_getElem (p : List Byte) {n k : Nat} (i : Nat) (hk : k < (knotsAt p i n).length) :
    (knotsAt p i n)[k] = knotOf (u24 p (i + 3 * k)) := by
  induction n generalizing i k with
  | zero => simp [knotsAt] at hk
  | succ n ih =>
    cases k with
    | zero => rfl
    | succ k =>
      have hk' : k < (knotsAt p (i + 3) n).length := by rw [knotsAt_length] at hk ⊢; omega
      have hplace : i + 3 * (k + 1) = i + 3 + 3 * k := by omega
      rw [hplace]
      exact ih (i + 3) hk'

/-- Each preset takes its count byte and its knots. -/
theorem presetsAt_le {p : List Byte} {n i : Nat} {r : List (List Knot) × Nat} (h : presetsAt p i n = some r) :
    i ≤ r.2 := by
  induction n generalizing i r with
  | zero => cases h; exact Nat.le_refl _
  | succ n ih =>
    unfold presetsAt at h
    split at h
    · cases h
    · split at h
      · cases h
      · next r' hr =>
        cases h
        have := ih hr
        omega

theorem presetBytes_length (ks : List Knot) : (presetBytes ks).length = 1 + 3 * ks.length := by
  rw [presetBytes, List.length_cons, length_flatMap_bytes]; omega

/-- A preset as R198 lays it out: its knot count fits its byte and its knots fit their bits. -/
def PresetLaid (ks : List Knot) : Prop := ks.length < 256 ∧ ∀ k ∈ ks, k.x < 8192 ∧ k.y < 2048

/-- Presets laid out one after the other are read, if none of them has a fault, and then those after them. -/
theorem presetsAt_laid {p : List Byte} : ∀ {presets : List (List Knot)} {i : Nat} (n : Nat),
    (∀ ks ∈ presets, PresetLaid ks) → LiesAt (presets.flatMap presetBytes) p i →
      presetsAt p i (presets.length + n) = if presets.any knotsFault then none else
        (presetsAt p (i + (presets.flatMap presetBytes).length) n).map
          fun r => (presets.map (List.map clampKnot) ++ r.1, r.2)
  | [], i, n, _, _ => by simp
  | ks :: rest, i, n, hlaid, h => by
    obtain ⟨hcount, hks⟩ := hlaid ks (by simp)
    obtain ⟨hfirst, hrest⟩ := liesAt_append.1 h
    obtain ⟨hbyte, hknots⟩ := liesAt_cons.1 hfirst
    have hu8 : u8 p i = ks.length := u8_byteOf_of_liesAt hcount hbyte
    have hplace : i + (presetBytes ks).length = i + 1 + 3 * ks.length := by rw [presetBytes_length]; omega
    have ih := presetsAt_laid n (fun l hl => hlaid l (List.mem_cons_of_mem _ hl)) hrest
    have hnum : (ks :: rest).length + n = rest.length + n + 1 := by rw [List.length_cons]; omega
    rw [hplace] at ih
    rw [hnum, presetsAt, hu8, knotsAt_of_liesAt hks hknots, ih, List.flatMap_cons, List.length_append, ← Nat.add_assoc,
      hplace, List.any_cons]
    cases knotsFault ks <;> cases rest.any knotsFault <;>
      cases presetsAt p (i + 1 + 3 * ks.length + (List.flatMap presetBytes rest).length) n <;> simp

/-- The presets of a body that begins with `b` are eight laid out from byte 48 on. -/
theorem bodyPresets_laid {b after : List Byte} {presets : List (List Knot)} (hb : b.length = 48)
    (hlaid : ∀ ks ∈ presets, PresetLaid ks) (n : Nat) :
    presetsAt (b ++ presets.flatMap presetBytes ++ after) 48 (presets.length + n)
      = if presets.any knotsFault then none else
        (presetsAt (b ++ presets.flatMap presetBytes ++ after) (b ++ presets.flatMap presetBytes).length n).map
          fun r => (presets.map (List.map clampKnot) ++ r.1, r.2) := by
  have hlies := liesAt_middle b (presets.flatMap presetBytes) after
  rw [hb] at hlies
  rw [presetsAt_laid n hlaid hlies, List.length_append, hb]

theorem bodyPresets_good {b : List Byte} {presets : List (List Knot)} (hb : b.length = 48) (height : presets.length = 8)
    (hgood : ∀ ks ∈ presets, knotsFault ks = false ∧ ∀ k ∈ ks, k.y < 2048) :
    bodyPresets (b ++ presets.flatMap presetBytes) = some (presets.map (List.map clampKnot)) := by
  have hlaid : ∀ ks ∈ presets, PresetLaid ks := by
    intro ks hks
    obtain ⟨hfault, hy⟩ := hgood ks hks
    obtain ⟨-, hmany, -, hx⟩ := knotsFault_eq_false.1 hfault
    exact ⟨by omega, fun k hk => ⟨by have := hx k hk; omega, hy k hk⟩⟩
  have hnone : presets.any knotsFault = false := by
    rw [List.any_eq_false]
    intro ks hks
    simp [(hgood ks hks).1]
  have hread := bodyPresets_laid (after := []) hb hlaid 0
  rw [height, hnone, List.append_nil] at hread
  have hall : presetsAt (b ++ presets.flatMap presetBytes) 48 8
      = some (presets.map (List.map clampKnot), (b ++ presets.flatMap presetBytes).length) := by
    simpa [presetsAt] using hread
  simp only [bodyPresets, hall, if_true]

/-- A knot list of a body, in the fields it is read from (R27, R193). -/
theorem knotsFault_knotsAt {p : List Byte} {i n : Nat} (h : knotsFault (knotsAt p i n) = false) :
    2 ≤ n ∧ n ≤ 9 ∧ (∀ k, k + 1 < n → u24 p (i + 3 * k) / 2048 < u24 p (i + 3 * (k + 1)) / 2048)
      ∧ ∀ k < n, u24 p (i + 3 * k) / 2048 ≤ 4095 := by
  obtain ⟨hfew, hmany, hrise, hx⟩ := knotsFault_eq_false.1 h
  rw [knotsAt_length] at hfew hmany
  refine ⟨hfew, hmany, fun k hk => ?_, fun k hk => ?_⟩
  · have hk' : k < (knotsAt p i n).length := by rw [knotsAt_length]; omega
    have hk'' : k + 1 < (knotsAt p i n).length := by rw [knotsAt_length]; omega
    have := List.pairwise_iff_getElem.1 hrise k (k + 1) hk' hk'' (by omega)
    rwa [knotsAt_getElem, knotsAt_getElem] at this
  · have hk' : k < (knotsAt p i n).length := by rw [knotsAt_length]; omega
    have := hx _ (List.getElem_mem hk')
    rwa [knotsAt_getElem] at this

/-- What a read of at least one preset finds at its first. -/
theorem presetsAt_first {p : List Byte} {n i : Nat} {r : List (List Knot) × Nat} (h : presetsAt p i (n + 1) = some r) :
    knotsFault (knotsAt p (i + 1) (u8 p i)) = false ∧ i + 1 + 3 * u8 p i ≤ r.2 := by
  unfold presetsAt at h
  split at h
  · cases h
  · next hfault =>
    split at h
    · cases h
    · next r' hr =>
      have hle := presetsAt_le hr
      cases h
      exact ⟨by simpa using hfault, hle⟩

theorem u8_append_right (a b : List Byte) (i : Nat) : u8 (a ++ b) (a.length + i) = u8 b i := by
  rw [u8, u8, byte_append_right]

theorem u24_append_right (a b : List Byte) (i : Nat) : u24 (a ++ b) (a.length + i) = u24 b i := by
  simp only [u24, Nat.add_assoc, u8_append_right]

theorem knotsAt_append_right (a b : List Byte) (i n : Nat) : knotsAt (a ++ b) (a.length + i) n = knotsAt b i n := by
  induction n generalizing i with
  | zero => rfl
  | succ n ih => rw [knotsAt, knotsAt, u24_append_right, Nat.add_assoc, ih]

/-- A preset after the sound ones of a body, and the end of the body, where the body gives presets (R199). -/
theorem presets_after {b after : List Byte} {presets l : List (List Knot)} (hb : b.length = 48)
    (hlaid : ∀ ks ∈ presets, PresetLaid ks) (h : bodyPresets (b ++ presets.flatMap presetBytes ++ after) = some l) :
    (presets.length < 8 → knotsFault (knotsAt after 1 (u8 after 0)) = false ∧ 1 + 3 * u8 after 0 ≤ after.length)
      ∧ (presets.length = 8 → after = []) := by
  unfold bodyPresets at h
  split at h
  · cases h
  · next r hr =>
    split at h
    · next hend =>
      refine ⟨fun hfew => ?_, fun hall => ?_⟩
      · have hread := bodyPresets_laid (after := after) hb hlaid (7 - presets.length + 1)
        have hnum : presets.length + (7 - presets.length + 1) = 8 := by omega
        rw [hnum, hr] at hread
        split at hread
        · cases hread
        · obtain ⟨r', hr', rfl⟩ := Option.map_eq_some_iff.1 hread.symm
          obtain ⟨hfault, hle⟩ := presetsAt_first hr'
          have hend : r'.2 = (b ++ presets.flatMap presetBytes).length + after.length := by
            rw [← List.length_append]; exact hend
          have hbyte := u8_append_right (b ++ presets.flatMap presetBytes) after 0
          rw [Nat.add_zero] at hbyte
          rw [hbyte] at hfault hle
          rw [knotsAt_append_right] at hfault
          exact ⟨hfault, by omega⟩
      · have hread := bodyPresets_laid (after := after) hb hlaid 0
        rw [Nat.add_zero, hall, hr] at hread
        split at hread
        · cases hread
        · simp only [presetsAt, Option.map_some, Option.some.injEq] at hread
          have hend : (b ++ presets.flatMap presetBytes).length
              = (b ++ presets.flatMap presetBytes).length + after.length := by
            rw [← List.length_append, ← hend, hread]
          exact List.length_eq_zero_iff.1 (by omega)
    · cases h

/-! ### The configuration of a good image -/

theorem beNat_append (p : List Byte) (b : Byte) : beNat (p ++ [b]) = beNat p * 2 ^ 8 + b.toNat := by
  simp [beNat]

/-- The bits of a field of several bytes, the lowest byte first in `q`. -/
theorem beNat_reverse_testBit (q : List Byte) : ∀ n < 8 * q.reverse.length,
    (beNat q.reverse).testBit n = (q.reverse.getD (q.reverse.length - 1 - n / 8) 0).getLsbD (n % 8) := by
  induction q with
  | nil => intro n hn; simp at hn
  | cons b q ih =>
    rw [List.reverse_cons]
    generalize q.reverse = p at ih
    intro n hn
    have hbyte : b.toNat < 2 ^ 8 := b.isLt
    rw [beNat_append, Nat.mul_comm, Nat.testBit_two_pow_mul_add _ hbyte, List.length_append, List.length_singleton,
      Nat.add_sub_cancel]
    split
    · next hlow =>
      have hdiv : n / 8 = 0 := by omega
      have hmod : n % 8 = n := by omega
      rw [hdiv, hmod, Nat.sub_zero]
      simp [BitVec.getLsbD]
    · next hhigh =>
      rw [List.length_append, List.length_singleton] at hn
      have hdiv : p.length - n / 8 = p.length - 1 - (n - 8) / 8 := by omega
      have hmod : n % 8 = (n - 8) % 8 := by omega
      rw [ih (n - 8) (by omega), hdiv, hmod, byte_append_left _ (by omega)]

theorem beNat_testBit (p : List Byte) :
    ∀ n < 8 * p.length, (beNat p).testBit n = (p.getD (p.length - 1 - n / 8) 0).getLsbD (n % 8) := by
  have h := beNat_reverse_testBit p.reverse
  rw [List.reverse_reverse] at h
  exact h

theorem groups_bit {b : List Byte} (hb : 8 ≤ b.length) {n : Nat} (hn : n < 64) :
    (BitVec.ofNat 64 (beNat (b.take 8))).getLsbD n = bitAt b (7 - n / 8) (n % 8) := by
  have hlen : (b.take 8).length = 8 := by rw [List.length_take]; omega
  have hbit := beNat_testBit (b.take 8) n (by omega)
  have hplace : 7 - n / 8 < 8 := by omega
  rw [BitVec.getLsbD_ofNat, decide_eq_true hn, Bool.true_and, hbit, hlen, bitAt]
  simp [List.getD, hplace]

/-- The length of a body with eight sound presets lies within its limits (R199). -/
theorem lengthOk_presets {b : List Byte} {presets : List (List Knot)} (hb : b.length = 48) (height : presets.length = 8)
    (hgood : ∀ ks ∈ presets, knotsFault ks = false) : lengthOk (b ++ presets.flatMap presetBytes).length = true := by
  have hbounds : ∀ l : List (List Knot), (∀ ks ∈ l, knotsFault ks = false) →
      7 * l.length ≤ (l.flatMap presetBytes).length ∧ (l.flatMap presetBytes).length ≤ 28 * l.length := by
    intro l
    induction l with
    | nil => simp
    | cons ks l ih =>
      intro hl
      obtain ⟨hfew, hmany, -⟩ := knotsFault_eq_false.1 (hl ks (by simp))
      have := ih fun k hk => hl k (List.mem_cons_of_mem _ hk)
      rw [List.flatMap_cons, List.length_append, presetBytes_length, List.length_cons]
      omega
  have := hbounds presets hgood
  simp only [lengthOk, List.length_append, hb, Bool.and_eq_true, decide_eq_true_eq]
  omega

/-- The fields of a body before its presets are those of its first 48 bytes. -/
theorem fields_of_head {b after : List Byte} (hb : b.length = 48) :
    (∀ i < 48, (b ++ after).getD i 0 = b.getD i 0) ∧ (∀ i < 48, u8 (b ++ after) i = u8 b i)
      ∧ (∀ i < 47, u16 (b ++ after) i = u16 b i) ∧ (∀ i < 47, s16 (b ++ after) i = s16 b i)
      ∧ (∀ i < 48, ∀ k, bitAt (b ++ after) i k = bitAt b i k) := by
  have hget : ∀ i < 48, (b ++ after).getD i 0 = b.getD i 0 := fun i hi => byte_append_left _ (by omega)
  have hbyte : ∀ i < 48, u8 (b ++ after) i = u8 b i := fun i hi => by rw [u8, u8, hget i hi]
  have hword : ∀ i < 47, u16 (b ++ after) i = u16 b i := fun i hi => by
    rw [u16, u16, hbyte i (by omega), hbyte (i + 1) (by omega)]
  exact ⟨hget, hbyte, hword, fun i hi => by rw [s16, s16, hword i hi], fun i hi k => by rw [bitAt, bitAt, hget i hi]⟩

theorem tallyLengthOf_eq (n : Nat) : tallyLengthOf n = max 1 (min 15 n) := by
  unfold tallyLengthOf
  split
  · omega
  · split <;> omega

/-- The configuration of a body whose first 48 bytes are `b`, with its codes in their sets, and whose presets are `l`
(R183, R198). -/
def laidConfig (own : Byte) (b : List Byte) (l : List (List Knot)) : Config where
  groups := BitVec.ofNat 64 (beNat (b.take 8))
  broadcast := bitAt b 8 0
  report := if u8 b 9 = 0x80 then none else some (b.getD 9 0)
  partner := if u8 b 10 = 0xFF ∨ b.getD 10 0 = own then none else some (b.getD 10 0)
  transport := if u8 b 11 = 0xFF ∨ b.getD 11 0 = own then none else some (b.getD 11 0)
  recorder := if u8 b 12 = 0xFF ∨ b.getD 12 0 = own then none else some (b.getD 12 0)
  bitRate := match u8 b 13 with
    | 0 => .kbit250
    | 1 => .kbit500
    | _ => .mbit1
  cadenceMode := if u8 b 14 = 0 then .unity else .pulldown
  legalRange := if u8 b 15 = 0 then .narrow else .full
  baseGrade :=
    ⟨⟨min 1023 (u16 b 16), min 1023 (u16 b 18), min 1023 (u16 b 20)⟩,
      ⟨min 4095 (u16 b 22), min 4095 (u16 b 24), min 4095 (u16 b 26)⟩,
      ⟨max (-256) (min 255 (s16 b 28)), max (-256) (min 255 (s16 b 30)), max (-256) (min 255 (s16 b 32))⟩,
      min 2047 (u16 b 34), .preset (u8 b 36)⟩
  presets := l
  enableMask := BitVec.ofNat 15 (u16 b 37)
  faultMask := BitVec.ofNat 15 (u16 b 39)
  statusInterval := u8 b 41
  holdback := min 7 (u8 b 42)
  tallyMode := match u8 b 43 with
    | 0 => .off
    | 1 => .pulse
    | _ => .toggle
  tallyLength := max 1 (min 15 (u8 b 44))
  amarkMode := if u8 b 45 = 0 then .off else .phase0
  invertGate := bitAt b 46 0
  invertTally := bitAt b 46 1
  invertAmark := bitAt b 46 2
  autoFetchStart := bitAt b 47 0
  autoFetchMismatch := bitAt b 47 1

theorem configOf_laid {own : Byte} {b after : List Byte} {l : List (List Knot)} (hb : b.length = 48) (hcodes : CodesOk b)
    (hpresets : bodyPresets (b ++ after) = some l) : configOf own (b ++ after) = some (laidConfig own b l) := by
  obtain ⟨hget, hbyte, hword, hsword, hbit⟩ := fields_of_head (after := after) hb
  have hgroups : (b ++ after).take 8 = b.take 8 := List.take_append_of_le_length (by omega)
  have hcurve : u8 (b ++ after) 36 ≤ 7 := by rw [hbyte 36 (by decide)]; exact hcodes.curve
  have hholdback : (if 7 < u8 b 42 then 7 else u8 b 42) = min 7 (u8 b 42) := by split <;> omega
  simp only [configOf, hget, hbyte, hword, hsword, hbit, Nat.reduceLT, hgroups, hpresets, baseGradeOf_le hcurve,
    reportOf_eq hcodes.report, stationOf_eq hcodes.partner, stationOf_eq hcodes.transport, stationOf_eq hcodes.recorder,
    bitRateOf_le hcodes.bitRate, cadenceModeOf_le hcodes.cadenceMode, legalRangeOf_le hcodes.legalRange,
    tallyModeOf_le hcodes.tallyMode, amarkModeOf_le hcodes.amarkMode, tallyLengthOf_eq, hholdback]
  rfl

/-- Settles O18: the entry is out of a quiet part (`enterJoining_quiet`); a good image is read code by code and preset
by preset; and an image that gives a configuration passes every check (`readImage_eq_some`, `codesOk_of_configOf`,
`presets_after`), so none that fails one does. -/
theorem bootReadEntersJoining : Obligations.BootReadEntersJoining := by
  refine ⟨?entry, ?good, ?codes, ?presets⟩
  case entry =>
    intro s image hpart hquiet
    obtain ⟨-, hstore, harbiter, hresolver, hpending, houtput, hcue, hhandler, hrequester, hresponder, hgate, hevents, -⟩ :=
      hquiet (by simp [State.up, hpart])
    have hexec : exec (.bootReadEnd image) s = .next (enterJoining (takeConfig image s)) := by
      show execBootReadEnd image s = _
      rw [execBootReadEnd, if_pos hpart]
    have hconfig : ((takeConfig image s).config, (takeConfig image s).configSource) =
        (match readImage s.station image with
         | none => (Config.default, .defaults)
         | some c => (c, .boot)) := by
      cases h : readImage s.station image <;> simp [takeConfig, h]
    have hready : ∀ c src, enterJoining { s with config := c, configSource := src } = _ := fun c src =>
      enterJoining_quiet (s := { s with config := c, configSource := src }) harbiter hresolver
    rw [takeConfig_frame, hready] at hexec
    refine ⟨_, hexec, hconfig, rfl, rfl, rfl, fun hon => if_pos hon, by rw [hevents]; rfl, rfl, rfl, houtput, rfl, rfl,
      rfl, rfl, by rw [hcue]; rfl, ?_, ?_, ?_, rfl, rfl, rfl, rfl, rfl, rfl, rfl, rfl⟩
    all_goals simp [State.gatePin, State.tallyPin, State.amarkPin, outputLevel, State.up, hgate, GateUnit.reset]
  case good =>
    intro own b rest presets body hb height hgood hbody hreport hpartner htransport hrecorder hrate hcadence hrange hcurve
      htally hamark
    subst hbody
    rw [readImage_laid rest (lengthOk_presets hb height fun ks hks => (hgood ks hks).1)]
    have hcodes : CodesOk b := ⟨hreport, hpartner, htransport, hrecorder, hrate, hcadence, hrange, hcurve, htally, hamark⟩
    exact ⟨_, configOf_laid hb hcodes (bodyPresets_good hb height hgood), fun n hn => groups_bit (by omega) hn, rfl, rfl,
      rfl, rfl, rfl, rfl, rfl, rfl, rfl, fun f => isIn_maskAt f b 37, fun f => isIn_maskAt f b 39, rfl, rfl, rfl, rfl,
      rfl, rfl, rfl, rfl, rfl, rfl, by simp only [laidConfig, ← clampKnot_eq]⟩
  case codes =>
    intro own image body hbody hfault
    refine Option.eq_none_iff_forall_ne_some.2 fun c hc => ?_
    obtain ⟨hmarker, hlength, -, hcrc, hconfig⟩ := readImage_eq_some.1 hc
    rw [hbody] at hconfig
    obtain ⟨⟨hreport, hpartner, htransport, hrecorder, hrate, hcadence, hrange, hcurve, htally, hamark⟩, -⟩ :=
      codesOk_of_configOf hconfig
    simp only [lengthOk, Bool.and_eq_true, decide_eq_true_eq] at hlength
    obtain hfault | hfault := hfault
    · exact hfault hmarker
    · omega
  case presets =>
    intro own image b after presets hb hpresets hbody hfault
    refine Option.eq_none_iff_forall_ne_some.2 fun c hc => ?_
    obtain ⟨-, -, -, -, hconfig⟩ := readImage_eq_some.1 hc
    rw [hbody] at hconfig
    obtain ⟨-, l, hl⟩ := codesOk_of_configOf hconfig
    obtain ⟨hnext, hend⟩ := presets_after hb
      (fun ks hks => ⟨by have := hpresets ks hks; omega, (hpresets ks hks).2.2⟩) hl
    obtain ⟨hfew, hbad⟩ | ⟨hall, hmore⟩ := hfault
    · obtain ⟨hsound, hroom⟩ := hnext hfew
      obtain ⟨hmin, hmax, hrise, hx⟩ := knotsFault_knotsAt hsound
      obtain hcount | hcount | hshort | ⟨i, hi, hfall⟩ | ⟨i, hi, hwide⟩ := hbad
      · omega
      · omega
      · omega
      · have := hrise i hi
        have hplace : 1 + 3 * (i + 1) = 4 + 3 * i := by omega
        rw [hplace] at this
        omega
      · have := hx i hi
        omega
    · exact hmore (hend hall)

end Sys2Proof.Machine
end

section
/-! PROOF. Quiet line: the receiver's start and the entry to RUNNING (R103, R188, R189). -/

namespace Sys2Proof.Machine

/-- A fetch whose LIST_QUERY finds a shared place (R139). -/
theorem startFetch_room {s : State} (station : Byte) (first last : Nat) (h : s.sharedTaken < 5) :
    startFetch station first last s = { s with
      requester := ⟨true, .noResult, some station, s.requester.tag + 1, first, last, 0, 0, 0, 0, 0, 0, true⟩,
      cue := { s.cue with txq := s.cue.txq ++ [⟨station, .listQuery (s.requester.tag + 1) first last⟩] } } := by
  exact congrArg Prod.fst (handShared_room { s with
    requester := ⟨true, .noResult, some station, s.requester.tag + 1, first, last, 0, 0, 0, 0, 0, 0, true⟩ } _ h)

/-- The auto-fetch at the entry to RUNNING, where a shared place is free (R189). -/
theorem autoFetch_room {s : State} (h : s.sharedTaken < 5) :
    autoFetch s = match s.partner with
      | none => s
      | some p => if s.config.autoFetchStart = true ∧ s.requester.fetching = false then { s with
            requester := ⟨true, .noResult, some p, s.requester.tag + 1, 0, maxFrame, 0, 0, 0, 0, 0, 0, true⟩,
            cue := { s.cue with txq := s.cue.txq ++ [⟨p, .listQuery (s.requester.tag + 1) 0 maxFrame⟩] } }
          else s := by
  unfold autoFetch
  cases s.partner with
  | none => rfl
  | some p => simp [startFetch_room p 0 maxFrame h]

/-- Settles O19: each expiry is its guard, and the auto-fetch adds a fetch and its LIST_QUERY (`autoFetch_room`). -/
theorem quietLineStartsAndRuns : Obligations.QuietLineStartsAndRuns := by
  refine ⟨?receiver, ?running⟩
  case receiver =>
    intro s waited hup hoff hrun hquiet
    show execReceiverStart waited s = _
    simp [execReceiverStart, hup, hoff, hrun, State.quiet, hquiet]
  case running =>
    intro s waited hpart hrun hroom hquiet
    have hbits : s.config.bitRate.quietBits ≤ s.cue.idle.bits + waited := by
      unfold BitRate.quietBits
      split <;> simp_all
    let u : State := { s with
      part := .running, cue.receiverOn := true, cue.idle := ⟨true, s.cue.idle.bits + waited⟩, cue.yieldMark := false }
    have hexec : exec (.joiningQuietExpiry waited) s = .next (autoFetch u) := by
      show execJoiningQuietExpiry waited s = _
      simp [execJoiningQuietExpiry, hpart, hrun, hbits, u]
    rw [autoFetch_room (s := u) hroom] at hexec
    have hpartner : u.partner = s.partner := rfl
    rw [hpartner] at hexec
    cases hp : s.partner with
    | none =>
      rw [hp] at hexec
      exact ⟨_, hexec, rfl, rfl, rfl, rfl, rfl, rfl, rfl⟩
    | some p =>
      rw [hp] at hexec
      refine ⟨_, hexec, ?_⟩
      by_cases hfetch : s.config.autoFetchStart = true ∧ s.requester.fetching = false
      · simp [u, hfetch]
      · simp only [u, if_neg hfetch, and_self]

end Sys2Proof.Machine
end

section
/-! PROOF. What the operations of the film unit do: the abort, the cadence check, the step of the gate, an applied POSITION
(R1, R6 to R13, R161). -/

namespace Sys2Proof.Machine

variable (s : State)

/-! ### The abort of a punch (R161) -/

theorem abortPunch_gate_eq :
    (abortPunch s).gate = if s.gate.punch.state = .recording then s.abortedGate else s.gate := by
  by_cases h : s.gate.punch.state = .recording
  · rw [if_pos h, abortPunch_gate_of_recording h]; rfl
  · rw [if_neg h, abortPunch_other s h]

theorem abortPunch_keeps (g : EventFlag) (h : g.isIn s.events.flags = true) :
    g.isIn (abortPunch s).events.flags = true := by
  unfold abortPunch
  split
  · exact raise_keeps _ _ g h
  · exact h

theorem abortPunch_not_recording : (abortPunch s).gate.punch.state ≠ .recording := by
  rw [abortPunch_gate_eq]
  split
  · simp [State.abortedGate]
  · assumption

/-! ### The cadence check (R13) -/

theorem cadenceCheck_free (h : s.pcu.cadenceState = .free) : cadenceCheck s = s := by
  simp only [cadenceCheck, h]

/-- The count of fields a LOCKED cadence expects (R13). -/
theorem expectedFields_eq : ∀ (mode : CadenceMode) (p : Option (BitVec 2)), expectedFields mode p =
    (match mode, p with
     | .pulldown, some 1 => 3
     | .pulldown, some 3 => 3
     | _, _ => 2) := by
  intro mode p
  cases mode
  case unity => cases p <;> rfl
  case pulldown =>
    cases p
    case none => rfl
    case some p => revert p; decide

theorem cadenceCheck_pcu_locked (h : s.pcu.cadenceState = .locked) : (cadenceCheck s).pcu =
    if s.pcu.fieldsInFrame = expectedFields s.config.cadenceMode s.pcu.cadencePhase then
      { s.pcu with cadencePhase := advancedPhase s.config.cadenceMode s.pcu.direction s.pcu.cadencePhase }
    else { s.pcu with
      cadenceState := .broken, cadencePhase := advancedPhase s.config.cadenceMode s.pcu.direction s.pcu.cadencePhase,
      breaks := satInc s.pcu.breaks } := by
  simp only [cadenceCheck, h]
  split
  · rfl
  · rw [raise_pcu]

theorem cadenceCheck_isIn (hup : s.up = true) (h : s.pcu.cadenceState = .locked)
    (hn : s.pcu.fieldsInFrame ≠ expectedFields s.config.cadenceMode s.pcu.cadencePhase) :
    EventFlag.cadenceBreak.isIn (cadenceCheck s).events.flags = true := by
  simp only [cadenceCheck, h, if_neg hn]
  exact raise_isIn _ _ hup

theorem cadenceCheck_pcu_broken (h : s.pcu.cadenceState = .broken) : (cadenceCheck s).pcu =
    match s.config.cadenceMode with
    | .pulldown => { s.pcu with cadencePhase := advancedPhase .pulldown s.pcu.direction s.pcu.cadencePhase }
    | .unity => { s.pcu with cadenceState := if s.pcu.fieldsInFrame = 2 then .locked else .broken } := by
  cases hm : s.config.cadenceMode
  case pulldown => simp only [cadenceCheck, h, hm]
  case unity =>
    simp only [cadenceCheck, h, hm]
    split
    · rfl
    · rw [← h]

theorem cadenceCheck_keeps (g : EventFlag) (h : g.isIn s.events.flags = true) :
    g.isIn (cadenceCheck s).events.flags = true := by
  unfold cadenceCheck
  dsimp only
  split
  · exact h
  · split
    · exact h
    · exact raise_keeps _ _ g h
  · split
    · exact h
    · split <;> exact h

/-- The check writes the cadence alone. -/
theorem cadenceCheck_pcu : (cadenceCheck s).pcu = { s.pcu with
    cadenceState := (cadenceCheck s).pcu.cadenceState, cadencePhase := (cadenceCheck s).pcu.cadencePhase,
    breaks := (cadenceCheck s).pcu.breaks } := by
  cases h : s.pcu.cadenceState
  case free => rw [cadenceCheck_free s h]
  case locked => rw [cadenceCheck_pcu_locked s h]; split <;> rfl
  case broken => rw [cadenceCheck_pcu_broken s h]; split <;> rfl

/-! ### Slips and the speed class (R8, R9, R11, R12) -/

theorem slip_pcu : (slip s).pcu = { s.pcu with positionState := .suspect, slips := satInc s.pcu.slips } := raise_pcu _ _

theorem slip_isIn (hup : s.up = true) : EventFlag.positionSlip.isIn (slip s).events.flags = true := raise_isIn _ _ hup

/-- The cadence a POSITION of this speed class and phase sets (R12). -/
def State.followedCadence (speed : SpeedClass) (phase : Option (BitVec 2)) : CadenceState × Option (BitVec 2) :=
  cadenceOf s.config.cadenceMode speed (usedPhase s.config.cadenceMode speed phase) (s.pcu.cadenceState, s.pcu.cadencePhase)

theorem followPosition_pcu (speed : SpeedClass) (phase : Option (BitVec 2)) : (followPosition speed phase s).pcu =
    { s.pcu with
      speedClass := speed, cadenceState := (s.followedCadence speed phase).1,
      cadencePhase := (s.followedCadence speed phase).2 } := by
  unfold followPosition
  dsimp only
  split
  · rfl
  · rw [abortPunch_pcu]; rfl

theorem followPosition_gate (speed : SpeedClass) (phase : Option (BitVec 2)) : (followPosition speed phase s).gate =
    if speed ≠ .sound ∧ s.gate.punch.state = .recording then s.abortedGate else s.gate := by
  unfold followPosition
  dsimp only
  split
  · next h => rw [if_neg (fun hn => hn.1 h)]
  · next h => rw [abortPunch_gate_eq]; simp [h, State.abortedGate]

theorem followPosition_keeps (speed : SpeedClass) (phase : Option (BitVec 2)) (g : EventFlag)
    (h : g.isIn s.events.flags = true) : g.isIn (followPosition speed phase s).events.flags = true := by
  unfold followPosition
  dsimp only
  split
  · exact h
  · exact abortPunch_keeps _ g h

theorem followedCadence_not_sound {speed : SpeedClass} (phase : Option (BitVec 2)) (h : speed ≠ .sound) :
    s.followedCadence speed phase = (.free, none) := by
  cases speed
  case sound => exact absurd rfl h
  all_goals rfl

/-- The position state after a comparison with the part's own frame (R7 to R9). -/
def settle (agrees : Bool) (s : State) : State :=
  if agrees then { s with pcu.positionState := .placed } else slip s

theorem settle_pcu (agrees : Bool) : (settle agrees s).pcu = { s.pcu with
    positionState := if agrees then .placed else .suspect,
    slips := if agrees then s.pcu.slips else satInc s.pcu.slips } := by
  cases agrees
  · exact slip_pcu s
  · rfl

theorem settle_isIn (hup : s.up = true) : EventFlag.positionSlip.isIn (settle false s).events.flags = true :=
  slip_isIn s hup

theorem settle_config (agrees : Bool) : (settle agrees s).config = s.config := by
  cases agrees
  · exact slip_config s
  · rfl

theorem settle_gate (agrees : Bool) : (settle agrees s).gate = s.gate := by
  cases agrees
  · exact slip_gate s
  · rfl

/-! ### The pulse (R1) -/

/-- The state at the cadence check of a pulse: the pulse counted, the direction sampled, and at REV the punch aborted. -/
def State.pulsed (dirHigh : Bool) : State :=
  if dirHigh then { s with pcu := { s.pcu with pulseSeq := s.pcu.pulseSeq + 1, direction := .fwd } }
  else abortPunch { s with pcu := { s.pcu with pulseSeq := s.pcu.pulseSeq + 1, direction := .rev } }

/-- The state at the step of the gate: the cadence checked and the fields of the frame counted anew. -/
def State.checked (dirHigh : Bool) : State :=
  { cadenceCheck (s.pulsed dirHigh) with pcu := { (cadenceCheck (s.pulsed dirHigh)).pcu with fieldsInFrame := 0 } }

theorem framePulse_eq (dirHigh : Bool) : framePulse dirHigh s = trigger (moveGate (s.checked dirHigh)) := by
  cases dirHigh <;> rfl

theorem pulsed_pcu (dirHigh : Bool) : (s.pulsed dirHigh).pcu =
    { s.pcu with pulseSeq := s.pcu.pulseSeq + 1, direction := if dirHigh then .fwd else .rev } := by
  cases dirHigh
  · exact abortPunch_pcu _
  · rfl

theorem pulsed_config (dirHigh : Bool) : (s.pulsed dirHigh).config = s.config := by
  cases dirHigh
  · exact abortPunch_config _
  · rfl

theorem pulsed_gate (dirHigh : Bool) : (s.pulsed dirHigh).gate =
    if dirHigh = false ∧ s.gate.punch.state = .recording then s.abortedGate else s.gate := by
  cases dirHigh
  · rw [State.pulsed, if_neg (by decide), abortPunch_gate_eq]; simp [State.abortedGate]
  · simp [State.pulsed]

theorem pulsed_isIn (hup : s.up = true) (h : s.gate.punch.state = .recording) :
    EventFlag.punchEvent.isIn (s.pulsed false).events.flags = true :=
  abortPunch_flags_of_recording (s := { s with pcu := _ }) hup h

theorem pulsed_film (dirHigh : Bool) : FilmWork s (s.pulsed dirHigh) := by
  cases dirHigh
  · exact (FilmWork.ofPcu s _).trans (.abortPunch _)
  · exact .ofPcu s _

theorem checked_film (dirHigh : Bool) : FilmWork s (s.checked dirHigh) :=
  ((pulsed_film s dirHigh).trans (.cadenceCheck _)).trans (.ofPcu _ _)

theorem checked_config (dirHigh : Bool) : (s.checked dirHigh).config = s.config := (checked_film s dirHigh).config

theorem checked_gate (dirHigh : Bool) : (s.checked dirHigh).gate =
    if dirHigh = false ∧ s.gate.punch.state = .recording then s.abortedGate else s.gate :=
  (cadenceCheck_gate _).trans (pulsed_gate s dirHigh)

/-- Up to the step of the gate a pulse has written its count, the direction, the fields and the cadence. -/
theorem checked_pcu (dirHigh : Bool) : (s.checked dirHigh).pcu = { s.pcu with
    pulseSeq := s.pcu.pulseSeq + 1, direction := if dirHigh then .fwd else .rev, fieldsInFrame := 0,
    cadenceState := (s.checked dirHigh).pcu.cadenceState, cadencePhase := (s.checked dirHigh).pcu.cadencePhase,
    breaks := (s.checked dirHigh).pcu.breaks } := by
  have h := cadenceCheck_pcu (s.pulsed dirHigh)
  rw [pulsed_pcu] at h
  show { (cadenceCheck (s.pulsed dirHigh)).pcu with fieldsInFrame := 0 } = _
  rw [h]
  rfl

theorem checked_up (hup : s.up = true) (dirHigh : Bool) : (s.checked dirHigh).up = true :=
  (checked_film s dirHigh).up.trans hup

theorem checked_arbiter (dirHigh : Bool) : (s.checked dirHigh).arbiter = s.arbiter := by
  cases dirHigh <;> simp [State.checked, State.pulsed]

theorem checked_resolver (dirHigh : Bool) : (s.checked dirHigh).resolver = s.resolver := by
  cases dirHigh <;> simp [State.checked, State.pulsed]

theorem checked_handler (dirHigh : Bool) : (s.checked dirHigh).handler = s.handler := by
  cases dirHigh <;> simp [State.checked, State.pulsed]

theorem checked_keeps (dirHigh : Bool) (g : EventFlag) (h : g.isIn (s.pulsed dirHigh).events.flags = true) :
    g.isIn (s.checked dirHigh).events.flags = true := cadenceCheck_keeps _ g h

/-- The cadence after the check of a pulse (R13). -/
theorem checked_free (dirHigh : Bool) (h : s.pcu.cadenceState = .free) :
    (s.checked dirHigh).pcu.cadenceState = .free ∧ (s.checked dirHigh).pcu.cadencePhase = s.pcu.cadencePhase
      ∧ (s.checked dirHigh).pcu.breaks = s.pcu.breaks := by
  have hfree : (s.pulsed dirHigh).pcu.cadenceState = .free := by rw [pulsed_pcu]; exact h
  simp [State.checked, cadenceCheck_free _ hfree, pulsed_pcu, h]

theorem checked_locked (dirHigh : Bool) (h : s.pcu.cadenceState = .locked) :
    (s.checked dirHigh).pcu.cadencePhase
        = advancedPhase s.config.cadenceMode (if dirHigh then .fwd else .rev) s.pcu.cadencePhase
      ∧ if s.pcu.fieldsInFrame = expectedFields s.config.cadenceMode s.pcu.cadencePhase then
          (s.checked dirHigh).pcu.cadenceState = .locked ∧ (s.checked dirHigh).pcu.breaks = s.pcu.breaks
        else (s.checked dirHigh).pcu.cadenceState = .broken
          ∧ (s.checked dirHigh).pcu.breaks = min (s.pcu.breaks + 1) 65535
          ∧ (s.up = true → EventFlag.cadenceBreak.isIn (s.checked dirHigh).events.flags = true) := by
  have hlocked : (s.pulsed dirHigh).pcu.cadenceState = .locked := by rw [pulsed_pcu]; exact h
  have hpcu := cadenceCheck_pcu_locked _ hlocked
  have hflag := fun hup => cadenceCheck_isIn (s.pulsed dirHigh) ((pulsed_film s dirHigh).up.trans hup) hlocked
  simp only [pulsed_pcu, pulsed_config] at hpcu hflag
  show (cadenceCheck (s.pulsed dirHigh)).pcu.cadencePhase = _ ∧ if _ then (cadenceCheck (s.pulsed dirHigh)).pcu.cadenceState
    = _ ∧ (cadenceCheck (s.pulsed dirHigh)).pcu.breaks = _ else (cadenceCheck (s.pulsed dirHigh)).pcu.cadenceState = _
    ∧ (cadenceCheck (s.pulsed dirHigh)).pcu.breaks = _ ∧ _
  rw [hpcu]
  split
  · exact ⟨rfl, h, rfl⟩
  · next hn => exact ⟨rfl, rfl, satInc_eq_min _, fun hup => hflag hup hn⟩

theorem checked_broken (dirHigh : Bool) (h : s.pcu.cadenceState = .broken) :
    (s.checked dirHigh).pcu.cadencePhase
        = advancedPhase s.config.cadenceMode (if dirHigh then .fwd else .rev) s.pcu.cadencePhase
      ∧ (s.checked dirHigh).pcu.cadenceState
        = (if s.config.cadenceMode = .unity ∧ s.pcu.fieldsInFrame = 2 then .locked else .broken)
      ∧ (s.checked dirHigh).pcu.breaks = s.pcu.breaks := by
  have hbroken : (s.pulsed dirHigh).pcu.cadenceState = .broken := by rw [pulsed_pcu]; exact h
  have hpcu := cadenceCheck_pcu_broken _ hbroken
  simp only [pulsed_pcu, pulsed_config] at hpcu
  show (cadenceCheck (s.pulsed dirHigh)).pcu.cadencePhase = _ ∧ (cadenceCheck (s.pulsed dirHigh)).pcu.cadenceState = _
    ∧ (cadenceCheck (s.pulsed dirHigh)).pcu.breaks = _
  rw [hpcu]
  cases s.config.cadenceMode <;> simp [advancedPhase, h]

/-! ### The step of the gate (R2, R9) -/

theorem moveGate_plain (h : ∀ held ∈ s.pcu.held, held.seq ≠ s.pcu.pulseSeq) : moveGate s = { s with pcu := { s.pcu with
    gateFrame := (stepFrame s.pcu.direction s.pcu.gateFrame).1,
    rangeClamp := (stepFrame s.pcu.direction s.pcu.gateFrame).2 } } := by
  unfold moveGate
  dsimp only
  split
  · rfl
  · next held hheld => rw [if_neg (h held hheld)]

theorem moveGate_held {held : HeldPosition} (h : s.pcu.held = some held) (hseq : held.seq = s.pcu.pulseSeq) :
    moveGate s = applyHeld held s := by
  simp only [moveGate, h, if_pos hseq]

theorem stepFrame_pulse (dirHigh : Bool) (f : Nat) : stepFrame (if dirHigh then .fwd else .rev) f
    = (if dirHigh then min (f + 1) 1048575 else f - 1,
       if dirHigh then decide (1048575 ≤ f) else decide (f = 0)) := by
  cases dirHigh
  · exact stepFrame_rev f
  · exact stepFrame_fwd f

end Sys2Proof.Machine
end

section
/-! PROOF. The frame pulse (R1, R2, R9, R12, R13). -/

namespace Sys2Proof.Machine

theorem exec_frmPulse {s : State} (dirHigh : Bool) (h : s.part ≠ .reset) :
    exec (.frmPulse dirHigh) s = .next (framePulse dirHigh s) := if_neg h

/-- The work of the film unit leaves all but the film, the punch, the reports and the request, where no message is
counted as ignored. -/
theorem FilmWork.frame {s t : State} (h : FilmWork s t) (hhandler : t.handler = s.handler) : t = { s with
    pcu := t.pcu, events := { s.events with flags := t.events.flags }, gate := t.gate,
    cue := { s.cue with txq := t.cue.txq }, arbiter := t.arbiter, resolver := t.resolver } := by
  apply State.ext
  case handler => exact hhandler
  case part => exact h.part
  case address => exact h.address
  case config => exact h.config
  case configSource => exact h.configSource
  case store => exact h.store
  case pipeline => exact h.pipeline
  case requester => exact h.requester
  case responder => exact h.responder
  case pending => exact h.pending
  case cue => exact h.cue
  case events => exact h.events
  all_goals rfl

/-- Whatever the gate does at a pulse, a resolution is asked for at the end. -/
theorem framePulse_asks (dirHigh : Bool) {s : State} (hup : s.up = true) :
    framePulse dirHigh s = { s with
        pcu := (framePulse dirHigh s).pcu,
        events := { s.events with flags := (framePulse dirHigh s).events.flags }, gate := (framePulse dirHigh s).gate,
        cue := { s.cue with txq := (framePulse dirHigh s).cue.txq }, arbiter := (framePulse dirHigh s).arbiter,
        resolver := (framePulse dirHigh s).resolver }
      ∧ s.resolutionAsked (framePulse dirHigh s) := by
  refine ⟨(FilmWork.framePulse dirHigh s).frame (by simp [framePulse_eq, checked_handler]), ?_⟩
  rw [framePulse_eq]
  have hfilm : FilmWork s (moveGate (s.checked dirHigh)) := (checked_film s dirHigh).trans (.moveGate _)
  exact resolutionAsked_trigger s _ (hfilm.up.trans hup) (by simp [checked_resolver]) (by simp [checked_arbiter])

/-- A pulse with no held POSITION for it steps the gate. -/
theorem framePulse_plain (dirHigh : Bool) {s : State} (hheld : ∀ h ∈ s.pcu.held, h.seq ≠ s.pcu.pulseSeq + 1) :
    framePulse dirHigh s = trigger { s.checked dirHigh with pcu := { (s.checked dirHigh).pcu with
      gateFrame := if dirHigh then min (s.pcu.gateFrame + 1) 1048575 else s.pcu.gateFrame - 1,
      rangeClamp := if dirHigh then decide (1048575 ≤ s.pcu.gateFrame) else decide (s.pcu.gateFrame = 0) } } := by
  have hpcu := checked_pcu s dirHigh
  have hseq : (s.checked dirHigh).pcu.pulseSeq = s.pcu.pulseSeq + 1 := by rw [hpcu]
  have hslot : (s.checked dirHigh).pcu.held = s.pcu.held := by rw [hpcu]
  have hdir : (s.checked dirHigh).pcu.direction = if dirHigh then .fwd else .rev := by rw [hpcu]
  have hframe : (s.checked dirHigh).pcu.gateFrame = s.pcu.gateFrame := by rw [hpcu]
  rw [framePulse_eq, moveGate_plain _ (by rw [hslot, hseq]; exact hheld), hdir, hframe, stepFrame_pulse]

theorem framePulse_plain_pcu (dirHigh : Bool) {s : State} (hheld : ∀ h ∈ s.pcu.held, h.seq ≠ s.pcu.pulseSeq + 1) :
    (framePulse dirHigh s).pcu = { s.pcu with
      pulseSeq := s.pcu.pulseSeq + 1, direction := if dirHigh then .fwd else .rev, fieldsInFrame := 0,
      gateFrame := if dirHigh then min (s.pcu.gateFrame + 1) 1048575 else s.pcu.gateFrame - 1,
      rangeClamp := if dirHigh then decide (1048575 ≤ s.pcu.gateFrame) else decide (s.pcu.gateFrame = 0),
      cadenceState := (s.checked dirHigh).pcu.cadenceState, cadencePhase := (s.checked dirHigh).pcu.cadencePhase,
      breaks := (s.checked dirHigh).pcu.breaks } := by
  rw [framePulse_plain dirHigh hheld, trigger_pcu, checked_pcu]

theorem movePhase_one (dirHigh : Bool) (p : BitVec 2) :
    movePhase (if dirHigh then .fwd else .rev) 1 p = if dirHigh then p + 1 else p - 1 := by
  cases dirHigh <;> rfl

/-- Settles O20: up to the step of the gate a pulse has made the cadence check (`checked_free`, `checked_locked`,
`checked_broken`); the step is `framePulse_plain`, and the request `framePulse_asks`. -/
theorem framePulseStepsTheGate : Obligations.FramePulseStepsTheGate := by
  refine ⟨?gate, ?cadence, ?loading, ?reset⟩
  case gate =>
    intro s dirHigh hup hheld
    obtain ⟨hframe, hasked⟩ := framePulse_asks dirHigh hup
    have hpcu := framePulse_plain_pcu dirHigh hheld
    have hgate : (framePulse dirHigh s).gate =
        if dirHigh = false ∧ s.gate.punch.state = .recording then s.abortedGate else s.gate := by
      rw [framePulse_plain dirHigh hheld, trigger_gate, ← checked_gate]
    refine ⟨_, exec_frmPulse dirHigh (not_reset_of_up hup), hframe, ?_, hasked, fun h => ?_, fun hrec hrev => ⟨?_, ?_⟩⟩
    · rw [hpcu]
    · rw [hgate, if_neg]
      rintro ⟨hrev, hrec⟩
      simp [hrev, hrec] at h
    · rw [hgate, if_pos ⟨hrev, hrec⟩]
      rfl
    · subst hrev
      rw [framePulse_plain false hheld, trigger_events]
      exact checked_keeps s false _ (pulsed_isIn s hup hrec)
  case cadence =>
    intro s dirHigh hup hheld
    have hpcu := framePulse_plain_pcu dirHigh hheld
    have hflags : (framePulse dirHigh s).events = (s.checked dirHigh).events := by
      rw [framePulse_plain dirHigh hheld, trigger_events]
    refine ⟨_, exec_frmPulse dirHigh (not_reset_of_up hup), ?_⟩
    rw [hpcu, hflags]
    dsimp only
    cases hstate : s.pcu.cadenceState
    case free =>
      obtain ⟨hfree, hphase, hbreaks⟩ := checked_free s dirHigh hstate
      exact ⟨hphase, hfree, hbreaks⟩
    case locked =>
      obtain ⟨hphase, hcheck⟩ := checked_locked s dirHigh hstate
      simp only [expectedFields_eq, hup, forall_const] at hcheck
      refine ⟨?_, hcheck⟩
      rw [hphase]
      cases s.config.cadenceMode <;> cases s.pcu.cadencePhase <;> simp [advancedPhase, movePhase_one]
    case broken =>
      obtain ⟨hphase, hcheck, hbreaks⟩ := checked_broken s dirHigh hstate
      rw [hphase, hcheck, hbreaks]
      cases s.config.cadenceMode <;> cases s.pcu.cadencePhase <;> simp [advancedPhase, movePhase_one]
  case loading =>
    intro s dirHigh hpart hquiet
    obtain ⟨-, -, -, -, -, -, -, -, -, -, hgate, -, -, -, hheld, hfree, -⟩ := hquiet (by simp [State.up, hpart])
    rw [exec_frmPulse dirHigh (by simp [hpart]),
      framePulse_down dirHigh (by simp [State.up, hpart]) (by rw [hgate]; rfl) hfree hheld, stepFrame_pulse]
  case reset =>
    intro s dirHigh hpart
    exact if_pos hpart

end Sys2Proof.Machine
end

section
/-! PROOF. A POSITION, held and applied at its pulse or reconciled at once (R6 to R9, R11, R12, R192). -/

namespace Sys2Proof.Machine

variable (s : State)

/-- A POSITION adopted: the frame it gives, the position settled, the speed class and the cadence following. -/
def State.adopt (frame : Nat) (clamped agrees : Bool) (speed : SpeedClass) (phase : Option (BitVec 2)) : State :=
  followPosition speed phase (settle agrees { s with pcu := { s.pcu with
    gateFrame := frame, rangeClamp := clamped, held := none } })

theorem applyHeld_eq (h : HeldPosition) : applyHeld h s = s.adopt h.frame false
    (decide (s.pcu.positionState = .unplaced) || decide (h.frame = (stepFrame s.pcu.direction s.pcu.gateFrame).1))
    h.speed h.phase := rfl

section
variable (frame : Nat) (clamped agrees : Bool) (speed : SpeedClass) (phase : Option (BitVec 2))

theorem adopt_pcu : (s.adopt frame clamped agrees speed phase).pcu = { s.pcu with
    gateFrame := frame, rangeClamp := clamped, held := none,
    positionState := if agrees then .placed else .suspect,
    slips := if agrees then s.pcu.slips else satInc s.pcu.slips,
    speedClass := speed, cadenceState := (s.followedCadence speed phase).1,
    cadencePhase := (s.followedCadence speed phase).2 } := by
  rw [State.adopt, followPosition_pcu]
  simp only [State.followedCadence, settle_pcu, settle_config]

theorem adopt_gate : (s.adopt frame clamped agrees speed phase).gate =
    if speed ≠ .sound ∧ s.gate.punch.state = .recording then s.abortedGate else s.gate := by
  rw [State.adopt, followPosition_gate]
  simp [State.abortedGate, settle_gate, settle_pcu]

theorem adopt_isIn (hup : s.up = true) :
    EventFlag.positionSlip.isIn (s.adopt frame clamped false speed phase).events.flags = true :=
  followPosition_keeps _ _ _ _ (settle_isIn _ hup)

theorem adopt_film : FilmWork s (s.adopt frame clamped agrees speed phase) := by
  refine FilmWork.trans ?_ (.followPosition _ _ _)
  cases agrees
  · exact (FilmWork.ofPcu s _).trans (.slip _)
  · exact .ofPcu s _

theorem adopt_arbiter : (s.adopt frame clamped agrees speed phase).arbiter = s.arbiter := by
  cases agrees <;> simp [State.adopt, settle]

theorem adopt_resolver : (s.adopt frame clamped agrees speed phase).resolver = s.resolver := by
  cases agrees <;> simp [State.adopt, settle]

theorem adopt_handler : (s.adopt frame clamped agrees speed phase).handler = s.handler := by
  cases agrees <;> simp [State.adopt, settle]

end

/-! ### The cadence a POSITION sets (R12) -/

theorem followedCadence_pulldown_phase (h : s.config.cadenceMode = .pulldown) (p : BitVec 2) :
    s.followedCadence .sound (some p) = (.locked, some p) := by
  simp [State.followedCadence, cadenceOf, usedPhase, h]

theorem followedCadence_pulldown_none (h : s.config.cadenceMode = .pulldown) :
    s.followedCadence .sound none = if s.pcu.cadenceState = .free then (.broken, none)
      else (s.pcu.cadenceState, s.pcu.cadencePhase) := by
  simp [State.followedCadence, cadenceOf, usedPhase, h]

theorem followedCadence_unity (h : s.config.cadenceMode = .unity) (phase : Option (BitVec 2)) :
    s.followedCadence .sound phase = if s.pcu.cadenceState = .free then (.locked, none)
      else (s.pcu.cadenceState, s.pcu.cadencePhase) := by
  simp [State.followedCadence, cadenceOf, h]

/-! ### The held POSITION (R9) -/

/-- A pulse with a held POSITION for it adopts its frame. -/
theorem framePulse_held (dirHigh : Bool) {h : HeldPosition} (hheld : s.pcu.held = some h)
    (hseq : h.seq = s.pcu.pulseSeq + 1) : framePulse dirHigh s = trigger ((s.checked dirHigh).adopt h.frame false
      (decide (s.pcu.positionState = .unplaced)
        || decide (h.frame = if dirHigh then min (s.pcu.gateFrame + 1) 1048575 else s.pcu.gateFrame - 1))
      h.speed h.phase) := by
  have hpcu := checked_pcu s dirHigh
  have hcount : (s.checked dirHigh).pcu.pulseSeq = s.pcu.pulseSeq + 1 := by rw [hpcu]
  have hslot : (s.checked dirHigh).pcu.held = some h := by rw [hpcu]; exact hheld
  have hdir : (s.checked dirHigh).pcu.direction = if dirHigh then .fwd else .rev := by rw [hpcu]
  have hframe : (s.checked dirHigh).pcu.gateFrame = s.pcu.gateFrame := by rw [hpcu]
  have hplace : (s.checked dirHigh).pcu.positionState = s.pcu.positionState := by rw [hpcu]
  rw [framePulse_eq, moveGate_held _ hslot (hseq.trans hcount.symm), applyHeld_eq, hdir, hframe, hplace, stepFrame_pulse]

theorem advancedPhase_pulldown (dirHigh : Bool) (p : Option (BitVec 2)) :
    advancedPhase .pulldown (if dirHigh then .fwd else .rev) p = p.map (fun p => if dirHigh then p + 1 else p - 1) := by
  cases p
  · rfl
  · simp [advancedPhase, movePhase_one]

theorem expectedFields_pulldown : ∀ p : Option (BitVec 2), expectedFields .pulldown p =
    (match p with
     | some 1 => 3
     | some 3 => 3
     | _ => 2) := by
  intro p
  cases p
  case none => rfl
  case some p => revert p; decide

theorem checked_locked_state (dirHigh : Bool) (h : s.pcu.cadenceState = .locked) :
    (s.checked dirHigh).pcu.cadenceState
      = if s.pcu.fieldsInFrame = expectedFields s.config.cadenceMode s.pcu.cadencePhase then .locked else .broken := by
  obtain ⟨-, hcheck⟩ := checked_locked s dirHigh h
  split at hcheck
  · next hmeets => rw [if_pos hmeets]; exact hcheck.1
  · next hfails => rw [if_neg hfails]; exact hcheck.1

/-- At SOUND the cadence follows the message from where the check of the pulse left it (R12, R13). -/
theorem checked_followedCadence (dirHigh : Bool) : ∀ phase : Option (BitVec 2),
    (s.checked dirHigh).followedCadence .sound phase =
      (match s.config.cadenceMode, phase, s.pcu.cadenceState with
       | .pulldown, some p, _ => (.locked, some p)
       | .pulldown, none, .free => (.broken, none)
       | .pulldown, none, .broken => (.broken, s.pcu.cadencePhase.map (fun p => if dirHigh then p + 1 else p - 1))
       | .pulldown, none, .locked =>
         (if s.pcu.fieldsInFrame = (match s.pcu.cadencePhase with
            | some 1 => 3
            | some 3 => 3
            | _ => 2) then .locked else .broken,
          s.pcu.cadencePhase.map (fun p => if dirHigh then p + 1 else p - 1))
       | .unity, _, .free => (.locked, none)
       | .unity, _, .broken => (if s.pcu.fieldsInFrame = 2 then .locked else .broken, s.pcu.cadencePhase)
       | .unity, _, .locked => (if s.pcu.fieldsInFrame = 2 then .locked else .broken, s.pcu.cadencePhase)) := by
  intro phase
  have hconfig := checked_config s dirHigh
  have hnot_free (p : Prop) [Decidable p] : (if p then .locked else .broken) ≠ CadenceState.free := by
    split <;> simp
  cases hm : s.config.cadenceMode
  case unity =>
    rw [followedCadence_unity _ (by rw [hconfig, hm])]
    cases hstate : s.pcu.cadenceState
    case free => rw [if_pos (checked_free s dirHigh hstate).1]
    case locked =>
      rw [checked_locked_state s dirHigh hstate, (checked_locked s dirHigh hstate).1, hm, if_neg (hnot_free _)]
      rfl
    case broken =>
      obtain ⟨hphase, hcheck, -⟩ := checked_broken s dirHigh hstate
      rw [hphase, hcheck, hm, if_neg (hnot_free _)]
      simp [advancedPhase]
  case pulldown =>
    cases phase
    case some p => exact followedCadence_pulldown_phase _ (by rw [hconfig, hm]) p
    case none =>
      rw [followedCadence_pulldown_none _ (by rw [hconfig, hm])]
      cases hstate : s.pcu.cadenceState
      case free => rw [if_pos (checked_free s dirHigh hstate).1]
      case locked =>
        rw [checked_locked_state s dirHigh hstate, (checked_locked s dirHigh hstate).1, hm, advancedPhase_pulldown,
          if_neg (hnot_free _), expectedFields_pulldown]
      case broken =>
        obtain ⟨hphase, hcheck, -⟩ := checked_broken s dirHigh hstate
        rw [hphase, hcheck, hm, if_neg (hnot_free _), advancedPhase_pulldown]
        rfl

/-- Settles O21: the pulse adopts the held frame (`framePulse_held`); what the check of the pulse left of the cadence is
followed from there (`checked_followedCadence`). -/
theorem heldPositionAppliedAtItsPulse : Obligations.HeldPositionAppliedAtItsPulse := by
  intro s dirHigh h hup hheld hseq
  obtain ⟨hframe, hasked⟩ := framePulse_asks dirHigh hup
  have hpulse := framePulse_held s dirHigh hheld hseq
  have hpcu := congrArg State.pcu hpulse
  have hgate := congrArg State.gate hpulse
  rw [trigger_pcu, adopt_pcu, checked_pcu] at hpcu
  rw [trigger_gate, adopt_gate, checked_gate] at hgate
  have hstopped : dirHigh = false ∨ h.speed ≠ .sound → (framePulse dirHigh s).gate.punch.state ≠ .recording := by
    rw [hgate]
    intro hstops
    by_cases hrec : s.gate.punch.state = .recording
    · cases dirHigh
      · simp [hrec, State.abortedGate]
      · have hspeed : h.speed ≠ .sound := by simpa using hstops
        simp [hrec, hspeed, State.abortedGate]
    · simp [hrec]
  refine ⟨_, exec_frmPulse dirHigh (not_reset_of_up hup), hframe, ?_, hasked, ?fwd, ?rev, ?settled, ?free, ?sound⟩
  case fwd =>
    intro hfwd hsound
    subst hfwd
    rw [hgate, hsound]
    simp
  case rev => exact fun hrev => hstopped (.inl hrev)
  case settled =>
    rw [hpcu]
    dsimp only
    generalize (if dirHigh = true then min (s.pcu.gateFrame + 1) 1048575 else s.pcu.gateFrame - 1) = stepped at hpulse ⊢
    split
    · next hagrees => simp [hagrees]
    · next hdiffers =>
      have hslips : (decide (s.pcu.positionState = .unplaced) || decide (h.frame = stepped)) = false := by
        simpa using hdiffers
      rw [hslips] at hpulse ⊢
      refine ⟨rfl, satInc_eq_min _, ?_⟩
      rw [hpulse, trigger_events]
      exact adopt_isIn _ _ _ _ _ (checked_up s hup dirHigh)
  case free =>
    intro hspeed
    rw [hpcu, followedCadence_not_sound _ _ hspeed]
    exact ⟨rfl, rfl, hstopped (.inr hspeed)⟩
  case sound =>
    intro hspeed
    rw [hpcu, hspeed]
    exact checked_followedCadence s dirHigh h.phase
  · rw [hpcu, hseq]

/-! ### A POSITION reconciled (R6 to R8) -/

theorem project_eq (dir : Direction) (d f : Nat) : project dir d f =
    (match dir with
      | .fwd => min (f + d) 1048575
      | .rev => f - d,
     match dir with
      | .fwd => decide (1048575 < f + d)
      | .rev => decide (f < d)) := by
  cases dir
  case fwd =>
    have hmax : maxFrame = 1048575 := rfl
    unfold project
    dsimp only
    split <;> simp <;> omega
  case rev =>
    unfold project
    dsimp only
    split <;> simp <;> omega

/-- The frame a reconciled POSITION gives, and whether its projection was clamped (R2, R6, R7). -/
def State.target (h : HeldPosition) (d : Nat) : Nat × Bool :=
  if d ≤ 4 then project s.pcu.direction d h.frame else (h.frame, false)

theorem reconcile_eq (h : HeldPosition) (d : Nat) : reconcile h d s =
    triggerIf (decide ((s.target h d).1 ≠ s.pcu.gateFrame)) (s.adopt (s.target h d).1 (s.target h d).2
      (decide (s.pcu.positionState = .unplaced) || (decide (d ≤ 4) && decide ((s.target h d).1 = s.pcu.gateFrame)))
      h.speed (if d ≤ 4 then h.phase.map (movePhase s.pcu.direction d) else h.phase)) := by
  simp only [reconcile, State.target, State.adopt, settle, decide_eq_true_eq]
  rfl

theorem target_eq (h : HeldPosition) (d : Nat) : s.target h d =
    (if 4 < d then h.frame
      else match s.pcu.direction with
        | .fwd => min (h.frame + d) 1048575
        | .rev => h.frame - d,
     if 4 < d then false
      else match s.pcu.direction with
        | .fwd => decide (1048575 < h.frame + d)
        | .rev => decide (h.frame < d)) := by
  unfold State.target
  by_cases hd : d ≤ 4
  · rw [if_pos hd, if_neg (Nat.not_lt.2 hd), if_neg (Nat.not_lt.2 hd), project_eq]
  · rw [if_neg hd, if_pos (Nat.lt_of_not_le hd), if_pos (Nat.lt_of_not_le hd)]

/-- The phase a reconciled POSITION is taken with: projected as its frame was (R6, R7). -/
def State.targetPhase (h : HeldPosition) (d : Nat) : Option (BitVec 2) :=
  if d ≤ 4 then h.phase.map (movePhase s.pcu.direction d) else h.phase

/-- At SOUND the cadence follows the message with its phase projected (R6, R12). -/
theorem followedCadence_target (h : HeldPosition) (d : Nat) : s.followedCadence .sound (s.targetPhase h d) =
    (match s.config.cadenceMode, h.phase, s.pcu.cadenceState with
     | .pulldown, some p, _ =>
       (.locked, some (if 4 < d then p
         else match s.pcu.direction with
           | .fwd => p + BitVec.ofNat 2 d
           | .rev => p - BitVec.ofNat 2 d))
     | .pulldown, none, .free => (.broken, none)
     | .unity, _, .free => (.locked, none)
     | _, _, st => (st, s.pcu.cadencePhase)) := by
  cases hm : s.config.cadenceMode
  case unity =>
    rw [followedCadence_unity _ hm]
    cases s.pcu.cadenceState <;> rfl
  case pulldown =>
    cases hp : h.phase
    case none =>
      have hnone : s.targetPhase h d = none := by simp [State.targetPhase, hp]
      rw [hnone, followedCadence_pulldown_none _ hm]
      cases s.pcu.cadenceState <;> rfl
    case some p =>
      have hsome : s.targetPhase h d = some (if 4 < d then p else movePhase s.pcu.direction d p) := by
        by_cases hd : d ≤ 4
        · rw [State.targetPhase, if_pos hd, if_neg (Nat.not_lt.2 hd), hp]; rfl
        · rw [State.targetPhase, if_neg hd, if_pos (Nat.lt_of_not_le hd), hp]
      rw [hsome, followedCadence_pulldown_phase _ hm]
      rfl

theorem reconcile_pcu (h : HeldPosition) (d : Nat) : (reconcile h d s).pcu = { s.pcu with
    gateFrame := (s.target h d).1, rangeClamp := (s.target h d).2, held := none,
    positionState := if s.pcu.positionState = .unplaced ∨ (d ≤ 4 ∧ (s.target h d).1 = s.pcu.gateFrame) then .placed
      else .suspect,
    slips := if s.pcu.positionState = .unplaced ∨ (d ≤ 4 ∧ (s.target h d).1 = s.pcu.gateFrame) then s.pcu.slips
      else satInc s.pcu.slips,
    speedClass := h.speed, cadenceState := (s.followedCadence h.speed (s.targetPhase h d)).1,
    cadencePhase := (s.followedCadence h.speed (s.targetPhase h d)).2 } := by
  rw [reconcile_eq, triggerIf_pcu, adopt_pcu]
  simp only [Bool.or_eq_true, Bool.and_eq_true, decide_eq_true_eq, State.targetPhase]

theorem reconcile_gate (h : HeldPosition) (d : Nat) : (reconcile h d s).gate =
    if h.speed ≠ .sound ∧ s.gate.punch.state = .recording then s.abortedGate else s.gate := by
  rw [reconcile_eq, triggerIf_gate, adopt_gate]

theorem reconcile_isIn (hup : s.up = true) (h : HeldPosition) (d : Nat)
    (hslips : ¬ (s.pcu.positionState = .unplaced ∨ (d ≤ 4 ∧ (s.target h d).1 = s.pcu.gateFrame))) :
    EventFlag.positionSlip.isIn (reconcile h d s).events.flags = true := by
  have hdiffers : (decide (s.pcu.positionState = .unplaced)
      || (decide (d ≤ 4) && decide ((s.target h d).1 = s.pcu.gateFrame))) = false := by simpa using hslips
  rw [reconcile_eq, triggerIf_events, hdiffers]
  exact adopt_isIn _ _ _ _ _ hup

variable {s} in
/-- A resolution is asked for where the frame has moved (R55). -/
theorem reconcile_asks (h : HeldPosition) (d : Nat) (hup : s.up = true) :
    ((s.target h d).1 ≠ s.pcu.gateFrame → s.resolutionAsked (reconcile h d s))
      ∧ ((s.target h d).1 = s.pcu.gateFrame → (reconcile h d s).resolver = s.resolver
        ∧ (reconcile h d s).arbiter = s.arbiter) := by
  rw [reconcile_eq]
  refine ⟨fun hmoved => ?_, fun hsame => ?_⟩
  · rw [decide_eq_true hmoved]
    exact resolutionAsked_trigger s _ ((adopt_film ..).up.trans hup) (adopt_resolver ..) (adopt_arbiter ..)
  · rw [decide_eq_false (Classical.not_not.2 hsame)]
    exact ⟨adopt_resolver .., adopt_arbiter ..⟩

theorem sourceAllowed_iff (configured : Option Byte) (source : Byte) :
    sourceAllowed configured source = true ↔ configured = none ∨ configured = some source := by
  cases configured <;> simp [sourceAllowed]

theorem exec_position {m : Message} {rest : List Message} (h : s.cue.handover = m :: rest) :
    exec .position s = .next (handPosition m { s with cue := { s.cue with handover := rest } }) := by
  show execPosition s = _
  simp only [execPosition, h]

theorem handPosition_taken {m : Message} {h : HeldPosition}
    (hsource : s.config.transport = none ∨ s.config.transport = some m.source) (hread : positionOf m.payload = some h) :
    handPosition m s = takePosition h s := by
  rw [handPosition, if_pos ((sourceAllowed_iff _ _).2 hsource), hread]

/-- The distance of a message behind the last pulse (R6). -/
theorem distance_eq (a b : Byte) : (a - b).toNat = (a.toNat + 256 - b.toNat) % 256 := by
  bv_omega

/-- A message that the unit discards (R6, R191, R192). -/
theorem positionOf_bad {p : List Byte} (h : p.length < 6 ∨ 1048575 < u24 p 0 ∨ 3 < u8 p 4 ∨ (4 ≤ u8 p 5 ∧ u8 p 5 ≤ 254)) :
    positionOf p = none := by
  unfold positionOf
  split
  · rfl
  · next hlen =>
    split
    · rfl
    · next hframe =>
      have hlen : ¬ p.length < 6 := hlen
      have hframe : ¬ 1048575 < u24 p 0 := hframe
      obtain h | h | h | h := h
      · omega
      · omega
      · have hspeed : speedOf (u8 p 4) = none := by
          unfold speedOf; split <;> simp_all
        rw [hspeed]
      · have hphase : phaseField (u8 p 5) = none := by
          rw [phaseField, if_neg (by omega), if_neg (by omega)]
        rw [hphase]
        cases speedOf (u8 p 4) <;> rfl

/-- Settles O22: a POSITION that is not early adopts its target (`reconcile_eq`); an early one takes the slot, and one
that the unit discards is counted. -/
theorem positionIsReconciledOrHeld : Obligations.PositionIsReconciledOrHeld := by
  refine ⟨?reconciled, ⟨?early, ?discarded⟩, ?payload⟩
  case reconciled =>
    intro s m rest h d hup hqueue hsource hread hd hnear
    have hexec : exec .position s = .next (reconcile h d { s with cue := { s.cue with handover := rest } }) := by
      rw [exec_position s hqueue, handPosition_taken { s with cue := { s.cue with handover := rest } } hsource hread,
        takePosition, distance_eq, ← hd, if_neg (by omega)]
    have hframe := (FilmWork.reconcile h d { s with cue := { s.cue with handover := rest } }).frame
      (by simp [reconcile_eq, adopt_handler])
    have hasks := reconcile_asks (s := { s with cue := { s.cue with handover := rest } }) h d hup
    have hflag := reconcile_isIn { s with cue := { s.cue with handover := rest } } hup h d
    have hgate := reconcile_gate { s with cue := { s.cue with handover := rest } } h d
    have hpcu : (reconcile h d { s with cue := { s.cue with handover := rest } }).pcu = { s.pcu with
        gateFrame := (s.target h d).1, rangeClamp := (s.target h d).2, held := none,
        positionState := if s.pcu.positionState = .unplaced ∨ (d ≤ 4 ∧ (s.target h d).1 = s.pcu.gateFrame) then .placed
          else .suspect,
        slips := if s.pcu.positionState = .unplaced ∨ (d ≤ 4 ∧ (s.target h d).1 = s.pcu.gateFrame) then s.pcu.slips
          else satInc s.pcu.slips,
        speedClass := h.speed, cadenceState := (s.followedCadence h.speed (s.targetPhase h d)).1,
        cadencePhase := (s.followedCadence h.speed (s.targetPhase h d)).2 } := reconcile_pcu _ h d
    generalize reconcile h d { s with cue := { s.cue with handover := rest } } = t at *
    refine ⟨_, hexec, hframe, ?pcu, ?settled, ?asked,
      ?sound, ?other⟩
    case pcu =>
      rw [target_eq] at hpcu
      rw [hpcu] <;> rfl
    case settled =>
      rw [hpcu]
      dsimp only
      split
      · next hagrees => exact ⟨rfl, rfl⟩
      · next hdiffers => exact ⟨rfl, satInc_eq_min _, hflag hdiffers⟩
    case asked =>
      rw [hpcu]
      dsimp only
      split
      · next hsame => exact hasks.2 hsame
      · next hmoved => exact hasks.1 hmoved
    case sound =>
      intro hspeed
      rw [hgate, hpcu, hspeed]
      exact ⟨by simp, followedCadence_target s h d⟩
    case other =>
      intro hspeed
      rw [hgate, hpcu, followedCadence_not_sound _ _ hspeed]
      refine ⟨rfl, rfl, fun hrec => ?_⟩
      rw [if_pos ⟨hspeed, hrec⟩]
      exact ⟨rfl, rfl, rfl⟩
  case early =>
    intro s m rest h hqueue hsource hread hd
    rw [exec_position s hqueue, handPosition_taken { s with cue := { s.cue with handover := rest } } hsource hread,
      takePosition, distance_eq, if_pos hd]
  case discarded =>
    intro s m rest hqueue hbad
    have hignore : handPosition m { s with cue := { s.cue with handover := rest } }
        = ignore { s with cue := { s.cue with handover := rest } } := by
      obtain ⟨a, ha, hother⟩ | hread := hbad
      · have hsource : ¬ sourceAllowed s.config.transport m.source = true := by
          rw [sourceAllowed_iff, ha]; simpa using hother
        exact if_neg hsource
      · rw [handPosition, positionOf_bad hread, ite_self]
    rw [exec_position s hqueue, hignore, ignore, satInc_eq_min]
  case payload =>
    intro f2 f1 f0 seq speed phase rest frame hframe hreel hspeed hphase
    have hspeedOf : ∀ {n : Nat}, n ≤ 3 → speedOf n = some
        (match n with
          | 0 => .still
          | 1 => .jog
          | 2 => .sound
          | _ => .shuttle) := by
      intro n hn
      obtain rfl | rfl | rfl | rfl : n = 0 ∨ n = 1 ∨ n = 2 ∨ n = 3 := by omega
      all_goals rfl
    have hphaseOf : phaseField phase.toNat = some (if phase = 0xFF then none else some (phase.setWidth 2)) := by
      by_cases hff : phase = 0xFF
      · rw [if_pos hff, hff]; rfl
      · have hlow : phase.toNat ≤ 3 := hphase.resolve_right hff
        rw [phaseField, if_neg (by omega), if_pos hlow, if_neg hff, BitVec.ofNat_toNat]
    have hread : u24 (f2 :: f1 :: f0 :: seq :: speed :: phase :: rest) 0 = frame := hframe.symm
    have hlen : ¬ (f2 :: f1 :: f0 :: seq :: speed :: phase :: rest).length
        < requiredLength .position (f2 :: f1 :: f0 :: seq :: speed :: phase :: rest) := by
      show ¬ _ < 6
      simp
    rw [positionOf, if_neg hlen, hread, if_neg (Nat.not_lt.2 hreel)]
    have hs : speedOf (u8 (f2 :: f1 :: f0 :: seq :: speed :: phase :: rest) 4) = _ := hspeedOf hspeed
    have hp : phaseField (u8 (f2 :: f1 :: f0 :: seq :: speed :: phase :: rest) 5) = _ := hphaseOf
    rw [hs, hp]
    rfl

end Sys2Proof.Machine
end

section
/-! PROOF. The reference loss, a raise and its report, FLT_N (R15, R106, R161, R176, R177, R179). -/

namespace Sys2Proof.Machine

/-! ### Event flags as bits (R176, R179) -/

/-- The event flags in the order of their bits (R190). -/
def EventFlag.inOrder : List EventFlag :=
  [.positionSlip, .cadenceBreak, .lateGrade, .refLoss, .storeCe, .storeUe, .indexFault, .editRefused, .lineError, .rxDrop,
   .txAbandon, .partnerMismatch, .fetchEnd, .unexpectedReply, .punchEvent]

theorem EventFlag.inOrder_index (f : EventFlag) : EventFlag.inOrder[f.index]? = some f := by
  cases f <;> rfl

theorem EventFlag.index_inj {f g : EventFlag} : f.index = g.index ↔ f = g := by
  refine ⟨fun h => ?_, fun h => by rw [h]⟩
  have hf := f.inOrder_index
  rw [h, g.inOrder_index] at hf
  exact (Option.some.inj hf).symm

/-- Every bit of the flag register is that of a flag. -/
theorem EventFlag.exists_index {i : Nat} (h : i < 15) : ∃ f : EventFlag, f.index = i := by
  have hall : ∀ j : Fin 15, (EventFlag.inOrder.get j).index = j := by decide
  exact ⟨_, hall ⟨i, h⟩⟩

theorem isIn_or_mask (f g : EventFlag) (flags : BitVec 15) :
    g.isIn (flags ||| f.mask) = (g.isIn flags || decide (g = f)) := by
  simp [EventFlag.isIn, EventFlag.mask, BitVec.getLsbD_twoPow, f.index_lt, EventFlag.index_inj, eq_comm]

theorem faultActive_iff (s : State) :
    s.faultActive = true ↔ ∃ f : EventFlag, f.isIn s.events.flags = true ∧ f.isIn s.config.faultMask = true := by
  simp only [State.faultActive, bne_iff_ne]
  refine ⟨fun h => ?_, fun ⟨f, hflag, hmask⟩ hzero => ?_⟩
  · refine Classical.byContradiction fun hnone => ?_
    refine h (BitVec.eq_of_getLsbD_eq fun i hi => ?_)
    obtain ⟨f, rfl⟩ := EventFlag.exists_index hi
    have hzero : BitVec.getLsbD (0 : BitVec 15) f.index = false := BitVec.getLsbD_zero
    rw [BitVec.getLsbD_and, hzero, Bool.and_eq_false_iff]
    refine Classical.byContradiction fun hboth => ?_
    simp only [not_or, Bool.not_eq_false] at hboth
    exact hnone ⟨f, hboth⟩
  · have hbit := congrArg (BitVec.getLsbD · f.index) hzero
    simp only [EventFlag.isIn] at hflag hmask
    simp [hflag, hmask] at hbit

/-! ### The queue of the reports (R105, R106) -/

theorem joinReserved_new {m : TxMsg} {q : List TxMsg} (h : ∀ e ∈ q, e.content.kind ≠ m.content.kind) :
    joinReserved m q = q ++ [m] := by
  have hnone : q.any (fun e => decide (e.content.kind = m.content.kind)) = false := by simpa using h
  simp [joinReserved, hnone]

/-- A hand-over coalesces with the entry of its kind, in that entry's place. -/
theorem joinReserved_coalesces {m e : TxMsg} {before after : List TxMsg} (he : e.content.kind = m.content.kind)
    (h : ∀ x ∈ before ++ after, x.content.kind ≠ m.content.kind) :
    joinReserved m (before ++ [e] ++ after) = before ++ [⟨m.dest, coalesced e.content m.content⟩] ++ after := by
  have hsome : (before ++ [e] ++ after).any (fun e => decide (e.content.kind = m.content.kind)) = true := by simp [he]
  have hkeep : ∀ l : List TxMsg, (∀ x ∈ l, x.content.kind ≠ m.content.kind) → l.map (fun e =>
      if e.content.kind = m.content.kind then ⟨m.dest, coalesced e.content m.content⟩ else e) = l := fun l hl =>
    (List.map_congr_left fun x hx => if_neg (hl x hx)).trans l.map_id
  simp only [joinReserved, hsome, if_true, List.map_append, List.map_cons, List.map_nil, he,
    hkeep before fun x hx => h x (List.mem_append_left _ hx), hkeep after fun x hx => h x (List.mem_append_right _ hx)]

/-! ### A raise (R176, R177) -/

theorem raise_isIn_eq {s : State} (f g : EventFlag) (hup : s.up = true) :
    g.isIn (raise f s).events.flags = (g.isIn s.events.flags || decide (g = f)) := by
  cases hset : f.isIn s.events.flags
  case true =>
    rw [raise_set s f hset]
    by_cases hg : g = f
    · simp [hg, hset]
    · simp [hg]
  case false =>
    cases hon : f.isIn s.events.enable
    case false => rw [raise_disabled s f hup hset hon]; exact isIn_or_mask f g _
    case true => rw [raise_enabled s f hup hset hon, handReport_events]; exact isIn_or_mask f g _

theorem raise_cue_unreported {s : State} {f : EventFlag} (hup : s.up = true)
    (h : f.isIn s.events.flags = true ∨ f.isIn s.events.enable = false ∨ s.config.report = none) :
    (raise f s).cue = s.cue := by
  cases hset : f.isIn s.events.flags
  case true => rw [raise_set s f hset]
  case false =>
    cases hon : f.isIn s.events.enable
    case false => rw [raise_disabled s f hup hset hon]
    case true =>
      have hnone : s.config.report = none := by simpa [hset, hon] using h
      rw [raise_enabled s f hup hset hon]
      simp [handReport, hnone]

theorem raise_reported {s : State} {f : EventFlag} {dest : Byte} (hup : s.up = true) (hset : f.isIn s.events.flags = false)
    (hon : f.isIn s.events.enable = true) (hdest : s.config.report = some dest) :
    (raise f s).cue.txq
      = joinReserved ⟨dest, .eventReport (raise f s).events.flags f.mask s.pcu.snapshot.fieldCount⟩ s.cue.txq := by
  rw [raise_enabled s f hup hset hon]
  simp [handReport, hdest]

/-- Settles O23: the loss raises its flag and then aborts; a raise is read bit by bit (`raise_isIn_eq`), and its report
joins or coalesces (`joinReserved_new`, `joinReserved_coalesces`). -/
theorem referenceLossBegins : Obligations.ReferenceLossBegins := by
  refine ⟨?loss, ?loading, ?raised, faultActive_iff⟩
  case loss =>
    intro s hup hrun
    let u : State := { s with pcu := { s.pcu with refTimerRunning := false, lossInProgress := true } }
    have hexec : exec .refLossExpiry s = .next (abortPunch (raise .refLoss u)) :=
      if_pos ⟨not_reset_of_up hup, hrun⟩
    have hfilm : FilmWork u (abortPunch (raise .refLoss u)) := (FilmWork.raise _ u).trans (.abortPunch _)
    have hpcu : (abortPunch (raise .refLoss u)).pcu = u.pcu := by rw [abortPunch_pcu, raise_pcu]
    have hres : (abortPunch (raise .refLoss u)).resolver = u.resolver := by simp
    have harb : (abortPunch (raise .refLoss u)).arbiter = u.arbiter := by simp
    have hframe := hfilm.frame (by simp)
    rw [hpcu, hres, harb] at hframe
    refine ⟨_, hexec, hframe, abortPunch_keeps _ _ (raise_isIn _ _ hup), ?_, fun hrec => ⟨u, ?_, abortPunch_other _ ?_⟩⟩
    · split
      · next hrec =>
        have hrec' : (raise .refLoss u).gate.punch.state = .recording := by rw [raise_gate]; exact hrec
        refine ⟨?_, abortPunch_flags_of_recording ((raise_up _ _).trans hup) hrec'⟩
        rw [abortPunch_gate_of_recording hrec', raise_gate, raise_pcu]
      · next hrec => rw [abortPunch_gate_eq, raise_gate, if_neg hrec]
    · rw [hpcu]
    · rw [raise_gate]; exact hrec
  case loading =>
    intro s hpart hquiet hrun
    obtain ⟨-, -, -, -, -, -, -, -, -, -, hgate, -⟩ := hquiet (by simp [State.up, hpart])
    have hdown : State.up { s with pcu := { s.pcu with refTimerRunning := false, lossInProgress := true } } = false := by
      simp [State.up, hpart]
    have hidle : s.gate.punch.state ≠ .recording := by rw [hgate]; decide
    have hexec : exec .refLossExpiry s = .next (abortPunch (raise .refLoss
        { s with pcu := { s.pcu with refTimerRunning := false, lossInProgress := true } })) :=
      if_pos ⟨by simp [hpart], hrun⟩
    rw [hexec, raise_down _ _ hdown]
    exact congrArg _ (abortPunch_other _ hidle)
  case raised =>
    rintro s t f hup rfl
    refine ⟨raise_spec s f, fun g => raise_isIn_eq f g hup, fun h => raise_cue_unreported hup h,
      fun dest hset hon hdest => ?_⟩
    rw [raise_reported hup hset hon hdest]
    refine ⟨fun hnone => joinReserved_new hnone, fun before after dst flags new count hq hothers => ?_⟩
    rw [hq]
    exact joinReserved_coalesces (m := ⟨dest, .eventReport _ f.mask _⟩) (e := ⟨dst, .eventReport flags new count⟩) rfl
      hothers

end Sys2Proof.Machine
end

section
/-! PROOF. The field start: snapshot, swap, header (R3, R61 to R63, R70, R81, R85 to R89). -/

namespace Sys2Proof.Machine

/-! ### What raises and hand-overs of reports keep (R105, R106, R135, R176) -/

theorem joinReserved_keeps {m x : TxMsg} {q : List TxMsg} (hx : x ∈ q) (hkind : x.content.kind ≠ m.content.kind) :
    x ∈ joinReserved m q := by
  unfold joinReserved
  split
  · exact List.mem_map.2 ⟨x, hx, if_neg hkind⟩
  · exact List.mem_append_left _ hx

/-- `t` comes from `s` by raises, and by hand-overs to the report address of messages of the kinds `k`: the flags set
stay set, the other messages of the queue stay in it, and without a report address the queue stands. -/
structure Reports (k : MsgKind → Prop) (s t : State) : Prop where
  part : t.part = s.part
  config : t.config = s.config
  flags : ∀ g : EventFlag, g.isIn s.events.flags = true → g.isIn t.events.flags = true
  queued : ∀ x ∈ s.cue.txq, ¬ k x.content.kind → x ∈ t.cue.txq
  silent : s.config.report = none → t.cue.txq = s.cue.txq

namespace Reports

variable {k : MsgKind → Prop} {s t u : State}

theorem of_eq (hpart : t.part = s.part) (hconfig : t.config = s.config) (hflags : t.events.flags = s.events.flags)
    (hq : t.cue.txq = s.cue.txq) : Reports k s t :=
  ⟨hpart, hconfig, fun g h => by rwa [hflags], fun x hx _ => by rwa [hq], fun _ => hq⟩

theorem trans (h : Reports k s t) (g : Reports k t u) : Reports k s u where
  part := g.part.trans h.part
  config := g.config.trans h.config
  flags f hf := g.flags f (h.flags f hf)
  queued x hx hk := g.queued x (h.queued x hx hk) hk
  silent hnone := (g.silent (by rw [h.config]; exact hnone)).trans (h.silent hnone)

/-- What the flags, the queue and the settings do not show may be written before. -/
theorem before (h : Reports k t u) (hpart : t.part = s.part) (hconfig : t.config = s.config)
    (hflags : t.events.flags = s.events.flags) (hq : t.cue.txq = s.cue.txq) : Reports k s u :=
  (of_eq hpart hconfig hflags hq).trans h

theorem up (h : Reports k s t) : t.up = s.up := up_of_part h.part

theorem handReport (c : TxContent) (hk : k c.kind) (s : State) : Reports k s (handReport c s) where
  part := handReport_part ..
  config := handReport_config ..
  flags g h := by rw [handReport_events]; exact h
  queued x hx hkind := by
    unfold Machine.handReport
    split
    · exact hx
    · exact joinReserved_keeps hx fun he => hkind (he ▸ hk)
  silent hnone := by simp [Machine.handReport, hnone]

theorem raise (hk : k .eventReport) (f : EventFlag) (s : State) : Reports k s (raise f s) := by
  unfold Machine.raise
  split
  · next hset =>
    have hor : Reports k s { s with events := { s.events with flags := s.events.flags ||| f.mask } } :=
      ⟨rfl, rfl, fun g h => by rw [isIn_or_mask, h, Bool.true_or], fun _ hx _ => hx, fun _ => rfl⟩
    dsimp only
    split
    · exact hor.trans (handReport _ hk _)
    · exact hor
  · exact of_eq rfl rfl rfl rfl

theorem ofListWork (hk : k .eventReport) (h : ListWork s t) : Reports k s t := by
  induction h with
  | refl s => exact of_eq rfl rfl rfl rfl
  | trans _ _ ih ig => exact ih.trans ig
  | raise f s => exact raise hk f s
  | store st s => exact of_eq rfl rfl rfl rfl
  | corrected c s => exact of_eq rfl rfl rfl rfl
  | damaged c s => exact of_eq rfl rfl rfl rfl

theorem triggerIf (b : Bool) (s : State) : Reports k s (triggerIf b s) :=
  of_eq (by simp) (by simp) (by simp) (by simp)

theorem scrub (hk : k .eventReport) (chk : Checks) (s : State) : Reports k s (scrub chk s) := by
  unfold Machine.scrub
  dsimp only
  split
  · have hx := ofListWork hk (ListWork.examineStore (fun n => decide (s.store.scrubCursor ≤ n)) chk s)
    split
    · exact (hx.trans (ofListWork hk (.scrubRecord _ _ _))).trans (triggerIf _ _)
    · have hy := hx.trans (ofListWork hk (ListWork.examineStore (fun _ => true) chk _))
      split
      · exact (hy.trans (ofListWork hk (.scrubRecord _ _ _))).trans (triggerIf _ _)
      · exact (hy.trans (ofListWork hk (.ofStore _ _))).trans (triggerIf _ _)
  · exact of_eq rfl rfl rfl rfl

theorem evalPunch (hk : k .eventReport) (omitted : Bool) (s : State) : Reports k s (evalPunch omitted s) := by
  unfold Machine.evalPunch
  split
  · unfold evalArmed
    dsimp only
    split
    · exact (raise hk _ _).before rfl rfl rfl rfl
    · split
      · exact (raise hk _ _).before rfl rfl rfl rfl
      · exact of_eq rfl rfl rfl rfl
  · unfold evalRecording
    dsimp only
    split
    · exact (raise hk _ _).before rfl rfl rfl rfl
    · split <;> exact of_eq rfl rfl rfl rfl
  all_goals exact of_eq rfl rfl rfl rfl

theorem countHoldback (hk : k .sceneEntered) (s : State) : Reports k s (countHoldback s) := by
  unfold Machine.countHoldback
  split
  · exact of_eq rfl rfl rfl rfl
  · split
    · exact (handReport _ hk _).before rfl rfl rfl rfl
    · exact of_eq rfl rfl rfl rfl

theorem enterScene (hk : k .sceneEntered) (s : State) : Reports k s (enterScene s) := by
  unfold Machine.enterScene
  split
  · dsimp only
    split
    · exact (handReport _ hk _).before rfl rfl rfl rfl
    · exact of_eq rfl rfl rfl rfl
  · exact of_eq rfl rfl rfl rfl

theorem countStatus (hk : k .status) (s : State) : Reports k s (countStatus s) := by
  unfold Machine.countStatus
  split
  · split
    · exact (handReport _ hk _).before rfl rfl rfl rfl
    · exact of_eq rfl rfl rfl rfl
  · exact of_eq rfl rfl rfl rfl

theorem checkLate (hk : k .eventReport) (s : State) : Reports k s (checkLate s) := by
  unfold Machine.checkLate
  split
  · exact (raise hk _ _).before rfl rfl rfl rfl
  · exact of_eq rfl rfl rfl rfl

end Reports

/-! ### The field opened (R3, R61 to R63) -/

theorem exec_fieldStart {s : State} (hup : s.up = true) (chk : Checks) :
    exec (.fieldStart chk) s = .next (scrub chk (beforeScrub s)) := by
  show Host.Outcome.next (fieldStart chk s) = _
  obtain hp | hp := part_of_up hup <;> simp [fieldStart, hp, upField_eq]

theorem countField_pcu (s : State) : (countField s).pcu = { s.pcu with
    fieldCount := s.pcu.fieldCount + 1, fieldParity := (s.pcu.fieldCount + 1).getLsbD 0,
    fieldsInFrame := if s.pcu.fieldsInFrame < 15 then s.pcu.fieldsInFrame + 1 else 15,
    snapshot := ⟨s.pcu.fieldCount + 1, (s.pcu.fieldCount + 1).getLsbD 0, s.pcu.gateFrame, s.pcu.fieldsInFrame,
      s.pcu.cadencePhase, s.pcu.cadenceState, s.pcu.positionState, s.pcu.speedClass, s.pcu.direction,
      s.pcu.rangeClamp⟩,
    refTimerRunning := true, lossInProgress := false } := by
  have hindex : (if 15 ≤ s.pcu.fieldsInFrame then 15 else s.pcu.fieldsInFrame + 1)
      = if s.pcu.fieldsInFrame < 15 then s.pcu.fieldsInFrame + 1 else 15 := by
    split <;> split <;> omega
  simp only [countField, hindex]

theorem openField_pcu (s : State) : (openField s).pcu = (countField s).pcu := by simp [openField]

theorem openField_snapshot (s : State) : (openField s).pcu.snapshot = ⟨s.pcu.fieldCount + 1,
    (s.pcu.fieldCount + 1).getLsbD 0, s.pcu.gateFrame, s.pcu.fieldsInFrame, s.pcu.cadencePhase, s.pcu.cadenceState,
    s.pcu.positionState, s.pcu.speedClass, s.pcu.direction, s.pcu.rangeClamp⟩ := by
  rw [openField_pcu, countField_pcu]

/-- The swap (R61). -/
theorem swapBank_pipeline (s : State) : (swapBank s).pipeline = { s.pipeline with
    active := s.bankAtField,
    pendingBank := match s.pipeline.pendingBank with
      | .filling r => .filling r
      | .empty => .empty
      | .ready _ => .empty } := by
  cases h : s.pipeline.pendingBank <;> simp [swapBank, State.bankAtField, h]
  all_goals rw [← h]

theorem openField_pipeline (s : State) : (openField s).pipeline = { s.pipeline with
    active := s.bankAtField,
    pendingBank := match s.pipeline.pendingBank with
      | .filling r => .filling r
      | .empty => .empty
      | .ready _ => .empty } := by
  rw [openField, checkLate_pipeline, swapBank_pipeline]
  rfl

theorem openField_lateField (s : State) :
    (openField s).lateField = decide (s.bankAtField.resolvedFrame ≠ s.pcu.gateFrame) := by
  rw [State.lateField, openField_pipeline, openField_snapshot]

/-- The omit of a field that starts (R63). -/
theorem openField_fieldOmitted (s : State) : (openField s).fieldOmitted =
    (if s.bankAtField.resolvedFrame ≠ s.pcu.gateFrame
        ∧ ¬(s.bankAtField.scene.spanFirst ≤ s.pcu.gateFrame ∧ s.pcu.gateFrame ≤ s.bankAtField.scene.spanLast) then true
     else s.bankAtField.scene.omitted) := by
  simp only [State.fieldOmitted, openField_lateField, openField_pipeline, openField_snapshot, Bool.and_eq_true,
    Bool.not_eq_true', Bool.and_eq_false_iff, decide_eq_true_eq, decide_eq_false_iff_not, Classical.not_and_iff_not_or_not]

/-- A late field is counted, and raised (R62). -/
theorem openField_late {s : State} (hup : s.up = true) :
    if s.bankAtField.resolvedFrame = s.pcu.gateFrame then (openField s).resolver.late = s.resolver.late
    else (openField s).resolver.late = min (s.resolver.late + 1) 65535
      ∧ EventFlag.lateGrade.isIn (openField s).events.flags = true := by
  have hlate : (swapBank (countField s)).lateField = decide (s.bankAtField.resolvedFrame ≠ s.pcu.gateFrame) := by
    have h := openField_lateField s
    simpa only [State.lateField, openField, checkLate_pipeline, checkLate_pcu] using h
  have hup' : (swapBank (countField s)).up = true := (up_of_part (by simp)).trans hup
  unfold openField checkLate
  rw [hlate]
  split
  · next hsame => simp [hsame]
  · next hother =>
    rw [if_pos (decide_eq_true hother), raise_resolver]
    refine ⟨?_, raise_isIn _ _ hup'⟩
    simp [satInc_eq_min]

/-! ### The field start whole -/

/-- The kinds handed over to the report address (R135). -/
def ToReport (k : MsgKind) : Prop := k = .eventReport ∨ k = .sceneEntered ∨ k = .status

section
variable {k : MsgKind → Prop} (s : State)

theorem openField_reports (he : k .eventReport) : Reports k s (openField s) := by
  refine Reports.trans (t := swapBank (countField s)) ?_ (.checkLate he _)
  exact .of_eq (by simp) (by simp) (by simp) (by simp)

theorem beforePunch_reports (hs : k .sceneEntered) : Reports k (openField s) (beforePunch s) := by
  refine Reports.trans (t := enterScene (countHoldback (openField s))) ?_ ?_
  · exact (Reports.countHoldback hs _).trans (.enterScene hs _)
  · exact .of_eq (by simp [beforePunch]) (by simp [beforePunch]) (by simp [beforePunch]) (by simp [beforePunch])

/-- The state the status countdown is counted in: the punch evaluated, the header sent. -/
def beforeStatus (s : State) : State :=
  emitHeader
    ((startGrading (evalPunch (openField s).fieldOmitted (beforePunch s))).header (openField s).lateField
      (openField s).fieldOmitted)
    (startGrading (evalPunch (openField s).fieldOmitted (beforePunch s)))

theorem beforeScrub_eq_countStatus : beforeScrub s = countStatus (beforeStatus s) := rfl

theorem beforeStatus_reports (he : k .eventReport) : Reports k (beforePunch s) (beforeStatus s) := by
  refine Reports.trans (t := evalPunch (openField s).fieldOmitted (beforePunch s)) (.evalPunch he _ _) ?_
  exact .of_eq (by simp [beforeStatus]) (by simp [beforeStatus]) (by simp [beforeStatus]) (by simp [beforeStatus])

/-- What a field start reports after its field is opened. -/
theorem field_reports (chk : Checks) (he : k .eventReport) (hs : k .sceneEntered) (ht : k .status) :
    Reports k (openField s) (scrub chk (beforeScrub s)) :=
  (((beforePunch_reports s hs).trans (beforeStatus_reports s he)).trans (.countStatus ht _)).trans (.scrub he chk _)

theorem startGrading_pipeline : (startGrading s).pipeline = { s.pipeline with
    outputMode := if s.part = .running then .grading else s.pipeline.outputMode } := by
  unfold startGrading
  split <;> rfl

theorem beforePunch_pipeline : (beforePunch s).pipeline = { s.pipeline with
    active := s.bankAtField,
    pendingBank := match s.pipeline.pendingBank with
      | .filling r => .filling r
      | .empty => .empty
      | .ready _ => .empty,
    clipLast := s.pipeline.clipInProgress, clipInProgress := 0, lineOpen := false } := by
  rw [beforePunch, updateAmark_pipeline, updateTally_pipeline, closeClip_pipeline, enterScene_pipeline,
    countHoldback_pipeline, openField_pipeline]

theorem beforePunch_part : (beforePunch s).part = s.part := by simp [beforePunch, openField]

/-- The header of the field that starts (R86). -/
def State.fieldHeader : HeaderRecord :=
  (startGrading (evalPunch (openField s).fieldOmitted (beforePunch s))).header (openField s).lateField
    (openField s).fieldOmitted

/-- The picture path after a field start (R61, R70, R81, R85, R86). -/
theorem field_pipeline (chk : Checks) : (scrub chk (beforeScrub s)).pipeline = { s.pipeline with
    active := s.bankAtField,
    pendingBank := match s.pipeline.pendingBank with
      | .filling r => .filling r
      | .empty => .empty
      | .ready _ => .empty,
    clipLast := s.pipeline.clipInProgress, clipInProgress := 0, lineOpen := false,
    outputMode := if s.part = .running then .grading else s.pipeline.outputMode,
    port := s.pipeline.port ++ headerWords s.fieldHeader.bytes } := by
  rw [scrub_pipeline, beforeScrub_eq_countStatus, countStatus_pipeline, beforeStatus, emitHeader_pipeline,
    startGrading_pipeline, evalPunch_pipeline, beforePunch_pipeline, evalPunch_part, beforePunch_part]
  rfl

theorem field_pcu (chk : Checks) : (scrub chk (beforeScrub s)).pcu = (countField s).pcu := by
  rw [scrub_pcu, beforeScrub_pcu]

theorem field_gate (chk : Checks) : (scrub chk (beforeScrub s)).gate
    = (evalPunch (openField s).fieldOmitted (beforePunch s)).gate := by
  rw [scrub_gate, beforeScrub_gate]

theorem field_late (chk : Checks) : (scrub chk (beforeScrub s)).resolver.late = (openField s).resolver.late := by
  simp [beforeScrub]

theorem field_cue (chk : Checks) : (scrub chk (beforeScrub s)).cue
    = { s.cue with txq := (scrub chk (beforeScrub s)).cue.txq } := by
  apply CueLine.ext <;> simp [beforeScrub, openField]

end

theorem headerWords_length (h : HeaderRecord) : (headerWords h.bytes).length = 7 := by
  unfold HeaderRecord.bytes
  cases h.sceneStart <;> rfl

/-- Settles O24: the unit's part of a field start is `countField`, and nothing after it writes the unit. -/
theorem fieldStartTakesTheSnapshot : Obligations.FieldStartTakesTheSnapshot := by
  intro s chk hpart
  cases hup : s.up
  case true => exact ⟨_, exec_fieldStart hup chk, (field_pcu s chk).trans (countField_pcu s)⟩
  case false =>
    have hloading := loading_of_down hup hpart
    have hexec : exec (.fieldStart chk) s = .next (loadingField s) := by
      show Host.Outcome.next (fieldStart chk s) = _
      simp [fieldStart, hloading]
    exact ⟨_, hexec, (by simp [Machine.loadingField] : (loadingField s).pcu = (countField s).pcu).trans (countField_pcu s)⟩

/-- Settles O25: the picture path is `field_pipeline`, and the LATE check is made in the field as it opens. -/
theorem fieldStartSwapsTheReadyBank : Obligations.FieldStartSwapsTheReadyBank := by
  intro s chk hup
  have hpipe := field_pipeline s chk
  have hsame := (WorkAtStore.scrub chk (beforeScrub s))
  refine ⟨_, exec_fieldStart hup chk, by rw [hpipe], by rw [hpipe] <;> rfl, ?_, by rw [hpipe], by rw [hpipe], by rw [hpipe],
    by rw [hpipe], by rw [hpipe], ?_, ?_, ?_, ?_, ?_, ?_, field_cue s chk, ?_⟩
  · have hlate := openField_late hup
    have hkeeps := (field_reports (k := ToReport) s chk (.inl rfl) (.inr (.inl rfl)) (.inr (.inr rfl))).flags .lateGrade
    rw [field_late]
    split at hlate
    · next heq => rw [if_pos heq]; exact hlate
    · next hne => rw [if_neg hne]; exact ⟨hlate.1, hkeeps hlate.2⟩
  · rw [hsame.part]; simp [beforeScrub, openField]
  · rw [hsame.config]; simp [beforeScrub, openField]
  · simp [beforeScrub, openField]
  · rw [hsame.requester]; simp [beforeScrub, openField]
  · rw [hsame.responder]; simp [beforeScrub, openField]
  · rw [hsame.responder]; simp [beforeScrub, openField]
  · simp [beforeScrub, openField]

end Sys2Proof.Machine
end

section
/-! PROOF. The header of a field start (R86 to R89). -/

namespace Sys2Proof.Machine

/-- The header shows the snapshot, the bank in force, the field, and the store, the part and GATE as they stand
(R87, R88). -/
theorem fieldHeader_eq (s : State) (chk : Checks) : s.fieldHeader =
    { fieldCount := s.pcu.fieldCount + 1, parity := (s.pcu.fieldCount + 1).getLsbD 0, frame := s.pcu.gateFrame,
      fieldIndex := s.pcu.fieldsInFrame, phase := s.pcu.cadencePhase, sceneStart := s.bankAtField.scene.start,
      sceneId := s.bankAtField.scene.sceneId, revision := s.bankAtField.scene.revision, w := s.bankAtField.w,
      clipLast := s.pipeline.clipInProgress,
      flags :=
        { notReady := s.part ≠ .running, late := decide (s.bankAtField.resolvedFrame ≠ s.pcu.gateFrame),
          omitted := (openField s).fieldOmitted,
          bypass := s.bankAtField.mode.compare = .bypass, split := s.bankAtField.mode.compare = .split,
          rangeClamp := s.pcu.rangeClamp, unplaced := s.pcu.positionState = .unplaced,
          suspect := s.pcu.positionState = .suspect, cadenceFree := s.pcu.cadenceState = .free,
          cadenceBroken := s.pcu.cadenceState = .broken, storeFault := s.store.frozen,
          damaged := s.bankAtField.scene.damaged, inherited := s.bankAtField.inherited,
          mixing := s.bankAtField.fromCurve.isSome, gate := (scrub chk (beforeScrub s)).gate.gate } } := by
  have hpcu : (startGrading (evalPunch (openField s).fieldOmitted (beforePunch s))).pcu.snapshot
      = (openField s).pcu.snapshot := by rw [startGrading_pcu, evalPunch_pcu, beforePunch_pcu]
  have hactive : (startGrading (evalPunch (openField s).fieldOmitted (beforePunch s))).pipeline.active
      = s.bankAtField := by rw [startGrading_pipeline, evalPunch_pipeline, beforePunch_pipeline]
  have hclip : (startGrading (evalPunch (openField s).fieldOmitted (beforePunch s))).pipeline.clipLast
      = s.pipeline.clipInProgress := by rw [startGrading_pipeline, evalPunch_pipeline, beforePunch_pipeline]
  have hpart : (startGrading (evalPunch (openField s).fieldOmitted (beforePunch s))).part = s.part := by
    rw [startGrading_part, evalPunch_part, beforePunch_part]
  have hstore : (startGrading (evalPunch (openField s).fieldOmitted (beforePunch s))).store = s.store := by
    simp [beforePunch, openField]
  have hgate : (startGrading (evalPunch (openField s).fieldOmitted (beforePunch s))).gate
      = (scrub chk (beforeScrub s)).gate := by rw [startGrading_gate, field_gate]
  simp only [State.fieldHeader, State.header, hpcu, hactive, hclip, hpart, hstore, hgate, openField_lateField,
    openField_snapshot]

/-- Settles O26: the header in JOINING and RUNNING is `fieldHeader_eq`; in LOADING nothing but the film and the picture
path acts. -/
theorem fieldHeaderLeavesThePort : Obligations.FieldHeaderLeavesThePort := by
  refine ⟨?up, ?loading⟩
  case up =>
    intro s chk hup
    have hpipe := field_pipeline s chk
    have homit := openField_fieldOmitted s
    refine ⟨_, s.fieldHeader, exec_fieldStart hup chk, by rw [hpipe], headerWords_length _, ?_⟩
    rw [fieldHeader_eq s chk]
    refine ⟨rfl, rfl, rfl, rfl, rfl, rfl, rfl, rfl, rfl, rfl, ?_, rfl, fun hin => ?_, fun hlate hout => ?_, rfl, rfl, rfl,
      rfl, rfl, rfl, rfl, rfl, rfl, rfl, rfl, rfl⟩
    · obtain hp | hp := part_of_up hup <;> simp [hp]
    · show (openField s).fieldOmitted = _
      rw [homit, if_neg fun h => h.2 hin]
    · show (openField s).fieldOmitted = _
      rw [homit, if_pos ⟨hlate, hout⟩]
  case loading =>
    intro s chk hpart
    have hexec : exec (.fieldStart chk) s = .next (Machine.loadingField s) := by
      show Host.Outcome.next (fieldStart chk s) = _
      simp [fieldStart, hpart]
    refine ⟨_, State.loadingHeader (closeClip (countField s)), hexec, rfl, rfl, headerWords_length _, rfl, rfl, rfl, rfl,
      rfl, rfl, rfl, rfl, rfl, rfl, rfl, rfl, rfl, rfl, rfl, rfl, rfl, rfl, rfl, rfl, rfl, rfl, rfl, rfl, rfl⟩

end Sys2Proof.Machine
end

section
/-! PROOF. Scene entry, the hold-back, TALLY and AMARK (R64 to R66, R135, R164, R165). -/

namespace Sys2Proof.Machine

/-! ### What changes at field starts only -/

/-- The scene signals: the last scene, the hold-back slot and its countdown, TALLY with its countdown, AMARK. -/
def State.signals (s : State) : Option Nat × Option SceneEntry × Nat × Bool × Nat × Bool :=
  (s.resolver.lastScene, s.resolver.slot, s.resolver.countdown, s.gate.tally, s.gate.tallyCountdown, s.gate.amark)

theorem WorkAtStore.signals {s t : State} (h : WorkAtStore s t) : t.signals = s.signals := by
  rw [State.signals, State.signals, h.resolver, h.gate]

theorem FilmWork.signals {s t : State} (h : FilmWork s t) : t.signals = s.signals := by
  rw [State.signals, State.signals, h.resolver]
  obtain hg | hg := h.gate
  · rw [hg]
  · rw [hg]; rfl

theorem LineWork.signals {s t : State} (h : LineWork s t) : t.signals = s.signals := by
  rw [State.signals, State.signals, h.rest]

/-- The scene signals change at field starts, and else by a reset only. -/
theorem Acts.signals {s t : State} {c : Instr} (ha : Acts s c t) (hfield : isFieldStart c = false)
    (hreset : c ∉ [Instr.resetSoft, .resetList, .powerOnReset]) : t.signals = s.signals := by
  cases hw : worksAtStore c
  case true => exact (ha.workAtStore hw).signals
  cases ha
  case loadingField | upField => simp_all
  case powerOnReset | resetSoft | resetList => simp at hreset
  case bootReadEnd image _ =>
    rw [takeConfig_frame]
    exact (WorkAtStore.trigger _).signals
  case joiningQuietExpiry => rw [autoFetch_frame]; rfl
  case frmPulse d _ => exact (FilmWork.framePulse d s).signals
  case refLossExpiry => exact (((FilmWork.ofPcu s _).trans (.raise .refLoss _)).trans (.abortPunch _)).signals
  case character x _ _ _ => exact (LineWork.applyOutcome x _ _).signals
  case gapExpiry => exact (LineWork.receiveError _ _ _).signals
  case position m _ _ => exact (FilmWork.handPosition m _).signals
  case mhTake m _ _ _ _ => exact (WorkAtStore.applyVerdict m _ _).signals
  case queryAnswered m a _ _ => exact (WorkAtStore.answerQuery m a s).signals
  case queryPunchJoins ht => subst ht; simp [State.signals]
  case setMode m mode _ =>
    refine (WorkAtStore.endPlain m _ _ _).signals.trans ?_
    rw [writeSettings_eq]
    simp [State.signals, writeMode]
  case partnerDiffers => rw [partnerMismatch_frame]; simp [State.signals]
  case punchAbort m _ =>
    refine (WorkAtStore.endPlain m _ _ _).signals.trans ?_
    unfold cancelPunch
    split
    · rfl
    · exact (FilmWork.abortPunch s).signals
    all_goals rfl
  case merge => rw [countMerge_frame]; simp [State.signals]
  case responderStreams => rw [advanceStream_frame]; simp [State.signals, dropPlace]
  case unknownKind | sceneSet | gradeSet | sceneMove | sceneDelete | rangeTrimRefused | rangeTrimBegins | trimAsks
    | trimStep | listClear | queryScene => cases hw
  all_goals simp [State.signals, Machine.unexpected, pixelTaken, dropPlace, resolve]

/-! ### Scene entry at a field start (R64 to R66) -/

section
variable (s : State)

/-- The SCENE_ENTERED entry of a field that enters its bank's scene (R66). -/
def State.fieldEntry : SceneEntry :=
  ⟨s.bankAtField.resolvedFrame, s.bankAtField.scene.start, s.bankAtField.scene.sceneId, s.bankAtField.scene.revision,
    s.pcu.fieldCount + 1⟩

theorem openField_lastScene : (openField s).resolver.lastScene = s.resolver.lastScene := by simp [openField]

theorem openField_entersScene :
    (openField s).entersScene = decide (s.bankAtField.scene.start ≠ s.resolver.lastScene) := by
  rw [State.entersScene, openField_pipeline, openField_lastScene]

/-- The hold-back slot after the count of a field start (R65). -/
theorem countHoldback_slot : (countHoldback s).resolver.slot = (if s.resolver.countdown ≤ 1 then none else s.resolver.slot)
    ∧ (s.resolver.slot ≠ none → (countHoldback s).resolver.countdown = s.resolver.countdown - 1) := by
  unfold countHoldback
  split
  · next h => simp [h]
  · next e h =>
    split
    · next hlast =>
      rw [handReport_resolver]
      exact ⟨rfl, fun _ => by show 0 = _; omega⟩
    · exact ⟨rfl, fun _ => rfl⟩

/-- The count that empties the slot hands its entry over. -/
theorem countHoldback_last {e : SceneEntry} (hslot : s.resolver.slot = some e) (hlast : s.resolver.countdown = 1) :
    countHoldback s = handReport (.sceneEntered e) { s with resolver.slot := none, resolver.countdown := 0 } := by
  simp [countHoldback, hslot, hlast]

theorem enterScene_not (h : s.entersScene = false) : enterScene s = s := by simp [enterScene, h]

theorem enterScene_loads (h : s.entersScene = true) (hback : s.config.holdback ≠ 0) : enterScene s = { s with resolver :=
    { s.resolver with
      lastScene := s.pipeline.active.scene.start, slot := some s.sceneEntry, countdown := s.config.holdback } } := by
  simp [enterScene, h, hback]

theorem enterScene_hands (h : s.entersScene = true) (hback : s.config.holdback = 0) :
    enterScene s = handReport (.sceneEntered s.sceneEntry)
      { s with resolver := { s.resolver with lastScene := s.pipeline.active.scene.start } } := by
  simp [enterScene, h, hback]

/-- Up to its scene entry a field start has opened the field and counted the hold-back. -/
def State.counted : State := countHoldback (openField s)

theorem counted_entersScene : s.counted.entersScene = decide (s.bankAtField.scene.start ≠ s.resolver.lastScene) := by
  rw [← openField_entersScene, State.entersScene, State.entersScene, State.counted]
  simp

theorem counted_sceneEntry : s.counted.sceneEntry = s.fieldEntry := by
  simp [State.sceneEntry, State.fieldEntry, State.counted, openField_pipeline, openField_snapshot]

theorem counted_config : s.counted.config = s.config := by simp [State.counted, openField]

theorem counted_active : s.counted.pipeline.active = s.bankAtField := by
  rw [State.counted, countHoldback_pipeline, openField_pipeline]

theorem counted_lastScene : s.counted.resolver.lastScene = s.resolver.lastScene := by
  rw [State.counted, countHoldback_resolver_lastScene, openField_lastScene]

theorem openField_slot : (openField s).resolver.slot = s.resolver.slot
    ∧ (openField s).resolver.countdown = s.resolver.countdown := by simp [openField]

theorem counted_slot : s.counted.resolver.slot = (if s.resolver.countdown ≤ 1 then none else s.resolver.slot)
    ∧ (s.resolver.slot ≠ none → s.counted.resolver.countdown = s.resolver.countdown - 1) := by
  have h := countHoldback_slot (openField s)
  rwa [(openField_slot s).1, (openField_slot s).2] at h

/-- What a field start leaves of the scene entry is what its scene entry left. -/
theorem field_scene (chk : Checks) :
    (scrub chk (beforeScrub s)).resolver.lastScene = (enterScene s.counted).resolver.lastScene
      ∧ (scrub chk (beforeScrub s)).resolver.slot = (enterScene s.counted).resolver.slot
      ∧ (scrub chk (beforeScrub s)).resolver.countdown = (enterScene s.counted).resolver.countdown := by
  simp [beforeScrub, State.counted]

/-- After the scene entry a field start hands over reports and a STATUS. -/
theorem field_reports_entered (chk : Checks) :
    Reports (fun k => k = .eventReport ∨ k = .status) (enterScene s.counted) (scrub chk (beforeScrub s)) := by
  have hopen : Reports (fun k => k = .eventReport ∨ k = .status) (enterScene s.counted) (beforePunch s) :=
    .of_eq (by simp [beforePunch, State.counted]) (by simp [beforePunch, State.counted])
      (by simp [beforePunch, State.counted]) (by simp [beforePunch, State.counted])
  exact ((hopen.trans (beforeStatus_reports s (.inl rfl))).trans (.countStatus (.inr rfl) _)).trans
    (.scrub (.inl rfl) chk _)

/-- Without a report address a field start queues nothing (R135). -/
theorem field_silent (chk : Checks) (h : s.config.report = none) : (scrub chk (beforeScrub s)).cue.txq = s.cue.txq :=
  ((openField_reports (k := ToReport) s (.inl rfl)).trans
    (field_reports s chk (.inl rfl) (.inr (.inl rfl)) (.inr (.inr rfl)))).silent h

end

/-- A message but an EVENT_REPORT takes the place of the one it coalesces with as it is (R106). -/
theorem coalesced_new {old new : TxContent} (h : new.kind ≠ .eventReport) : coalesced old new = new := by
  cases new
  case eventReport => exact absurd rfl h
  all_goals cases old <;> rfl

theorem mem_joinReserved {m : TxMsg} (h : m.content.kind ≠ .eventReport) (q : List TxMsg) : m ∈ joinReserved m q := by
  unfold joinReserved
  split
  · next hany =>
    obtain ⟨e, he, hkind⟩ := List.any_eq_true.1 hany
    exact List.mem_map.2 ⟨e, he, by rw [if_pos (by simpa using hkind), coalesced_new h]⟩
  · simp

/-- A message handed over to the report address is in the queue (R106, R135). -/
theorem mem_handReport {c : TxContent} {s : State} {dest : Byte} (hdest : s.config.report = some dest)
    (hc : c.kind ≠ .eventReport) : ⟨dest, c⟩ ∈ (handReport c s).cue.txq := by
  simp only [handReport, hdest]
  exact mem_joinReserved hc _

/-! ### TALLY and AMARK (R164, R165) -/

section
variable (s : State)

theorem field_cueOutputs (chk : Checks) :
    (scrub chk (beforeScrub s)).gate.tally = (beforePunch s).gate.tally
      ∧ (scrub chk (beforeScrub s)).gate.tallyCountdown = (beforePunch s).gate.tallyCountdown
      ∧ (scrub chk (beforeScrub s)).gate.amark = (beforePunch s).gate.amark := by
  rw [field_gate]
  simp

theorem updateTally_spec (entered : Bool) :
    match s.config.tallyMode with
    | .off => (updateTally entered s).gate.tally = false
    | .pulse =>
      (updateTally entered s).gate.tallyCountdown = (if entered then s.config.tallyLength else s.gate.tallyCountdown - 1)
        ∧ (updateTally entered s).gate.tally = decide (1 ≤ (updateTally entered s).gate.tallyCountdown)
    | .toggle => (updateTally entered s).gate.tally = if entered then !s.gate.tally else s.gate.tally := by
  cases h : s.config.tallyMode
  case off => simp [updateTally, h]
  case pulse => simp [updateTally, h, Nat.succ_le_iff]
  case toggle => cases entered <;> simp [updateTally, h]

theorem updateAmark_spec : (updateAmark s).gate.amark = match s.config.amarkMode with
    | .off => false
    | .phase0 => decide (s.pcu.snapshot.cadenceState = .locked ∧ s.pcu.snapshot.cadencePhase = some 0) := by
  cases h : s.config.amarkMode <;> simp [updateAmark, h]

/-- TALLY at a field start (R164). -/
theorem field_tally (chk : Checks) :
    match s.config.tallyMode with
    | .off => (scrub chk (beforeScrub s)).gate.tally = false
    | .pulse =>
      (scrub chk (beforeScrub s)).gate.tallyCountdown = (if s.bankAtField.scene.start ≠ s.resolver.lastScene then
          s.config.tallyLength else s.gate.tallyCountdown - 1)
        ∧ (scrub chk (beforeScrub s)).gate.tally = decide (1 ≤ (scrub chk (beforeScrub s)).gate.tallyCountdown)
    | .toggle => (scrub chk (beforeScrub s)).gate.tally
        = if s.bankAtField.scene.start ≠ s.resolver.lastScene then !s.gate.tally else s.gate.tally := by
  obtain ⟨htally, hcount, -⟩ := field_cueOutputs s chk
  have h := updateTally_spec (closeClip (enterScene s.counted)) (openField s).entersScene
  have hgate : (closeClip (enterScene s.counted)).gate = s.gate := by simp [State.counted, openField]
  have hconfig : (closeClip (enterScene s.counted)).config = s.config := by simp [State.counted, openField]
  rw [hgate, hconfig, openField_entersScene] at h
  simp only [decide_eq_true_eq] at h
  have hbefore : (beforePunch s).gate.tally = (updateTally (decide (s.bankAtField.scene.start ≠ s.resolver.lastScene))
        (closeClip (enterScene s.counted))).gate.tally
      ∧ (beforePunch s).gate.tallyCountdown = (updateTally
        (decide (s.bankAtField.scene.start ≠ s.resolver.lastScene)) (closeClip (enterScene s.counted))).gate.tallyCountdown := by
    rw [← openField_entersScene, beforePunch]
    exact ⟨updateAmark_gate_tally _, updateAmark_gate_tallyCountdown _⟩
  rw [htally, hcount, hbefore.1, hbefore.2]
  exact h

theorem field_amark (chk : Checks) : (scrub chk (beforeScrub s)).gate.amark = match s.config.amarkMode with
    | .off => false
    | .phase0 => decide (s.pcu.cadenceState = .locked ∧ s.pcu.cadencePhase = some 0) := by
  obtain ⟨-, -, hamark⟩ := field_cueOutputs s chk
  have hsnap : (updateTally (openField s).entersScene (closeClip (enterScene (countHoldback (openField s))))).pcu.snapshot
      = (openField s).pcu.snapshot := by simp
  have hconfig : (updateTally (openField s).entersScene (closeClip (enterScene (countHoldback (openField s))))).config
      = s.config := by simp [openField]
  rw [hamark, beforePunch, updateAmark_spec, hsnap, hconfig, openField_snapshot]

end

/-- Settles O27: a field start counts the hold-back, then enters its scene (`counted_slot`, `enterScene_loads`,
`enterScene_hands`); nothing but a field start or a reset changes the signals (`Acts.signals`). -/
theorem sceneEntryDrivesItsSignals : Obligations.SceneEntryDrivesItsSignals := by
  refine ⟨⟨?loads, ?counts, ?hands, ?last, ?silent, ?expiry⟩, ?outputs, ?pulseEnd, ?stands⟩
  case loads =>
    intro s chk hup hback hnew
    obtain ⟨hlast, hslot, hcount⟩ := field_scene s chk
    have henters : s.counted.entersScene = true := by rw [counted_entersScene]; exact decide_eq_true hnew
    have hload := enterScene_loads s.counted henters (by rw [counted_config]; omega)
    rw [hload] at hlast hslot hcount
    refine ⟨_, exec_fieldStart hup chk, hlast.trans ?_, hcount.trans ?_, hslot.trans ?_⟩
    · exact congrArg (·.scene.start) (counted_active s)
    · exact congrArg Config.holdback (counted_config s)
    · exact congrArg some (counted_sceneEntry s)
  case counts =>
    intro s chk e hup hsame hslot hmore
    obtain ⟨hlast, hslot', hcount⟩ := field_scene s chk
    have hnot : s.counted.entersScene = false := by rw [counted_entersScene]; simpa using hsame
    obtain ⟨hcslot, hccount⟩ := counted_slot s
    rw [enterScene_not _ hnot] at hlast hslot' hcount
    refine ⟨_, exec_fieldStart hup chk, ?_, ?_, ?_⟩
    · rw [hslot', hcslot, if_neg (by omega), hslot]
    · rw [hcount, hccount (by simp [hslot])]
    · rw [hlast, counted_lastScene]
  case hands =>
    intro s chk hup hback hnew
    obtain ⟨hlast, hslot, -⟩ := field_scene s chk
    have henters : s.counted.entersScene = true := by rw [counted_entersScene]; exact decide_eq_true hnew
    have hhand := enterScene_hands s.counted henters (by rw [counted_config]; exact hback)
    rw [hhand, handReport_resolver] at hlast hslot
    refine ⟨_, exec_fieldStart hup chk, hlast.trans (congrArg (·.scene.start) (counted_active s)), fun hnone => ?_,
      fun dest hdest => ?_⟩
    · rw [hslot]
      show s.counted.resolver.slot = none
      rw [(counted_slot s).1, hnone, ite_self]
    · have hmem := mem_handReport (c := .sceneEntered s.counted.sceneEntry)
        (s := { s.counted with resolver := { s.counted.resolver with
          lastScene := s.counted.pipeline.active.scene.start } })
        (dest := dest) (by rw [← hdest]; exact congrArg Config.report (counted_config s)) (by simp [TxContent.kind])
      rw [← hhand, counted_sceneEntry] at hmem
      exact (field_reports_entered s chk).queued _ hmem (by simp [TxContent.kind])
  case last =>
    intro s chk e hup hslot hone
    obtain ⟨-, hslot', hcount⟩ := field_scene s chk
    obtain ⟨hcslot, hccount⟩ := counted_slot s
    refine ⟨_, exec_fieldStart hup chk, fun hsame => ?_, fun hkept dest hdest => ?_⟩
    · have hnot : s.counted.entersScene = false := by rw [counted_entersScene]; simpa using hsame
      rw [enterScene_not _ hnot] at hslot' hcount
      rw [hslot', hcount, hcslot, hccount (by simp [hslot]), hone]
      exact ⟨rfl, rfl⟩
    · have hcounted := countHoldback_last (openField s) (by rw [(openField_slot s).1]; exact hslot)
        (by rw [(openField_slot s).2]; exact hone)
      have hmem := mem_handReport (c := .sceneEntered e)
        (s := { openField s with resolver.slot := none, resolver.countdown := 0 }) (dest := dest)
        (by rw [← hdest]; exact congrArg Config.report (by simp [openField])) (by simp [TxContent.kind])
      rw [← hcounted] at hmem
      have hqueue : (enterScene s.counted).cue = s.counted.cue := by
        cases henters : s.counted.entersScene
        case false => rw [enterScene_not _ henters]
        case true =>
          have hback : 1 ≤ s.config.holdback := hkept.resolve_left (by simpa [counted_entersScene] using henters)
          rw [enterScene_loads _ henters (by rw [counted_config]; omega)]
      exact (field_reports_entered s chk).queued _ (by rw [hqueue]; exact hmem) (by simp [TxContent.kind])
  case silent =>
    intro s chk hup hnone
    exact ⟨_, exec_fieldStart hup chk, field_silent s chk hnone⟩
  case expiry =>
    intro s hup hslot hone
    have hends : s.holdbackEnds = true := by simp [State.holdbackEnds, hup, hslot, hone]
    refine ⟨_, ?_, exec_fieldStart hup Checks.clean⟩
    rw [← exec_fieldStart hup Checks.clean]
    exact (expiries_are_field_starts s).1 hends
  case outputs =>
    intro s chk hup
    exact ⟨_, exec_fieldStart hup chk, field_tally s chk, field_amark s chk⟩
  case pulseEnd =>
    intro s hup hpulse hone hsame
    have hends : s.tallyEnds = true := by simp [State.tallyEnds, hup, hpulse, hone, openField_entersScene, hsame]
    have htally := field_tally s Checks.clean
    simp only [hpulse, hsame, ne_eq, not_true_eq_false, if_false, hone] at htally
    refine ⟨_, ?_, exec_fieldStart hup Checks.clean, htally.1, by rw [htally.2, htally.1]; rfl⟩
    rw [← exec_fieldStart hup Checks.clean]
    exact (expiries_are_field_starts s).2.1 hends
  case stands =>
    intro c s t hfield hother hexec
    have hc : isFieldStart c = false := by
      cases c
      case fieldStart chk => exact absurd rfl (hfield chk)
      case holdbackExpiry | tallyPulseEnd | statusCountdownExpiry => simp at hother
      all_goals rfl
    have h := (acts_of_exec hexec).signals hc (by simp_all)
    simpa [State.signals] using h

end Sys2Proof.Machine
end

section
/-! PROOF. The punch at the field starts (R156 to R160). -/

namespace Sys2Proof.Machine

/-! ### An armed punch in a field (R157 to R159) -/

section
variable {s : State} (omitted : Bool)

theorem evalArmed_fires (h : punchFires s = true) : (evalArmed omitted s).gate = { s.gate with
    gate := !omitted,
    punch := { s.gate.punch with
      state := .recording, overwrite := s.gate.punch.unread, inStamp := s.pcu.snapshot.fieldCount, outStamp := 0,
      unread := true } } := by
  simp [evalArmed, h]

theorem evalArmed_misses (h : punchFires s = false) (hm : punchMissed s = true) : (evalArmed omitted s).gate =
    { s.gate with target := none, lastEval := none, punch := { s.gate.punch with state := .missed } } := by
  simp [evalArmed, h, hm]

theorem evalArmed_waits (h : punchFires s = false) (hm : punchMissed s = false) :
    (evalArmed omitted s).gate = { s.gate with lastEval := some s.pcu.snapshot.gateFrame } := by
  simp [evalArmed, h, hm]

theorem evalArmed_isIn (hup : s.up = true) (h : punchFires s = true ∨ punchMissed s = true) :
    EventFlag.punchEvent.isIn (evalArmed omitted s).events.flags = true := by
  unfold evalArmed
  dsimp only
  split
  · exact raise_isIn _ _ hup
  · next hf =>
    rw [if_pos (h.resolve_left hf)]
    exact raise_isIn _ _ hup

end

section
variable (s : State)

/-- The target of an armed punch in the field that starts (R157). -/
def State.fieldTarget : Option Nat :=
  match s.gate.punch.align, s.pcu.cadenceState, s.pcu.cadencePhase with
  | true, .locked, some p =>
    some (s.gate.punch.inFrame + (((s.pcu.gateFrame : Int) - p.toNat - s.gate.punch.inFrame) % 4).toNat)
  | _, _, _ => s.gate.target

theorem beforePunch_snapshot : (beforePunch s).pcu.snapshot = ⟨s.pcu.fieldCount + 1, (s.pcu.fieldCount + 1).getLsbD 0,
    s.pcu.gateFrame, s.pcu.fieldsInFrame, s.pcu.cadencePhase, s.pcu.cadenceState, s.pcu.positionState, s.pcu.speedClass,
    s.pcu.direction, s.pcu.rangeClamp⟩ := by
  rw [beforePunch_pcu, openField_snapshot]

theorem beforePunch_gate : (beforePunch s).gate.punch = s.gate.punch ∧ (beforePunch s).gate.target = s.gate.target
    ∧ (beforePunch s).gate.lastEval = s.gate.lastEval ∧ (beforePunch s).gate.gate = s.gate.gate := by
  simp [beforePunch, openField]

theorem punchTarget_field : punchTarget (beforePunch s) = s.fieldTarget := by
  obtain ⟨hpunch, htarget, -, -⟩ := beforePunch_gate s
  unfold punchTarget State.fieldTarget
  rw [beforePunch_snapshot, hpunch, htarget]
  cases s.gate.punch.align <;> cases s.pcu.cadenceState <;> cases s.pcu.cadencePhase <;> rfl

/-- The state an armed punch is evaluated in: its target worked out. -/
def State.armedField : State :=
  { beforePunch s with gate := { (beforePunch s).gate with target := s.fieldTarget } }

theorem evalPunch_armed (omitted : Bool) (h : s.gate.punch.state = .armed) :
    evalPunch omitted (beforePunch s) = evalArmed omitted s.armedField := by
  have hstate : (beforePunch s).gate.punch.state = .armed := by rw [(beforePunch_gate s).1]; exact h
  simp only [evalPunch, hstate, punchTarget_field]
  rfl

theorem evalPunch_recording (omitted : Bool) (h : s.gate.punch.state = .recording) :
    evalPunch omitted (beforePunch s) = evalRecording omitted (beforePunch s) := by
  have hstate : (beforePunch s).gate.punch.state = .recording := by rw [(beforePunch_gate s).1]; exact h
  simp only [evalPunch, hstate]

theorem armedField_gate : s.armedField.gate.punch = s.gate.punch ∧ s.armedField.gate.target = s.fieldTarget
    ∧ s.armedField.gate.lastEval = s.gate.lastEval ∧ s.armedField.gate.gate = s.gate.gate := by
  obtain ⟨hpunch, -, hlast, hgate⟩ := beforePunch_gate s
  exact ⟨hpunch, rfl, hlast, hgate⟩

theorem armedField_up : s.armedField.up = s.up := up_of_part (beforePunch_part s)

theorem armedField_snapshot : s.armedField.pcu.snapshot = (beforePunch s).pcu.snapshot := rfl

/-- When an armed punch fires in the field that starts (R158). -/
theorem punchFires_field : punchFires s.armedField = true ↔ s.part = .running ∧ s.fieldTarget = some s.pcu.gateFrame
    ∧ s.pcu.gateFrame ≤ s.gate.punch.outFrame ∧ s.pcu.fieldsInFrame = 0 ∧ s.pcu.positionState = .placed
    ∧ s.pcu.speedClass = .sound ∧ s.pcu.direction = .fwd
    ∧ (s.gate.punch.align = false ∨ s.pcu.cadenceState = .locked) := by
  obtain ⟨hpunch, htarget, -, -⟩ := armedField_gate s
  have hpart : s.armedField.part = s.part := beforePunch_part s
  simp only [punchFires, hpart, htarget, hpunch, armedField_snapshot, beforePunch_snapshot, Bool.and_eq_true,
    decide_eq_true_eq, Bool.or_eq_true, Bool.not_eq_true', and_assoc]

/-- When the film passes an armed punch's target or out frame at the field that starts (R159). -/
theorem punchMissed_field : punchMissed s.armedField = true ↔ ∃ last x, s.gate.lastEval = some last
    ∧ (s.fieldTarget = some x ∨ s.gate.punch.outFrame = x) ∧ last ≤ x ∧ x < s.pcu.gateFrame := by
  obtain ⟨hpunch, htarget, hlast, -⟩ := armedField_gate s
  simp only [punchMissed, hpunch, htarget, hlast, armedField_snapshot, beforePunch_snapshot]
  cases s.gate.lastEval <;> cases s.fieldTarget <;> simp [passes]

/-- What a field start raises stays raised to its end. -/
theorem field_isIn (chk : Checks) (f : EventFlag)
    (h : f.isIn (evalPunch (openField s).fieldOmitted (beforePunch s)).events.flags = true) :
    f.isIn (scrub chk (beforeScrub s)).events.flags = true := by
  have hstatus : Reports ToReport (evalPunch (openField s).fieldOmitted (beforePunch s)) (beforeStatus s) :=
    .of_eq (by simp [beforeStatus]) (by simp [beforeStatus]) (by simp [beforeStatus]) (by simp [beforeStatus])
  exact ((hstatus.trans (.countStatus (.inr (.inr rfl)) _)).trans (.scrub (.inl rfl) chk _)).flags f h

end

/-! ### A recording punch in a field (R160) -/

section
variable {s : State} (omitted : Bool)

theorem evalRecording_ends (h : s.gate.punch.outFrame < s.pcu.snapshot.gateFrame) : (evalRecording omitted s).gate =
    { s.gate with gate := false, punch := { s.gate.punch with
      state := .done, outStamp := s.pcu.snapshot.fieldCount, unread := true } } := by
  simp [evalRecording, h]

theorem evalRecording_isIn (hup : s.up = true) (h : s.gate.punch.outFrame < s.pcu.snapshot.gateFrame) :
    EventFlag.punchEvent.isIn (evalRecording omitted s).events.flags = true := by
  simp only [evalRecording, if_pos h]
  exact raise_isIn _ _ hup

theorem evalRecording_records {f : Nat} (h : s.pcu.snapshot.gateFrame ≤ s.gate.punch.outFrame)
    (htarget : s.gate.target = some f) : (evalRecording omitted s).gate =
      { s.gate with gate := decide (f ≤ s.pcu.snapshot.gateFrame) && !omitted } := by
  simp [evalRecording, Nat.not_lt.2 h, htarget]

end

/-- An armed punch that does not fire waits or is missed; GATE stands. -/
theorem armed_not_fired {s : State} (omitted : Bool) (harmed : s.gate.punch.state = .armed)
    (hnot : punchFires s.armedField = false) :
    (evalPunch omitted (beforePunch s)).gate.gate = s.gate.gate
      ∧ ((evalPunch omitted (beforePunch s)).gate.punch = s.gate.punch
        ∨ (evalPunch omitted (beforePunch s)).gate.punch = { s.gate.punch with state := .missed }) := by
  obtain ⟨hpunch, -, -, hgate⟩ := armedField_gate s
  rw [evalPunch_armed s omitted harmed]
  cases hm : punchMissed s.armedField
  case false => rw [evalArmed_waits omitted hnot hm]; exact ⟨hgate, .inl hpunch⟩
  case true => rw [evalArmed_misses omitted hnot hm]; exact ⟨hgate, .inr (by rw [hpunch])⟩

/-- Settles O28: an armed punch fires, waits or is missed by its field (`punchFires_field`, `punchMissed_field`), a
recording one records or ends. -/
theorem punchFollowsTheFields : Obligations.PunchFollowsTheFields := by
  refine ⟨?fires, ?waits, ?above, ?ends, ?records, ?missed⟩
  case fires =>
    intro s chk omitted hrun harmed hfirst hplaced hsound hfwd hout htarget homit
    have hup : s.up = true := by simp [State.up, hrun]
    have hat : s.fieldTarget = some s.pcu.gateFrame := by
      cases halign : s.gate.punch.align
      case false => simpa [State.fieldTarget, halign] using htarget
      case true =>
        obtain ⟨hlocked, hphase, hfrom, hto⟩ : s.pcu.cadenceState = .locked ∧ s.pcu.cadencePhase = some 0
            ∧ s.gate.punch.inFrame ≤ s.pcu.gateFrame ∧ s.pcu.gateFrame < s.gate.punch.inFrame + 4 := by
          simpa [halign] using htarget
        simp [State.fieldTarget, halign, hlocked, hphase]
        omega
    have hlocked : s.gate.punch.align = false ∨ s.pcu.cadenceState = .locked := by
      cases halign : s.gate.punch.align
      case false => exact .inl rfl
      case true =>
        rw [halign, if_pos rfl] at htarget
        exact .inr htarget.1
    have hfires : punchFires s.armedField = true := (punchFires_field s).2
      ⟨hrun, hat, hout, hfirst, hplaced, hsound, hfwd, hlocked⟩
    obtain ⟨hpunch, htarget', -, -⟩ := armedField_gate s
    have hgate := (field_gate s chk).trans (by rw [evalPunch_armed s _ harmed, evalArmed_fires _ hfires])
    refine ⟨_, exec_fieldStart hup chk, ?_, ?_, ?_, ?_⟩
    · rw [hgate, armedField_snapshot, beforePunch_snapshot, hpunch]
    · rw [hgate]
      exact htarget'.trans hat
    · refine field_isIn s chk _ ?_
      rw [evalPunch_armed s _ harmed]
      exact evalArmed_isIn _ ((armedField_up s).trans hup) (.inl hfires)
    · rw [hgate, homit, openField_fieldOmitted]
  case waits =>
    rintro s chk target hup harmed rfl hnot
    have hnot : punchFires s.armedField = false := by
      rw [Bool.eq_false_iff, Ne, punchFires_field]
      rintro ⟨hrun, htarget, -, hfirst, hplaced, hsound, hfwd, hlocked⟩
      obtain h | h | h | h | h | h | ⟨halign, h⟩ := hnot
      · exact h hrun
      · exact h htarget
      · exact h hfirst
      · exact h hplaced
      · exact h hsound
      · exact h hfwd
      · exact h (hlocked.resolve_left (by simp [halign]))
    obtain ⟨hgate, hpunch⟩ := armed_not_fired (openField s).fieldOmitted harmed hnot
    rw [← field_gate s chk] at hgate hpunch
    refine ⟨_, exec_fieldStart hup chk, hgate, hpunch, fun hstays => ?_⟩
    have hmiss : punchMissed s.armedField = false := by
      rw [Bool.eq_false_iff, Ne, punchMissed_field]
      rintro ⟨last, x, hlast, hx, hpassed⟩
      exact hstays last x hlast hx hpassed
    obtain ⟨hpunch, htarget, -, -⟩ := armedField_gate s
    rw [field_gate, evalPunch_armed s _ harmed, evalArmed_waits _ hnot hmiss, armedField_snapshot, beforePunch_snapshot]
    exact ⟨hpunch, htarget, rfl⟩
  case above =>
    intro s chk hup harmed hout
    have hnot : punchFires s.armedField = false := by
      rw [Bool.eq_false_iff, Ne, punchFires_field]
      omega
    have hstands := armed_not_fired (openField s).fieldOmitted harmed hnot
    rw [← field_gate s chk] at hstands
    exact ⟨_, exec_fieldStart hup chk, hstands⟩
  case ends =>
    intro s chk hup hrec hout
    have hout' : (beforePunch s).gate.punch.outFrame < (beforePunch s).pcu.snapshot.gateFrame := by
      rw [(beforePunch_gate s).1, beforePunch_snapshot]; exact hout
    have hup' : (beforePunch s).up = true := (up_of_part (beforePunch_part s)).trans hup
    refine ⟨_, exec_fieldStart hup chk, ?_, ?_, field_isIn s chk _ ?_⟩
    · rw [field_gate, evalPunch_recording s _ hrec, evalRecording_ends _ hout']
    · rw [field_gate, evalPunch_recording s _ hrec, evalRecording_ends _ hout', beforePunch_snapshot,
        (beforePunch_gate s).1]
    · rw [evalPunch_recording s _ hrec]
      exact evalRecording_isIn _ hup' hout'
  case records =>
    intro s chk f omitted hup hrec htarget hout homit
    obtain ⟨hpunch, htarget', -, -⟩ := beforePunch_gate s
    have hout' : (beforePunch s).pcu.snapshot.gateFrame ≤ (beforePunch s).gate.punch.outFrame := by
      rw [hpunch, beforePunch_snapshot]; exact hout
    refine ⟨_, exec_fieldStart hup chk, ?_⟩
    rw [field_gate, evalPunch_recording s _ hrec, evalRecording_records _ hout' (htarget'.trans htarget),
      beforePunch_snapshot, homit, openField_fieldOmitted]
    exact ⟨hpunch, htarget', rfl⟩
  case missed =>
    rintro s chk target last x hup harmed hlast rfl hx hle hlt
    have hmiss : punchMissed s.armedField = true := (punchMissed_field s).2 ⟨last, x, hlast, hx, hle, hlt⟩
    have hnot : punchFires s.armedField = false := by
      rw [Bool.eq_false_iff, Ne, punchFires_field]
      rintro ⟨-, htarget, hout, -⟩
      obtain hx | hx := hx
      · have := htarget.symm.trans hx
        simp only [Option.some.injEq] at this
        omega
      · omega
    have hpunch := (armedField_gate s).1
    refine ⟨_, exec_fieldStart hup chk, ?_, ?_, ?_, field_isIn s chk _ ?_⟩
    · rw [field_gate, evalPunch_armed s _ harmed, evalArmed_misses _ hnot hmiss]
    · rw [field_gate, evalPunch_armed s _ harmed, evalArmed_misses _ hnot hmiss]
    · rw [field_gate, evalPunch_armed s _ harmed, evalArmed_misses _ hnot hmiss, hpunch]
    · rw [evalPunch_armed s _ harmed]
      exact evalArmed_isIn _ ((armedField_up s).trans hup) (.inr hmiss)

end Sys2Proof.Machine
end

section
/-! PROOF. The store layer of the clauses on checks: a lookup whose checks pass changes nothing, one that finds a new
faulty entry marks it and no other (R173), and what a body read that finds an error leaves (R168 to R171). -/

namespace Sys2Proof.Machine

/-! ### A lookup whose checks pass -/

/-- No sound entry of the list fails parity. -/
abbrev Passes (chk : Checks) (idx : List Entry) : Prop := ∀ n ∈ soundStarts idx, n ∉ chk.parity

theorem passes_of_nil {chk : Checks} (h : chk.parity = []) (idx : List Entry) : Passes chk idx :=
  fun _ _ => by rw [h]; exact List.not_mem_nil

theorem examine_passes (stop : Nat → Bool) {bad : List Nat} {idx : List Entry}
    (h : ∀ n ∈ soundStarts idx, n ∉ bad) : examine stop bad idx = (idx, false) := by
  induction idx with
  | nil => rfl
  | cons e es ih =>
    rw [soundStarts_cons] at h
    unfold examine
    cases hf : e.faulty
    · rw [hf] at h
      have he : bad.contains e.start = false := by simpa using h e.start List.mem_cons_self
      rw [ih fun n hn => h n (List.mem_cons_of_mem _ hn), he]
      cases stop e.start <;> rfl
    · rw [hf] at h
      rw [ih h]
      rfl

theorem examineStore_passes (stop : Nat → Bool) {chk : Checks} {s : State} (h : Passes chk s.store.index) :
    examineStore stop chk s = (s, false) :=
  examineStore_clean s stop chk (by rw [examine_passes stop h])

/-! ### Lookups see the sound entries alone -/

theorem mem_soundEntries {e : Entry} {idx : List Entry} : e ∈ soundEntries idx ↔ e ∈ idx ∧ e.faulty = false := by
  simp [soundEntries]

theorem recordAtStart_sound (n : Nat) (idx : List Entry) :
    recordAtStart n idx = (soundEntries idx).find? (fun e => decide (e.start = n)) := by
  simp [recordAtStart, soundEntries, List.find?_filter]

theorem firstFrom_sound (n : Nat) (idx : List Entry) :
    firstFrom n idx = (soundEntries idx).find? (fun e => decide (n ≤ e.start)) := by
  simp [firstFrom, soundEntries, List.find?_filter]

theorem nextAfter_sound (n : Nat) (idx : List Entry) :
    nextAfter n idx = (soundEntries idx).find? (fun e => decide (n < e.start)) := by
  simp [nextAfter, soundEntries, List.find?_filter]

theorem governing_sound (f : Nat) (idx : List Entry) :
    governing f idx = ((soundEntries idx).filter (fun e => decide (e.start ≤ f))).getLast? := by
  simp only [governing, soundEntries, List.filter_filter, Bool.and_comm]

/-! ### A new faulty entry -/

/-- The list with one entry marked faulty. -/
abbrev markFaulty (e : Entry) (idx : List Entry) : List Entry :=
  idx.map (fun x => if x = e then { e with faulty := true } else x)

theorem soundEntries_markFaulty (e : Entry) (idx : List Entry) :
    soundEntries (markFaulty e idx) = (soundEntries idx).filter (fun x => decide (x ≠ e)) := by
  induction idx with
  | nil => rfl
  | cons x xs ih =>
    simp only [markFaulty, soundEntries] at ih
    by_cases hx : x = e
    · subst hx
      cases hf : x.faulty <;> simp [markFaulty, soundEntries, hf, ih]
    · cases hf : x.faulty <;> simp [markFaulty, soundEntries, hf, hx, ih]

theorem markFaulty_absent {e : Entry} {idx : List Entry} (h : e ∉ idx) : markFaulty e idx = idx := by
  refine (List.map_congr_left fun x hx => ?_).trans (List.map_id idx)
  have hne : x ≠ e := fun hxe => h (hxe ▸ hx)
  rw [if_neg hne]
  rfl

/-- The sound entries strictly ascend, so no other sound entry has the start of one (R21). -/
theorem eq_of_start_eq {e x : Entry} {idx : List Entry} (hord : (soundEntries idx).Pairwise (fun a b => a.start < b.start))
    (he : e ∈ soundEntries idx) (hx : x ∈ soundEntries idx) (h : x.start = e.start) : x = e := by
  generalize soundEntries idx = l at *
  induction hord with
  | nil => cases he
  | cons hlater _ ih =>
    rcases List.mem_cons.1 he with rfl | he' <;> rcases List.mem_cons.1 hx with rfl | hx'
    · rfl
    · have := hlater x hx'
      omega
    · have := hlater e he'
      omega
    · exact ih he' hx'

/-- A lookup that reaches a sound entry that fails parity marks it, and no other. -/
theorem examine_new_fault {stop : Nat → Bool} {e : Entry} {idx : List Entry} (he : e ∈ idx) (hf : e.faulty = false)
    (hord : (soundStarts idx).Pairwise (· < ·)) (hreach : ∀ n ∈ soundStarts idx, n < e.start → stop n = false) :
    examine stop [e.start] idx = (markFaulty e idx, true) := by
  induction idx with
  | nil => cases he
  | cons x xs ih =>
    rw [soundStarts_cons] at hord hreach
    unfold examine
    cases hx : x.faulty
    · rw [hx] at hord hreach
      obtain ⟨hbelow, hord⟩ := List.pairwise_cons.1 hord
      by_cases hxe : x = e
      · subst hxe
        have habsent : x ∉ xs := fun h => absurd (hbelow _ (mem_soundStarts.2 ⟨x, h, hf, rfl⟩)) (Nat.lt_irrefl _)
        have hrest := examine_passes stop (bad := [x.start]) (idx := xs) fun n hn hb => by
          have := hbelow n hn
          simp only [List.mem_singleton] at hb
          omega
        simp [hrest, markFaulty_absent habsent]
      · have he : e ∈ xs := (List.mem_cons.1 he).resolve_left fun h => hxe h.symm
        have hlt := hbelow _ (mem_soundStarts.2 ⟨e, he, hf, rfl⟩)
        have hstop := hreach x.start List.mem_cons_self hlt
        rw [ih he hord fun n hn => hreach n (List.mem_cons_of_mem _ hn)]
        simp [hstop, hxe, Nat.ne_of_lt hlt]
    · rw [hx] at hord hreach
      have hxe : x ≠ e := fun h => by rw [h, hf] at hx; cases hx
      have he : e ∈ xs := (List.mem_cons.1 he).resolve_left fun h => hxe h.symm
      rw [ih he hord hreach]
      simp [hxe]

/-- The state in which one entry was found faulty (R173). -/
def State.withFaulty (e : Entry) (s : State) : State :=
  raise .indexFault { s with store.index := markFaulty e s.store.index, store.frozen := true }

theorem ListWork.withFaulty (e : Entry) (s : State) : ListWork s (s.withFaulty e) :=
  .trans (.store { s.store with index := markFaulty e s.store.index, frozen := true } s) (.raise _ _)

theorem withFaulty_store (e : Entry) (s : State) :
    (s.withFaulty e).store = { s.store with index := markFaulty e s.store.index, frozen := true } := by
  rw [State.withFaulty, raise_store]

theorem withFaulty_events (e : Entry) (s : State) :
    (s.withFaulty e).events = { s.events with flags := (s.withFaulty e).events.flags } := raise_events _ _

theorem withFaulty_isIn (e : Entry) {s : State} (hup : s.up = true) :
    EventFlag.indexFault.isIn (s.withFaulty e).events.flags = true := raise_isIn _ _ hup

theorem examineStore_new_fault {stop : Nat → Bool} {e : Entry} {s : State} (h : s.store.ok) (he : e ∈ s.store.index)
    (hf : e.faulty = false) (hreach : ∀ n ∈ soundStarts s.store.index, n < e.start → stop n = false) :
    examineStore stop ⟨[], [e.start]⟩ s = (s.withFaulty e, true) := by
  have hx := examine_new_fault he hf ((pairwise_starts_iff _).1 h.2.2.1) hreach
  unfold examineStore
  dsimp only
  rw [hx]
  rfl

/-- The entry marked, its start is no sound one: the checks of the same step pass from there on. -/
theorem passes_markFaulty {e : Entry} {st : Store} (h : st.ok) (he : e ∈ st.index) (hf : e.faulty = false) :
    Passes ⟨[], [e.start]⟩ (markFaulty e st.index) := by
  intro n hn hb
  obtain rfl := List.mem_singleton.1 hb
  obtain ⟨x, hx, hxs⟩ := List.mem_map.1 hn
  rw [soundEntries_markFaulty, List.mem_filter] at hx
  exact of_decide_eq_true hx.2 (eq_of_start_eq h.2.2.1 (mem_soundEntries.2 ⟨he, hf⟩) hx.1 hxs)

theorem withFaulty_passes {e : Entry} {s : State} (h : s.store.ok) (he : e ∈ s.store.index) (hf : e.faulty = false) :
    Passes ⟨[], [e.start]⟩ (s.withFaulty e).store.index := by
  rw [withFaulty_store]
  exact passes_markFaulty h he hf

/-- The sound entries without one of them are those at the other starts. -/
theorem soundEntries_without {e : Entry} {st : Store} (h : st.ok) (he : e ∈ st.index) (hf : e.faulty = false) :
    soundEntries (markFaulty e st.index) = (soundEntries st.index).filter (fun x => decide (x.start ≠ e.start)) := by
  rw [soundEntries_markFaulty]
  refine List.filter_congr fun x hx => ?_
  rw [decide_eq_decide]
  exact not_congr ⟨fun h => h ▸ rfl, eq_of_start_eq h.2.2.1 (mem_soundEntries.2 ⟨he, hf⟩) hx⟩

theorem soundEntries_removeEntry (n : Nat) (idx : List Entry) :
    soundEntries (removeEntry n idx) = (soundEntries idx).filter (fun x => decide (x.start ≠ n)) := by
  simp only [soundEntries, removeEntry, List.filter_filter]
  refine List.filter_congr fun x _ => ?_
  cases x.faulty <;> simp

theorem recordAtStart_markFaulty {e : Entry} {st : Store} (h : st.ok) (he : e ∈ st.index) (hf : e.faulty = false)
    (n : Nat) :
    recordAtStart n (markFaulty e st.index) = if n = e.start then none else recordAtStart n st.index := by
  rw [← recordAtStart_removeEntry, recordAtStart_sound, recordAtStart_sound, soundEntries_without h he hf,
    soundEntries_removeEntry]

/-! ### The lookups of a list without one entry -/

/-- With its governing record out of the list a frame falls to the record before it, or to none (R23, R34). -/
theorem governing_without {e : Entry} {idx idx' : List Entry} {f : Nat}
    (hord : (soundEntries idx).Pairwise (fun a b => a.start < b.start))
    (hout : soundEntries idx' = (soundEntries idx).filter (fun x => decide (x.start ≠ e.start)))
    (h : governing f idx = some e) :
    (1 ≤ e.start → governing f idx' = governing (e.start - 1) idx) ∧ (e.start = 0 → governing f idx' = none) := by
  rw [governing_sound] at h
  obtain ⟨init, hinit⟩ := List.getLast?_eq_some_iff.1 h
  have hsub := hord.sublist (List.filter_sublist (p := fun x => decide (x.start ≤ f)))
  rw [hinit, List.pairwise_append] at hsub
  have hbelow : ∀ x ∈ (soundEntries idx), x.start ≤ f → x.start ≠ e.start → x.start < e.start := fun x hx hxf hne => by
    have : x ∈ init ++ [e] := hinit ▸ List.mem_filter.2 ⟨hx, decide_eq_true hxf⟩
    rcases List.mem_append.1 this with hx | hx
    · exact hsub.2.2 x hx e List.mem_cons_self
    · exact absurd (congrArg Entry.start (List.mem_singleton.1 hx)) hne
  have hef : e.start ≤ f := by
    have : e ∈ init ++ [e] := by simp
    rw [← hinit] at this
    simpa using (List.mem_filter.1 this).2
  rw [governing_sound, hout, List.filter_filter]
  constructor
  · intro hpos
    rw [governing_sound]
    congr 1
    refine List.filter_congr fun x hx => ?_
    have := hbelow x hx
    rw [← Bool.decide_and, decide_eq_decide]
    omega
  · intro hzero
    rw [List.filter_eq_nil_iff.2 ?_]
    · rfl
    · intro x hx
      have := hbelow x hx
      rw [← Bool.decide_and, decide_eq_true_eq]
      omega

/-- With the record found out of the list, a lookup from there upward finds the next one. -/
theorem find_without {e : Entry} {L : List Entry} {p : Nat → Bool} (hup : ∀ a b, a < b → p a = true → p b = true)
    (hord : L.Pairwise (fun a b => a.start < b.start)) (h : L.find? (fun x => p x.start) = some e) :
    (L.filter (fun x => decide (x.start ≠ e.start))).find? (fun x => p x.start)
      = L.find? (fun x => decide (e.start < x.start)) := by
  have hand : ∀ K : List Entry, (K.filter (fun x => decide (x.start ≠ e.start))).find? (fun x => p x.start)
      = K.find? (fun x => decide (x.start ≠ e.start) && p x.start) := fun K => by
    rw [List.find?_filter]
    simp
  rw [hand]
  have hp := List.find?_some h
  obtain ⟨-, A, B, rfl, hA⟩ := List.find?_eq_some_iff_append.1 h
  have hAe := (List.pairwise_append.1 hord).2.2
  have hB := (List.pairwise_cons.1 (List.pairwise_append.1 hord).2.1).1
  have hlt : ∀ a ∈ A, a.start < e.start := fun a ha => hAe a ha e List.mem_cons_self
  have hnone : A.find? (fun a => decide (a.start ≠ e.start) && p a.start) = none :=
    List.find?_eq_none.2 fun a ha => by
      have hpa : p a.start = false := by simpa using hA a ha
      simp [hpa]
  have hnone' : A.find? (fun a => decide (e.start < a.start)) = none :=
    List.find?_eq_none.2 fun a ha => by
      have := hlt a ha
      simp only [decide_eq_true_eq]
      omega
  simp only [List.find?_append, hnone, hnone', Option.none_or, List.find?_cons]
  simp only [ne_eq, not_true_eq_false, decide_false, Bool.false_and, Nat.lt_irrefl]
  cases B with
  | nil => rfl
  | cons b B =>
    have hb := hB b List.mem_cons_self
    have hpb := hup _ _ hb hp
    have hne : b.start ≠ e.start := by omega
    simp [hb, hpb, hne]

theorem firstFrom_without {e : Entry} {idx idx' : List Entry} {n : Nat}
    (hord : (soundEntries idx).Pairwise (fun a b => a.start < b.start))
    (hout : soundEntries idx' = (soundEntries idx).filter (fun x => decide (x.start ≠ e.start)))
    (h : firstFrom n idx = some e) : firstFrom n idx' = nextAfter e.start idx := by
  rw [firstFrom_sound] at h
  rw [firstFrom_sound, nextAfter_sound, hout]
  refine find_without (p := fun k => decide (n ≤ k)) (fun a b hab => ?_) hord h
  rw [decide_eq_true_eq, decide_eq_true_eq]
  omega

theorem nextAfter_without {e : Entry} {idx idx' : List Entry} {n : Nat}
    (hord : (soundEntries idx).Pairwise (fun a b => a.start < b.start))
    (hout : soundEntries idx' = (soundEntries idx).filter (fun x => decide (x.start ≠ e.start)))
    (h : nextAfter n idx = some e) : nextAfter n idx' = nextAfter e.start idx := by
  rw [nextAfter_sound] at h
  rw [nextAfter_sound, nextAfter_sound, hout]
  refine find_without (p := fun k => decide (n < k)) (fun a b hab => ?_) hord h
  rw [decide_eq_true_eq, decide_eq_true_eq]
  omega

/-! ### What a body read finds -/

/-- A damaged body is not read, and a clean read changes nothing. -/
theorem readBody_undisturbed (op : StoreOp) {chk : Checks} {e : Entry} (s : State)
    (h : e.damaged = true ∨ bodyOutcome chk e.start = .clean) :
    readBody op chk e s = ⟨s, if e.damaged then BodyView.lost else ⟨false, e.body⟩, false⟩ := by
  cases hd : e.damaged
  · rw [readBody_clean _ _ _ _ hd (h.resolve_left (by simp [hd]))]
    rfl
  · rw [readBody_damaged _ _ _ _ hd]
    rfl

/-- A body found correctable (R169, R171). -/
theorem readBody_corrects (op : StoreOp) {chk : Checks} {e : Entry} {syn : Byte} {s : State} (hup : s.up = true)
    (hd : e.damaged = false) (hcap : s.events.capture = ⟨.empty, false⟩)
    (h : bodyOutcome chk e.start = .correctable syn) :
    ∃ t, readBody op chk e s = ⟨t, ⟨false, e.body⟩, true⟩ ∧ ListWork s t ∧ t.store = s.store
      ∧ t.events = { s.events with
          flags := t.events.flags, corrected := min (s.events.corrected + 1) 65535,
          capture := ⟨.holding ⟨.corrected, op, e.start, syn⟩, false⟩ }
      ∧ EventFlag.storeCe.isIn t.events.flags = true := by
  refine ⟨_, readBody_correctable _ _ _ _ syn hd h, ?_, raise_store _ _, ?_, raise_isIn _ _ hup⟩
  · exact .trans (.corrected _ s) (.raise _ _)
  · rw [raise_events, hcap, satInc_eq_min]
    rfl

/-- A body found uncorrectable (R170, R171). -/
theorem readBody_damages (op : StoreOp) {chk : Checks} {e : Entry} {syn : Byte} {s : State} (hup : s.up = true)
    (hd : e.damaged = false) (hcap : s.events.capture = ⟨.empty, false⟩)
    (h : bodyOutcome chk e.start = .uncorrectable syn) :
    ∃ t, readBody op chk e s = ⟨t, BodyView.lost, true⟩ ∧ ListWork s t
      ∧ t.store = { s.store with index := updateEntry e.start (fun e => { e with damaged := true }) s.store.index }
      ∧ t.events = { s.events with
          flags := t.events.flags, damaged := min (s.events.damaged + 1) 65535,
          capture := ⟨.locked ⟨.uncorrectable, op, e.start, syn⟩, false⟩ }
      ∧ EventFlag.storeUe.isIn t.events.flags = true := by
  have hread := readBody_uncorrectable s op chk e syn hd h
  have hwork := ListWork.readBody op chk e s
  rw [hread] at hwork
  refine ⟨_, hread, hwork, raise_store _ _, ?_, raise_isIn _ _ hup⟩
  rw [raise_events, hcap, satInc_eq_min]
  rfl

/-- The damaged mark set at a start. -/
theorem recordAtStart_damage (n k : Nat) (idx : List Entry) :
    recordAtStart n (updateEntry k (fun e => { e with damaged := true }) idx)
      = if n = k then (recordAtStart n idx).map (fun o => { o with damaged := true }) else recordAtStart n idx :=
  recordAtStart_updateEntry n k _ idx fun _ hf hs => ⟨hf, hs⟩

/-- The record a lookup found is the one at its start. -/
theorem recordAtStart_of_mem {e : Entry} {idx : List Entry}
    (hord : (soundEntries idx).Pairwise (fun a b => a.start < b.start)) (he : e ∈ idx) (hf : e.faulty = false) :
    recordAtStart e.start idx = some e := by
  rcases hr : recordAtStart e.start idx with _ | o
  · exact absurd hr (mem_soundStarts_iff_recordAtStart.1 (mem_soundStarts.2 ⟨e, he, hf, rfl⟩))
  · obtain ⟨hs, hof, ho⟩ := recordAtStart_some hr
    rw [eq_of_start_eq hord (mem_soundEntries.2 ⟨he, hf⟩) (mem_soundEntries.2 ⟨ho, hof⟩) hs]

theorem nextAfter_some {n : Nat} {idx : List Entry} {e : Entry} (h : nextAfter n idx = some e) :
    e ∈ idx ∧ e.faulty = false ∧ n < e.start := by
  have hp := List.find?_some h
  simp only [Bool.and_eq_true, Bool.not_eq_true', decide_eq_true_eq] at hp
  exact ⟨List.mem_of_find?_eq_some h, hp⟩

theorem firstFrom_some {n : Nat} {idx : List Entry} {e : Entry} (h : firstFrom n idx = some e) :
    e ∈ idx ∧ e.faulty = false ∧ n ≤ e.start := by
  have hp := List.find?_some h
  simp only [Bool.and_eq_true, Bool.not_eq_true', decide_eq_true_eq] at hp
  exact ⟨List.mem_of_find?_eq_some h, hp⟩

/-- The first of the sound entries at or above a start is the first at its own. -/
theorem find_start {e : Entry} {L : List Entry} {p : Nat → Bool} (h : L.find? (fun x => p x.start) = some e) :
    L.find? (fun x => decide (x.start = e.start)) = some e := by
  have hp := List.find?_some h
  obtain ⟨-, A, B, rfl, hA⟩ := List.find?_eq_some_iff_append.1 h
  refine List.find?_eq_some_iff_append.2 ⟨by simp, A, B, rfl, fun a ha => ?_⟩
  refine Classical.byContradiction fun hsame => ?_
  have hsame : a.start = e.start := by simpa using hsame
  have hpa := hA a ha
  rw [hsame] at hpa
  simp_all

theorem recordAtStart_firstFrom {n : Nat} {e : Entry} {idx : List Entry} (h : firstFrom n idx = some e) :
    recordAtStart e.start idx = some e := by
  rw [firstFrom_sound] at h
  rw [recordAtStart_sound]
  exact find_start (p := fun k => decide (n ≤ k)) h

theorem recordAtStart_nextAfter {n : Nat} {e : Entry} {idx : List Entry} (h : nextAfter n idx = some e) :
    recordAtStart e.start idx = some e := by
  rw [nextAfter_sound] at h
  rw [recordAtStart_sound]
  exact find_start (p := fun k => decide (n < k)) h

theorem governing_some {f : Nat} {idx : List Entry} {e : Entry} (h : governing f idx = some e) :
    e ∈ idx ∧ e.faulty = false ∧ e.start ≤ f := by
  have hmem := List.mem_filter.1 (List.mem_of_getLast? h)
  simp only [Bool.and_eq_true, Bool.not_eq_true', decide_eq_true_eq] at hmem
  exact hmem

end Sys2Proof.Machine
end

section
/-! PROOF. The scrub step (R43, R175) and the status countdown (R178). -/

namespace Sys2Proof.Machine

/-! ### The record a scrub step reads -/

/-- The record at or after the cursor, or the first (R175). -/
def State.scrubs (s : State) (e : Entry) : Prop :=
  firstFrom s.store.scrubCursor s.store.index = some e
    ∨ (firstFrom s.store.scrubCursor s.store.index = none ∧ firstFrom 0 s.store.index = some e)

/-- The start after a record, or 0: where the cursor goes (R175). -/
def cursorAfter (n : Nat) (idx : List Entry) : Nat := ((nextAfter n idx).map Entry.start).getD 0

theorem cursorAfter_eq (n : Nat) (idx : List Entry) : cursorAfter n idx = match nextAfter n idx with
    | none => 0
    | some x => x.start := by
  cases h : nextAfter n idx <;> simp [cursorAfter, h]

/-- A mark for a damaged body moves no start. -/
theorem cursorAfter_damage (n k : Nat) (idx : List Entry) :
    cursorAfter n (updateEntry k (fun e => { e with damaged := true }) idx) = cursorAfter n idx := by
  have hkeeps : ∀ e : Entry, (if !e.faulty && decide (e.start = k) then { e with damaged := true } else e).faulty = e.faulty
      ∧ (if !e.faulty && decide (e.start = k) then { e with damaged := true } else e).start = e.start := fun e => by
    split <;> exact ⟨rfl, rfl⟩
  have hsame : (fun e : Entry => !e.faulty && decide (n < e.start))
      ∘ (fun e : Entry => if !e.faulty && decide (e.start = k) then { e with damaged := true } else e)
      = fun e => !e.faulty && decide (n < e.start) :=
    funext fun e => by simp only [Function.comp_apply, hkeeps e]
  rw [cursorAfter, nextAfter, updateEntry, List.find?_map, hsame, Option.map_map]
  refine congrArg (Option.getD · 0) (Option.map_congr fun e _ => ?_)
  exact (hkeeps e).2

section
variable {s : State} {chk : Checks} {e : Entry}

/-- A held store, or a client that waits: no scrub step (R43). -/
theorem scrub_held (h : s.arbiter.holder ≠ none ∨ s.arbiter.noneWaits = false) : scrub chk s = s := by
  unfold scrub
  rw [if_neg]
  rcases h with h | h <;> simp [h]

/-- A free store gives the scrubber its record, where the checks of its lookups pass. -/
theorem scrub_found (hfree : s.arbiter.holder = none) (hnone : s.arbiter.noneWaits = true)
    (hpass : Passes chk s.store.index) (h : s.scrubs e) :
    scrub chk s = triggerIf (scrubRecord chk e s).2 (scrubRecord chk e s).1 := by
  have hx := examineStore_passes (fun n => decide (s.store.scrubCursor ≤ n)) hpass
  have hy := examineStore_passes (fun _ => true) hpass
  unfold scrub
  dsimp only
  rw [if_pos (by simp [hfree, hnone]), hx]
  dsimp only
  rcases h with h | ⟨h, h'⟩
  · rw [h]
    rfl
  · rw [h]
    dsimp only
    rw [hy, h']
    rfl

/-- A free store without a sound record: the cursor goes to 0. -/
theorem scrub_empty (hfree : s.arbiter.holder = none) (hnone : s.arbiter.noneWaits = true)
    (hpass : Passes chk s.store.index) (h : firstFrom 0 s.store.index = none) :
    scrub chk s = { s with store.scrubCursor := 0 } := by
  have hx := examineStore_passes (fun n => decide (s.store.scrubCursor ≤ n)) hpass
  have hy := examineStore_passes (fun _ => true) hpass
  have h' : firstFrom s.store.scrubCursor s.store.index = none := by
    rw [firstFrom, List.find?_eq_none] at h ⊢
    intro x hx
    have := h x hx
    simp_all
  unfold scrub
  dsimp only
  rw [if_pos (by simp [hfree, hnone]), hx]
  dsimp only
  rw [h']
  dsimp only
  rw [hy, h]
  rfl

/-- A record read clean, or damaged before: the scrub step moves the cursor alone. -/
theorem scrubRecord_undisturbed (hpass : Passes chk s.store.index)
    (h : e.damaged = true ∨ bodyOutcome chk e.start = .clean) :
    scrubRecord chk e s = ({ s with store.scrubCursor := cursorAfter e.start s.store.index }, false) := by
  unfold scrubRecord
  rw [readBody_undisturbed _ _ h]
  dsimp only
  rw [examineStore_passes _ hpass]
  rfl

/-- With every check clean a scrub step moves the cursor alone. -/
theorem scrub_clean (s : State) : ∃ c, scrub Checks.clean s = { s with store.scrubCursor := c } := by
  by_cases hfree : s.arbiter.holder = none ∧ s.arbiter.noneWaits = true
  case neg =>
    refine ⟨s.store.scrubCursor, (scrub_held ?_).trans rfl⟩
    cases hn : s.arbiter.noneWaits
    · exact .inr rfl
    · exact .inl fun h => hfree ⟨h, hn⟩
  have hpass := passes_of_nil (chk := Checks.clean) rfl s.store.index
  have hfound (e : Entry) (he : s.scrubs e) : ∃ c, scrub Checks.clean s = { s with store.scrubCursor := c } := by
    refine ⟨cursorAfter e.start s.store.index, ?_⟩
    rw [scrub_found hfree.1 hfree.2 hpass he, scrubRecord_undisturbed hpass (.inr rfl)]
    rfl
  cases h : firstFrom s.store.scrubCursor s.store.index with
  | some e => exact hfound e (.inl h)
  | none =>
    cases h' : firstFrom 0 s.store.index with
    | some e => exact hfound e (.inr ⟨h, h'⟩)
    | none => exact ⟨0, scrub_empty hfree.1 hfree.2 hpass h'⟩

/-- A body found correctable (R169, R175). -/
theorem scrubRecord_corrects {syn : Byte} (hup : s.up = true) (hparity : chk.parity = []) (hd : e.damaged = false)
    (hcap : s.events.capture = ⟨.empty, false⟩) (h : bodyOutcome chk e.start = .correctable syn) :
    ∃ t, scrubRecord chk e s = (t, true) ∧ ListWork s t
      ∧ t.store = { s.store with scrubCursor := cursorAfter e.start s.store.index }
      ∧ t.events.corrected = min (s.events.corrected + 1) 65535 ∧ t.events.damaged = s.events.damaged
      ∧ t.events.capture = ⟨.holding ⟨.corrected, .scrub, e.start, syn⟩, false⟩
      ∧ EventFlag.storeCe.isIn t.events.flags = true := by
  obtain ⟨u, hread, hwork, hstore, hevents, hflag⟩ := readBody_corrects .scrub hup hd hcap h
  refine ⟨{ u with store.scrubCursor := cursorAfter e.start u.store.index }, ?_, hwork.trans (.ofStore u _), ?_,
    by rw [hevents], by rw [hevents], by rw [hevents], hflag⟩
  · unfold scrubRecord
    rw [hread]
    dsimp only
    rw [examineStore_passes _ (passes_of_nil hparity _)]
    rfl
  · rw [hstore]

/-- A body found uncorrectable (R170, R175). -/
theorem scrubRecord_damages {syn : Byte} (hup : s.up = true) (hparity : chk.parity = []) (hd : e.damaged = false)
    (hcap : s.events.capture = ⟨.empty, false⟩) (h : bodyOutcome chk e.start = .uncorrectable syn) :
    ∃ t, scrubRecord chk e s = (t, true) ∧ ListWork s t
      ∧ t.store = { s.store with
          index := updateEntry e.start (fun e => { e with damaged := true }) s.store.index,
          scrubCursor := cursorAfter e.start s.store.index }
      ∧ t.events.damaged = min (s.events.damaged + 1) 65535 ∧ t.events.corrected = s.events.corrected
      ∧ t.events.capture = ⟨.locked ⟨.uncorrectable, .scrub, e.start, syn⟩, false⟩
      ∧ EventFlag.storeUe.isIn t.events.flags = true := by
  obtain ⟨u, hread, hwork, hstore, hevents, hflag⟩ := readBody_damages .scrub hup hd hcap h
  refine ⟨{ u with store.scrubCursor := cursorAfter e.start u.store.index }, ?_, hwork.trans (.ofStore u _), ?_,
    by rw [hevents], by rw [hevents], by rw [hevents], hflag⟩
  · unfold scrubRecord
    rw [hread]
    dsimp only
    rw [examineStore_passes _ (passes_of_nil hparity _)]
    rfl
  · rw [hstore, cursorAfter_damage]

theorem State.scrubs.mem (h : s.scrubs e) : e ∈ s.store.index ∧ e.faulty = false := by
  rcases h with h | ⟨-, h⟩
  · exact ⟨(firstFrom_some h).1, (firstFrom_some h).2.1⟩
  · exact ⟨(firstFrom_some h).1, (firstFrom_some h).2.1⟩

theorem State.scrubs.recordAtStart (h : s.scrubs e) : recordAtStart e.start s.store.index = some e := by
  rcases h with h | ⟨-, h⟩
  · exact recordAtStart_firstFrom h
  · exact recordAtStart_firstFrom h

/-- No record before the one the scrubber reads stops the lookup at the cursor. -/
theorem State.scrubs.reached (hs : s.store.ok) (h : s.scrubs e) :
    ∀ n ∈ soundStarts s.store.index, n < e.start → decide (s.store.scrubCursor ≤ n) = false := by
  intro n hn hlt
  obtain ⟨x, hx, rfl⟩ := List.mem_map.1 hn
  rcases h with h | ⟨h, -⟩
  · rw [firstFrom_sound] at h
    obtain ⟨-, A, B, hL, hA⟩ := List.find?_eq_some_iff_append.1 h
    have hord := hs.2.2.1
    rw [hL] at hord hx
    rcases List.mem_append.1 hx with hx | hx
    · simpa using hA x hx
    · rcases List.mem_cons.1 hx with rfl | hx
      · omega
      · have := (List.pairwise_cons.1 (List.pairwise_append.1 hord).2.1).1 x hx
        omega
  · rw [firstFrom_sound, List.find?_eq_none] at h
    simpa using h x hx

/-- A new faulty entry: marked and passed over, it leaves the cursor to the record after it, with a signal (R173). -/
theorem scrub_new_fault (hup : s.up = true) (hs : s.store.ok) (hfree : s.arbiter.holder = none)
    (hnone : s.arbiter.noneWaits = true) (h : s.scrubs e) :
    ∃ t, scrub ⟨[], [e.start]⟩ s = trigger t ∧ ListWork s t
      ∧ t.store = { s.store with
          index := markFaulty e s.store.index, frozen := true, scrubCursor := t.store.scrubCursor }
      ∧ EventFlag.indexFault.isIn t.events.flags = true
      ∧ ∀ g, (s.withFaulty e).scrubs g → t.store.scrubCursor = cursorAfter g.start (markFaulty e s.store.index) := by
  obtain ⟨he, hf⟩ := h.mem
  have hpass := withFaulty_passes hs he hf
  have hx := examineStore_new_fault hs he hf (h.reached hs)
  have hrecord := fun x => scrubRecord_undisturbed (e := x) hpass (.inr rfl)
  have hy := examineStore_passes (fun _ => true) hpass
  have hstore := withFaulty_store e s
  have hcursor : ∃ c, scrub ⟨[], [e.start]⟩ s = trigger { s.withFaulty e with store.scrubCursor := c }
      ∧ ∀ g, (s.withFaulty e).scrubs g → c = cursorAfter g.start (s.withFaulty e).store.index := by
    unfold scrub State.scrubs
    dsimp only
    rw [if_pos (by simp [hfree, hnone]), hx, show (s.withFaulty e).store.scrubCursor = s.store.scrubCursor by rw [hstore]]
    dsimp only
    cases firstFrom s.store.scrubCursor (s.withFaulty e).store.index with
    | some x =>
      dsimp only
      rw [hrecord x]
      exact ⟨_, rfl, by simp⟩
    | none =>
      dsimp only
      rw [hy]
      dsimp only
      cases firstFrom 0 (s.withFaulty e).store.index with
      | some x =>
        dsimp only
        rw [hrecord x]
        exact ⟨_, rfl, by simp⟩
      | none => exact ⟨_, rfl, by simp⟩
  obtain ⟨c, hscrub, hc⟩ := hcursor
  refine ⟨_, hscrub, (ListWork.withFaulty e s).trans (.ofStore _ _), ?_, withFaulty_isIn e hup, fun g hg => ?_⟩
  · exact congrArg (fun st : Store => { st with scrubCursor := c }) hstore
  · rw [hc g hg, hstore]

end

/-! ### The field start up to its scrub step -/

theorem beforeScrub_arbiter (s : State) : (beforeScrub s).arbiter = s.arbiter := by simp [beforeScrub, openField]

theorem beforeScrub_up (s : State) : (beforeScrub s).up = s.up := up_of_part (by simp [beforeScrub, openField])

theorem beforeScrub_found (s : State) : (beforeScrub s).events.corrected = s.events.corrected
    ∧ (beforeScrub s).events.damaged = s.events.damaged ∧ (beforeScrub s).events.capture = s.events.capture := by
  simp [beforeScrub, openField]

theorem beforeScrub_run (s : State) : (beforeScrub s).resolver.inFlight = s.resolver.inFlight
    ∧ (beforeScrub s).resolver.rerun = s.resolver.rerun ∧ (beforeScrub s).resolver.mode = s.resolver.mode := by
  simp [beforeScrub, openField]

/-- A trigger of the scrub step: the store is free, so a resolution that starts is granted it. -/
theorem scrubSignalled_trigger {s u : State} (hup : s.up = true) (hfree : s.arbiter.holder = none)
    (hnone : s.arbiter.noneWaits = true) (h : ListWork (beforeScrub s) u) : s.scrubSignalled (trigger u) := by
  have hframe := h.frame
  have harb : u.arbiter = s.arbiter := by rw [hframe]; exact beforeScrub_arbiter s
  have hup' : u.up = true :=
    (up_of_part (congrArg State.part hframe)).trans ((beforeScrub_up s).trans hup)
  obtain ⟨hflight, hrerun, hmode⟩ := beforeScrub_run s
  rw [← show u.resolver = (beforeScrub s).resolver by rw [hframe]] at hflight hrerun hmode
  have hgate : u.pcu.gateFrame = s.pcu.gateFrame := by
    rw [show u.pcu = (beforeScrub s).pcu by rw [hframe], beforeScrub_pcu]
    rfl
  unfold State.scrubSignalled
  cases hf : s.resolver.inFlight
  · rw [hf] at hflight
    rw [trigger_starts _ hup' hflight, request_free _ .resolver (by exact harb ▸ hfree) (by exact harb ▸ hnone)]
    simp [harb, hrerun, hmode, hgate]
  · rw [hf] at hflight
    rw [trigger_rerun _ hup' hflight]
    simp [harb, hflight]

theorem beforeScrub_scrubs {s : State} {e : Entry} (h : s.scrubs e) : (beforeScrub s).scrubs e := by
  rw [State.scrubs, beforeScrub_store]
  exact h

/-- Settles O30: a field start in JOINING or RUNNING ends with its scrub step (`exec_fieldStart`), which finds its
record (`scrub_found`) clean, in error (`scrubRecord_corrects`, `scrubRecord_damages`), or faulty
(`scrub_new_fault`). -/
theorem scrubberAdvancesItsCursor : Obligations.ScrubberAdvancesItsCursor := by
  refine ⟨?clean, ?empty, ?held, ?errors, ?faulty⟩
  case clean =>
    intro s e hup hfree hnone he
    have hpass := passes_of_nil (chk := Checks.clean) rfl (beforeScrub s).store.index
    refine ⟨_, exec_fieldStart hup _, ?_⟩
    rw [scrub_found (by rw [beforeScrub_arbiter]; exact hfree) (by rw [beforeScrub_arbiter]; exact hnone) hpass
      (beforeScrub_scrubs he), scrubRecord_undisturbed hpass (.inr rfl), triggerIf_store, beforeScrub_store]
    exact congrArg (fun c => { s.store with scrubCursor := c }) (cursorAfter_eq _ _)
  case empty =>
    intro s hup hfree hnone hempty
    have hpass := passes_of_nil (chk := Checks.clean) rfl (beforeScrub s).store.index
    refine ⟨_, exec_fieldStart hup _, ?_⟩
    rw [scrub_empty (by rw [beforeScrub_arbiter]; exact hfree) (by rw [beforeScrub_arbiter]; exact hnone) hpass
      (by rw [beforeScrub_store]; exact hempty), beforeScrub_store]
  case held =>
    intro s chk hup hheld
    refine ⟨_, exec_fieldStart hup _, ?_⟩
    rw [scrub_held (by rw [beforeScrub_arbiter]; exact hheld), beforeScrub_store, beforeScrub_arbiter]
    exact ⟨rfl, rfl⟩
  case errors =>
    intro s chk e syn cursor hup hfree hnone hparity he hd hcap hcursor
    obtain ⟨hcorrected, hdamaged, hcapture⟩ := beforeScrub_found s
    have hup' := (beforeScrub_up s).trans hup
    have hcap' := hcapture.trans hcap
    have hfound : scrub chk (beforeScrub s) = triggerIf (scrubRecord chk e (beforeScrub s)).2
        (scrubRecord chk e (beforeScrub s)).1 :=
      scrub_found (by rw [beforeScrub_arbiter]; exact hfree) (by rw [beforeScrub_arbiter]; exact hnone)
        (passes_of_nil hparity _) (beforeScrub_scrubs he)
    have hcursor' : cursorAfter e.start s.store.index = cursor := (cursorAfter_eq _ _).trans hcursor.symm
    constructor
    · intro hout
      obtain ⟨u, hrecord, hwork, hstore, hc, hdm, hcp, hflag⟩ := scrubRecord_corrects hup' hparity hd hcap' hout
      rw [hrecord] at hfound
      rw [beforeScrub_store, hcursor'] at hstore
      refine ⟨_, exec_fieldStart hup _, ?_⟩
      rw [hfound]
      exact ⟨(trigger_store u).trans hstore, by rw [triggerIf_events, hc, hcorrected],
        by rw [triggerIf_events, hdm, hdamaged], by rw [triggerIf_events, hcp], by rw [triggerIf_events, hflag],
        scrubSignalled_trigger hup hfree hnone hwork⟩
    · intro hout
      obtain ⟨u, hrecord, hwork, hstore, hdm, hc, hcp, hflag⟩ := scrubRecord_damages hup' hparity hd hcap' hout
      rw [hrecord] at hfound
      rw [beforeScrub_store, hcursor'] at hstore
      have hrec : ∀ n, recordAtStart n (triggerIf true u).store.index = if n = e.start then
          (recordAtStart n s.store.index).map (fun o => { o with damaged := true }) else recordAtStart n s.store.index := by
        intro n
        rw [triggerIf_store, hstore]
        exact recordAtStart_damage _ _ _
      refine ⟨_, exec_fieldStart hup _, ?_⟩
      rw [hfound]
      refine ⟨by rw [triggerIf_store, hstore], ?_, fun n hn => by rw [hrec, if_neg hn],
        by rw [triggerIf_events, hdm, hdamaged], by rw [triggerIf_events, hc, hcorrected],
        by rw [triggerIf_events, hcp], by rw [triggerIf_events, hflag], scrubSignalled_trigger hup hfree hnone hwork⟩
      rw [hrec, if_pos rfl, State.scrubs.recordAtStart he]
      rfl
  case faulty =>
    intro s e hup hfree hnone hok he
    obtain ⟨u, hscrub, hwork, hstore, hflag, hcursor⟩ := scrub_new_fault (s := beforeScrub s) ((beforeScrub_up s).trans hup)
      (by rw [beforeScrub_store]; exact hok) (by rw [beforeScrub_arbiter]; exact hfree)
      (by rw [beforeScrub_arbiter]; exact hnone) (beforeScrub_scrubs he)
    rw [beforeScrub_store] at hstore
    refine ⟨_, exec_fieldStart hup _, ?_⟩
    rw [hscrub]
    refine ⟨?_, ?_, ?_, scrubSignalled_trigger hup hfree hnone hwork, fun g hg => ?_⟩
    · rw [trigger_store, hstore]
    · rw [trigger_store, hstore]
    · rw [trigger_events]
      exact hflag
    · have hindex : (trigger u).store.index = markFaulty e s.store.index := by rw [trigger_store, hstore]
      have hmarked := withFaulty_store e (beforeScrub s)
      rw [beforeScrub_store] at hmarked
      rw [hindex] at hg ⊢
      rw [trigger_store, hcursor g (by rw [State.scrubs, hmarked]; exact hg), beforeScrub_store]
      exact cursorAfter_eq _ _

end Sys2Proof.Machine
end

section
/-! PROOF. The status countdown (R135, R178). -/

namespace Sys2Proof.Machine

/-! ### What changes at field starts, a SET_MODE, the entry to JOINING and the resets only -/

theorem WorkAtStore.statusCountdown {s t : State} (h : WorkAtStore s t) :
    t.events.statusCountdown = s.events.statusCountdown := by rw [h.events]

theorem FilmWork.statusCountdown {s t : State} (h : FilmWork s t) :
    t.events.statusCountdown = s.events.statusCountdown := by rw [h.events]

theorem LineWork.statusCountdown {s t : State} (h : LineWork s t) :
    t.events.statusCountdown = s.events.statusCountdown := by rw [h.rest]

/-- The status countdown stands but at a field start, the entry to JOINING, a SET_MODE and the resets. -/
theorem Acts.statusCountdown {s t : State} {c : Instr} (ha : Acts s c t) (hfield : isFieldStart c = false)
    (hboot : ∀ image, c ≠ .bootReadEnd image) (hother : c ∉ [Instr.setMode, .resetSoft, .resetList, .powerOnReset]) :
    t.events.statusCountdown = s.events.statusCountdown := by
  cases hw : worksAtStore c
  case true => exact (ha.workAtStore hw).statusCountdown
  cases ha
  case loadingField | upField => simp_all
  case bootReadEnd image _ => exact absurd rfl (hboot image)
  case powerOnReset | resetSoft | resetList | setMode => simp at hother
  case joiningQuietExpiry => rw [autoFetch_frame]
  case frmPulse d _ => exact (FilmWork.framePulse d s).statusCountdown
  case refLossExpiry => exact (((FilmWork.ofPcu s _).trans (.raise .refLoss _)).trans (.abortPunch _)).statusCountdown
  case character x _ _ _ => exact (LineWork.applyOutcome x _ _).statusCountdown
  case gapExpiry => exact (LineWork.receiveError _ _ _).statusCountdown
  case position m _ _ => exact (FilmWork.handPosition m _).statusCountdown
  case mhTake m _ _ _ _ => exact (WorkAtStore.applyVerdict m _ _).statusCountdown
  case queryAnswered m a _ _ => exact (WorkAtStore.answerQuery m a s).statusCountdown
  case queryPunchJoins ht => subst ht; simp
  case partnerDiffers => rw [partnerMismatch_frame]; simp
  case punchAbort m _ =>
    refine (WorkAtStore.endPlain m _ _ _).statusCountdown.trans ?_
    unfold cancelPunch
    split
    · rfl
    · exact (FilmWork.abortPunch s).statusCountdown
    all_goals rfl
  case merge => rw [countMerge_frame]; simp
  case responderStreams => rw [advanceStream_frame]; simp [dropPlace]
  case unknownKind | sceneSet | gradeSet | sceneMove | sceneDelete | rangeTrimRefused | rangeTrimBegins | trimAsks
    | trimStep | listClear | queryScene => cases hw
  all_goals simp [Machine.unexpected, pixelTaken, dropPlace, resolve]

/-! ### The countdown at a field start -/

section
variable (s : State)

theorem beforeStatus_settings : (beforeStatus s).config = s.config
    ∧ (beforeStatus s).events.statusEnable = s.events.statusEnable
    ∧ (beforeStatus s).events.statusCountdown = s.events.statusCountdown := by
  simp [beforeStatus, beforePunch, openField]

theorem beforeStatus_runs : (beforeStatus s).statusRuns = s.statusRuns := by
  obtain ⟨hconfig, henable, -⟩ := beforeStatus_settings s
  rw [State.statusRuns, State.statusRuns, hconfig, henable]

theorem field_statusCountdown (chk : Checks) :
    (scrub chk (beforeScrub s)).events.statusCountdown = (countStatus (beforeStatus s)).events.statusCountdown := by
  rw [(WorkAtStore.scrub chk _).statusCountdown, beforeScrub_eq_countStatus]

theorem countStatus_runs_down (hruns : s.statusRuns = true) (h : 2 ≤ s.events.statusCountdown) :
    countStatus s = { s with events.statusCountdown := s.events.statusCountdown - 1 } := by
  simp only [countStatus, hruns, if_true, if_neg (Nat.not_le.2 h)]

theorem countStatus_expires (hruns : s.statusRuns = true) (h : s.events.statusCountdown = 1) :
    countStatus s = sendStatus s := by
  simp [countStatus, hruns, h]

theorem countStatus_stands (hruns : s.statusRuns = false) : countStatus s = s := by
  simp [countStatus, hruns]

theorem sendStatus_statusCountdown : (sendStatus s).events.statusCountdown = 16 * s.config.statusInterval := by
  simp [sendStatus]

/-- The STATUS handed over joins the queue of the report address. -/
theorem mem_sendStatus {dest : Byte} (h : s.config.report = some dest) :
    ⟨dest, .status s.summary⟩ ∈ (sendStatus s).cue.txq :=
  mem_handReport (s := { s with events.statusCountdown := 16 * s.config.statusInterval }) h (by simp [TxContent.kind])

/-- The summary holds neither the countdown nor the queue. -/
theorem sendStatus_summary : (sendStatus s).summary = s.summary := by
  rw [sendStatus, handReport_spec]
  rfl

/-- At the expiry a field start starts the countdown again, and queues its STATUS. -/
theorem field_expires (chk : Checks) (hruns : s.statusRuns = true) (h : s.events.statusCountdown = 1) :
    (scrub chk (beforeScrub s)).events.statusCountdown = 16 * s.config.statusInterval
      ∧ ∀ dest, s.config.report = some dest →
          ⟨dest, .status (beforeStatus s).summary⟩ ∈ (scrub chk (beforeScrub s)).cue.txq := by
  obtain ⟨hconfig, -, hcount⟩ := beforeStatus_settings s
  have hexpires := countStatus_expires (beforeStatus s) (by rw [beforeStatus_runs]; exact hruns) (by rw [hcount]; exact h)
  constructor
  · rw [field_statusCountdown, hexpires, sendStatus_statusCountdown, hconfig]
  · intro dest hdest
    have hmem := mem_sendStatus (beforeStatus s) (by rw [hconfig]; exact hdest)
    rw [← hexpires, ← beforeScrub_eq_countStatus] at hmem
    exact (Reports.scrub (k := fun k => k = .eventReport) rfl chk _).queued _ hmem (by simp [TxContent.kind])

/-- With a scrub step that finds nothing, the STATUS of the expiry is the summary after the field start. -/
theorem field_summary (hruns : s.statusRuns = true) (h : s.events.statusCountdown = 1) :
    (scrub Checks.clean (beforeScrub s)).summary = (beforeStatus s).summary := by
  obtain ⟨-, -, hcount⟩ := beforeStatus_settings s
  have hexpires := countStatus_expires (beforeStatus s) (by rw [beforeStatus_runs]; exact hruns) (by rw [hcount]; exact h)
  obtain ⟨c, hscrub⟩ := scrub_clean (beforeScrub s)
  calc (scrub Checks.clean (beforeScrub s)).summary
      = (beforeScrub s).summary := by rw [hscrub]; rfl
    _ = (sendStatus (beforeStatus s)).summary := by rw [beforeScrub_eq_countStatus, hexpires]
    _ = (beforeStatus s).summary := sendStatus_summary _

end

/-- Settles O29: a field start counts the status countdown as `countStatus` says of its state before it
(`field_statusCountdown`, `field_expires`), and no other command but those named touches it
(`Acts.statusCountdown`). -/
theorem statusCountdownSendsStatus : Obligations.StatusCountdownSendsStatus := by
  have hruns {s : State} (hon : s.events.statusEnable = true) (hint : 1 ≤ s.config.statusInterval) :
      s.statusRuns = true := by
    simp only [State.statusRuns, hon, Bool.true_and, decide_eq_true_eq]
    omega
  refine ⟨?down, ?expires, ?off, ?expiry, ?stands⟩
  case down =>
    intro s chk hup hon hint hmore
    obtain ⟨-, -, hcount⟩ := beforeStatus_settings s
    refine ⟨_, exec_fieldStart hup chk, ?_⟩
    rw [field_statusCountdown, countStatus_runs_down _ (by rw [beforeStatus_runs]; exact hruns hon hint)
      (by rw [hcount]; exact hmore)]
    exact congrArg (· - 1) hcount
  case expires =>
    intro s chk hup hon hint hone
    obtain ⟨hcount, hmem⟩ := field_expires s chk (hruns hon hint) hone
    refine ⟨_, exec_fieldStart hup chk, hcount, fun hreport => ?_⟩
    obtain ⟨dest, hdest⟩ := Option.isSome_iff_exists.1 hreport
    exact ⟨_, hmem dest hdest, rfl⟩
  case off =>
    intro s chk hup hoff
    obtain ⟨-, -, hcount⟩ := beforeStatus_settings s
    have hstands : s.statusRuns = false := by
      rcases hoff with h | h <;> simp [State.statusRuns, h]
    refine ⟨_, exec_fieldStart hup chk, ?_⟩
    rw [field_statusCountdown, countStatus_stands _ (by rw [beforeStatus_runs]; exact hstands), hcount]
  case expiry =>
    intro s hup hon hint hone
    obtain ⟨hcount, hmem⟩ := field_expires s Checks.clean (hruns hon hint) hone
    have hends : s.statusEnds = true := by simp [State.statusEnds, hup, hruns hon hint, hone]
    have hexec := exec_fieldStart hup Checks.clean
    refine ⟨_, ((expiries_are_field_starts s).2.2 hends).trans hexec, hexec, hcount, fun dest hdest => ?_,
      field_silent s Checks.clean⟩
    rw [field_summary s (hruns hon hint) hone]
    exact hmem dest hdest
  case stands =>
    intro c s t hfield hboot hother hexec
    refine (acts_of_exec hexec).statusCountdown ?_ hboot ?_
    · cases c
      case fieldStart chk => exact absurd rfl (hfield chk)
      case holdbackExpiry | tallyPulseEnd | statusCountdownExpiry => simp at hother
      all_goals rfl
    · simp only [List.mem_cons, List.not_mem_nil, or_false, not_or] at hother ⊢
      simp only [hother, not_false_eq_true, and_self]

end Sys2Proof.Machine
end

section
/-! PROOF. How a step of the handler at the store ends (R25, R42, R55, R118, R120): the release with its signal, and the
REPLY. -/

namespace Sys2Proof.Machine

section
variable {s t u : State} {m : Message}

/-! ### The state at the end of a step -/

theorem ListWork.sharedCount (h : ListWork s u) : sharedCount u.cue.txq = sharedCount s.cue.txq := by
  induction h with
  | trans _ _ ih ig => exact ig.trans ih
  | raise f s => exact raise_sharedCount s f
  | _ => rfl

theorem ListWork.resolver (h : ListWork s u) : u.resolver = s.resolver := by rw [h.frame]

theorem ListWork.cue (h : ListWork s u) : u.cue = { s.cue with txq := u.cue.txq } := congrArg State.cue h.frame

theorem ListWork.handler (h : ListWork s u) : u.handler = s.handler := by rw [h.frame]

theorem ListWork.part (h : ListWork s u) : u.part = s.part := by rw [h.frame]

theorem ListWork.pcu (h : ListWork s u) : u.pcu = s.pcu := by rw [h.frame]

theorem ListWork.up (h : ListWork s u) : u.up = s.up := up_of_part h.part

/-- Work at the store that leaves the handler IDLE, its counter and the line but its queue. -/
theorem storeStep_of (h : WorkAtStore s t) (hhandler : t.handler = ⟨.idle, s.handler.ignored⟩)
    (hcue : t.cue = { s.cue with txq := t.cue.txq }) : s.storeStep t := by
  unfold State.storeStep
  ext1
  all_goals dsimp only
  case part => exact h.part
  case address => exact h.address
  case config => exact h.config
  case configSource => exact h.configSource
  case pcu => exact h.pcu
  case pipeline => exact h.pipeline
  case cue => exact hcue
  case handler => exact hhandler
  case requester => exact h.requester
  case responder => exact h.responder
  case gate => exact h.gate
  case pending => exact h.pending

/-- The release of a step that triggered nothing leaves the resolver as it was, but for what a grant latches. -/
theorem releaseSignal_quiet (s : State) :
    (releaseSignal false s).resolver = { s.resolver with latch := (releaseSignal false s).resolver.latch } := by
  show (release s).resolver = { s.resolver with latch := (release s).resolver.latch }
  rw [(WorkAtStore.release s).resolver]
  simp

/-- A step at the store at its end: released with the signal it makes, answered, and the handler IDLE. -/
def atEnd (m : Message) (r : ReplyResult) (body : ReplyBody) (changed : Bool) (u : State) : State :=
  handlerIdle (sendReply m r body (releaseSignal changed u)).1

theorem endEdit_eq (e : EditEnd) : endEdit m e = atEnd m e.result (.edit e.key e.revision e.count) e.changed
    (if e.result = .ok then e.state else raise .editRefused e.state) := rfl

variable (r : ReplyResult) (body : ReplyBody) (changed : Bool)

theorem atEnd_joins (hw : ListWork s u) (hroom : sharedCount s.cue.txq ≤ 3) :
    atEnd m r body changed u = handlerIdle { releaseSignal changed u with
      cue.txq := u.cue.txq ++ replyTo m r body } := by
  have htaken : (releaseSignal changed u).sharedTaken < 5 := by
    refine sharedTaken_lt _ ?_
    rw [releaseSignal_cue, hw.sharedCount]
    exact hroom
  have htxq : (releaseSignal changed u).cue.txq = u.cue.txq := by rw [releaseSignal_cue]
  rw [atEnd, sendReply_joins _ _ _ _ htaken, htxq]

/-- What is left after a step whose REPLY finds its place. -/
theorem atEnd_spec (hw : ListWork s u) (hroom : sharedCount s.cue.txq ≤ 3) :
    s.storeStep (atEnd m r body changed u) ∧ (atEnd m r body changed u).store = u.store
      ∧ (atEnd m r body changed u).events = u.events
      ∧ (atEnd m r body changed u).cue.txq = u.cue.txq ++ replyTo m r body := by
  have hjoins := atEnd_joins (m := m) r body changed hw hroom
  have hwork : WorkAtStore s (atEnd m r body changed u) :=
    ((hw.atStore.trans (.releaseSignal changed u)).trans (.sendReply m r body _)).trans (.handlerIdle _)
  rw [hjoins] at hwork ⊢
  refine ⟨storeStep_of hwork ?_ ?_, releaseSignal_store u changed, releaseSignal_events u changed, rfl⟩
  · show ({ (releaseSignal changed u).handler with state := .idle } : Handler) = _
    rw [releaseSignal_handler, hw.handler]
  · show ({ (releaseSignal changed u).cue with txq := u.cue.txq ++ replyTo m r body } : CueLine) = _
    rw [releaseSignal_cue, hw.cue]
    rfl

/-- A step that changed the list signals the resolver. -/
theorem atEnd_signalled (hw : ListWork s u) (hup : s.up = true) (hheld : s.arbiter.holder = some .handler) :
    s.signalled (atEnd m r body true u) := by
  refine signalled_congr ?_ ?_ (signalled_releaseSignal s u hup hw.part hw.arbiter hw.resolver (by rw [hw.pcu]) hheld)
  · show (sendReply m r body (releaseSignal true u)).1.resolver = _
    rw [sendReply_resolver]
  · show (sendReply m r body (releaseSignal true u)).1.arbiter = _
    rw [sendReply_arbiter]

/-- One that did not leaves it, but for what a grant latches. -/
theorem atEnd_quiet (hw : ListWork s u) :
    (atEnd m r body false u).resolver = { s.resolver with latch := (atEnd m r body false u).resolver.latch } := by
  have h : (atEnd m r body false u).resolver = (releaseSignal false u).resolver := by
    show (sendReply m r body (releaseSignal false u)).1.resolver = _
    rw [sendReply_resolver]
  rw [h, ← hw.resolver]
  exact releaseSignal_quiet u

/-! ### The end of an edit -/

/-- An edit carried out: the list as it left it, a signal, and its REPLY. -/
theorem endEdit_done (hw : ListWork s u) (hup : s.up = true) (hroom : sharedCount s.cue.txq ≤ 3)
    (hheld : s.arbiter.holder = some .handler) (key revision count : Nat) :
    s.storeStep (endEdit m ⟨u, .ok, key, revision, count, true⟩)
      ∧ s.signalled (endEdit m ⟨u, .ok, key, revision, count, true⟩)
      ∧ (endEdit m ⟨u, .ok, key, revision, count, true⟩).store = u.store
      ∧ (endEdit m ⟨u, .ok, key, revision, count, true⟩).events = u.events
      ∧ (endEdit m ⟨u, .ok, key, revision, count, true⟩).cue.txq
          = u.cue.txq ++ replyTo m .ok (.edit key revision count) := by
  rw [endEdit_eq]
  dsimp only
  rw [if_pos rfl]
  obtain ⟨hstep, hstore, hevents, htxq⟩ := atEnd_spec (m := m) .ok (.edit key revision count) true hw hroom
  exact ⟨hstep, atEnd_signalled _ _ hw hup hheld, hstore, hevents, htxq⟩

/-- A refusal that found nothing and changed nothing (R25, R120). -/
theorem endEdit_refused {result : ReplyResult} (hup : s.up = true) (hroom : sharedCount s.cue.txq ≤ 3)
    (hresult : result ≠ .ok) (key : Nat) : s.editRefused (endEdit m (.refuse s result key false)) m result key := by
  have hw : ListWork s (raise .editRefused s) := .raise _ s
  have heq : endEdit m (.refuse s result key false)
      = atEnd m result (.edit key 0 0) false (raise .editRefused s) := by
    rw [endEdit_eq]
    exact congrArg _ (if_neg hresult)
  obtain ⟨hstep, hstore, hevents, htxq⟩ := atEnd_spec (m := m) result (.edit key 0 0) false hw hroom
  rw [heq]
  refine ⟨hstep, hstore.trans (raise_store _ _), atEnd_quiet _ _ hw, ?_, ?_, _, htxq⟩
  · rw [hevents]
    exact raise_events _ _
  · rw [hevents]
    exact raise_isIn _ _ hup

end

/-! ### The records of an edited list -/

theorem recordAtStart_insertRecord (r : Record) (revision : Nat) (s : State)
    (h : recordAtStart r.start s.store.index = none) (n : Nat) :
    recordAtStart n (insertRecord r revision s).store.index = if n = r.start then
      some ⟨r.start, revision, r.body.knotCount, false, false, r.body⟩ else recordAtStart n s.store.index :=
  recordAtStart_insertEntry n (Entry.fresh r.start revision r.body) s.store.index rfl h

theorem recordAtStart_rewriteRecord {start : Nat} {e : Entry} (revision held : Nat) (b : Body) (s : State)
    (h : recordAtStart start s.store.index = some e) (n : Nat) :
    recordAtStart n (rewriteRecord start revision held b s).store.index = if n = start then
      some ⟨start, revision, b.knotCount, false, false, b⟩ else recordAtStart n s.store.index := by
  refine (recordAtStart_updateEntry n start _ s.store.index fun _ _ _ => ⟨rfl, rfl⟩).trans ?_
  split
  · next hn =>
    rw [hn, h]
    rfl
  · rfl

/-! ### SCENE_SET (R29, R30) -/

section
variable {s : State} {chk : Checks} {r : Record}

theorem sceneSet_frozen_refused (chk : Checks) (r : Record) (h : s.store.frozen = true) :
    sceneSet chk r s = .refuse s .storeFrozen r.start false := by simp [sceneSet, h]

theorem sceneSet_badField (chk : Checks) (h : s.store.frozen = false) (hfault : r.fault = true) :
    sceneSet chk r s = .refuse s .badField r.start false := by simp [sceneSet, h, hfault]

theorem sceneSet_listFull (hpass : Passes chk s.store.index) (h : s.store.frozen = false) (hfault : r.fault = false)
    (hnone : recordAtStart r.start s.store.index = none) (hfull : listLimit ≤ s.store.index.length) :
    sceneSet chk r s = .refuse s .listFull r.start false := by
  unfold sceneSet
  rw [if_neg (by simp [h]), if_neg (by simp [hfault]), examineStore_passes _ hpass]
  dsimp only
  rw [hnone]
  dsimp only
  rw [if_pos hfull]

theorem sceneSet_knotsFull (hpass : Passes chk s.store.index) (h : s.store.frozen = false) (hfault : r.fault = false)
    (hnone : recordAtStart r.start s.store.index = none) (hfull : s.store.index.length < listLimit)
    (hknots : s.store.freeKnots < r.body.knotCount) : sceneSet chk r s = .refuse s .knotsFull r.start false := by
  unfold sceneSet
  rw [if_neg (by simp [h]), if_neg (by simp [hfault]), examineStore_passes _ hpass]
  dsimp only
  rw [hnone]
  dsimp only
  rw [if_neg (Nat.not_le.2 hfull), if_pos hknots]

theorem sceneSet_inserts (hpass : Passes chk s.store.index) (h : s.store.frozen = false) (hfault : r.fault = false)
    (hnone : recordAtStart r.start s.store.index = none) (hfull : s.store.index.length < listLimit)
    (hknots : r.body.knotCount ≤ s.store.freeKnots) :
    sceneSet chk r s = ⟨insertRecord r 1 s, .ok, r.start, 1, 0, true⟩ := by
  unfold sceneSet
  rw [if_neg (by simp [h]), if_neg (by simp [hfault]), examineStore_passes _ hpass]
  dsimp only
  rw [hnone]
  dsimp only
  rw [if_neg (Nat.not_le.2 hfull), if_neg (Nat.not_lt.2 hknots)]

theorem sceneSet_knotsFull_replacing {e : Entry} (hpass : Passes chk s.store.index) (h : s.store.frozen = false)
    (hfault : r.fault = false) (he : recordAtStart r.start s.store.index = some e)
    (hknots : s.store.freeKnots + e.knotCount < r.body.knotCount) :
    sceneSet chk r s = .refuse s .knotsFull r.start false := by
  unfold sceneSet
  rw [if_neg (by simp [h]), if_neg (by simp [hfault]), examineStore_passes _ hpass]
  dsimp only
  rw [he]
  dsimp only
  rw [if_pos hknots]

theorem sceneSet_replaces {e : Entry} (hpass : Passes chk s.store.index) (h : s.store.frozen = false)
    (hfault : r.fault = false) (he : recordAtStart r.start s.store.index = some e)
    (hknots : r.body.knotCount ≤ s.store.freeKnots + e.knotCount) :
    sceneSet chk r s = ⟨rewriteRecord r.start (nextRevision e.revision) e.knotCount r.body s, .ok, r.start,
      nextRevision e.revision, 0, true⟩ := by
  unfold sceneSet
  rw [if_neg (by simp [h]), if_neg (by simp [hfault]), examineStore_passes _ hpass]
  dsimp only
  rw [he]
  dsimp only
  rw [if_neg (Nat.not_lt.2 hknots)]

theorem exec_sceneSet {m : Message} (hat : atStore .sceneSet s = some m) (chk : Checks) :
    exec (.sceneSet chk) s = .next (endEdit m (sceneSet chk (recordAt m.payload 0) s)) := by
  simp only [exec, execSceneSet, hat]

end

/-- Settles O40: a SCENE_SET inserts (`sceneSet_inserts`) or replaces (`sceneSet_replaces`), and ends as
`endEdit_done` says. -/
theorem sceneSetWritesTheRecord : Obligations.SceneSetWritesTheRecord := by
  constructor
  · intro s m chk r hup hat hr hparity hfrozen hfault hroom hnone hfull hknots
    have hset := sceneSet_inserts (passes_of_nil hparity _) hfrozen hfault hnone hfull hknots
    obtain ⟨hstep, hsignal, hstore, hevents, htxq⟩ := endEdit_done (m := m) (ListWork.insertRecord r 1 s) hup hroom
      (atStore_eq_some_iff.1 hat).1 r.start 1 0
    refine ⟨_, exec_sceneSet hat chk, ?_⟩
    rw [hr, hset]
    refine ⟨hstep, hsignal, hevents, htxq, ?_, ?_, fun n => ?_⟩
    · rw [hstore]
      rfl
    · rw [hstore]
      exact length_insertEntry _ _
    · rw [hstore]
      exact recordAtStart_insertRecord r 1 s hnone n
  · intro s m chk r e hup hat hr hparity hfrozen hfault hroom he hknots
    have hset := sceneSet_replaces (passes_of_nil hparity _) hfrozen hfault he hknots
    obtain ⟨hstep, hsignal, hstore, hevents, htxq⟩ := endEdit_done (m := m)
      (ListWork.rewriteRecord r.start (nextRevision e.revision) e.knotCount r.body s) hup hroom
      (atStore_eq_some_iff.1 hat).1 r.start (nextRevision e.revision) 0
    refine ⟨_, exec_sceneSet hat chk, ?_⟩
    rw [hr, hset, ← nextRevision_eq_min]
    refine ⟨hstep, hsignal, hevents, htxq, ?_, ?_, fun n => ?_⟩
    · rw [hstore]
      rfl
    · rw [hstore]
      exact length_updateEntry _ _ _
    · rw [hstore]
      exact recordAtStart_rewriteRecord _ _ _ s he n

end Sys2Proof.Machine
end

section
/-! PROOF. GRADE_SET, SCENE_MOVE, SCENE_DELETE and LIST_CLEAR (R31 to R34, R38, R39), each carried out. -/

namespace Sys2Proof.Machine

variable {s : State} {chk : Checks}

/-! ### GRADE_SET (R31, R32) -/

/-- What a client of the store takes of a record is the view its body read answers (R24). -/
theorem readBody_view_body (op : StoreOp) (chk : Checks) (e : Entry) (s : State) :
    (readBody op chk e s).view.body = bodyTaken chk e := by
  cases hd : e.damaged with
  | true =>
    rw [readBody_damaged _ _ _ _ hd, bodyTaken, hd]
    rfl
  | false =>
    cases ho : bodyOutcome chk e.start with
    | clean => simp [readBody_clean _ _ _ _ hd ho, bodyTaken, hd, ho]
    | correctable syn => simp [readBody_correctable _ _ _ _ syn hd ho, bodyTaken, hd, ho]
    | uncorrectable syn => simp [readBody_uncorrectable _ _ _ _ syn hd ho, bodyTaken, hd, ho, BodyView.lost]

/-- A body read touches the marks of the list alone. -/
theorem readBody_store (op : StoreOp) (chk : Checks) (e : Entry) (s : State) :
    (readBody op chk e s).state.store = { s.store with index := (readBody op chk e s).state.store.index } := by
  unfold readBody
  split
  · rfl
  · split
    · rfl
    all_goals rw [raise_store]

/-- A body read leaves the records at the other starts. -/
theorem recordAtStart_readBody_other (op : StoreOp) (chk : Checks) (e : Entry) (s : State) {n : Nat} (h : n ≠ e.start) :
    recordAtStart n (readBody op chk e s).state.store.index = recordAtStart n s.store.index := by
  unfold readBody
  split
  · rfl
  · split
    · rfl
    · rw [raise_store]
    · rw [raise_store]
      exact (recordAtStart_damage n e.start s.store.index).trans (if_neg h)

/-- The body a GRADE_SET writes (R31, R32). -/
abbrev gradedBody (chk : Checks) (e : Entry) (grade : Option Grade) : Body :=
  { bodyTaken chk e with grade := grade.map Grade.clamped }

theorem gradeSet_writes {start : Nat} {grade : Option Grade} {e : Entry} (hpass : Passes chk s.store.index)
    (h : s.store.frozen = false) (hstart : start ≤ maxFrame) (hfault : gradeFault grade = false)
    (he : recordAtStart start s.store.index = some e)
    (hknots : (gradedBody chk e grade).knotCount ≤ s.store.freeKnots + e.knotCount) :
    gradeSet chk start grade s =
      ⟨rewriteRecord start (nextRevision e.revision) e.knotCount (gradedBody chk e grade) (readBody .edit chk e s).state,
        .ok, start, nextRevision e.revision, 0, true⟩ := by
  have hfree : (readBody .edit chk e s).state.store.freeKnots = s.store.freeKnots := by rw [readBody_store]
  unfold gradeSet
  rw [if_neg (by simp [h]), if_neg (by simp [hfault, hstart]), examineStore_passes _ hpass]
  dsimp only
  rw [he]
  dsimp only
  rw [readBody_view_body, hfree, if_neg (Nat.not_lt.2 hknots)]

theorem gradeSet_knotsFull {start : Nat} {grade : Option Grade} {e : Entry} (hpass : Passes chk s.store.index)
    (h : s.store.frozen = false) (hstart : start ≤ maxFrame) (hfault : gradeFault grade = false)
    (he : recordAtStart start s.store.index = some e) (hread : e.damaged = true ∨ bodyOutcome chk e.start = .clean)
    (hknots : s.store.freeKnots + e.knotCount < (gradedBody chk e grade).knotCount) :
    gradeSet chk start grade s = .refuse s .knotsFull start false := by
  have hview := readBody_view_body .edit chk e s
  have hr := readBody_undisturbed .edit s hread
  rw [hr] at hview
  unfold gradeSet
  rw [if_neg (by simp [h]), if_neg (by simp [hfault, hstart]), examineStore_passes _ hpass]
  dsimp only
  rw [he]
  dsimp only
  rw [hr]
  dsimp only at hview ⊢
  rw [hview, if_pos hknots]
  rfl

theorem exec_gradeSet {m : Message} (hat : atStore .gradeSet s = some m) (chk : Checks) :
    exec (.gradeSet chk) s
      = .next (endEdit m (gradeSet chk (u24 m.payload 0) (if bitAt m.payload 3 1 then some (gradeAt m.payload 4) else none)
          s)) := by
  simp only [exec, execGradeSet, hat]
  rfl

/-- Settles O41: a GRADE_SET rewrites the record with the body its body read gives (`gradeSet_writes`), and ends as
`endEdit_done` says. -/
theorem gradeSetWritesTheGrade : Obligations.GradeSetWritesTheGrade := by
  intro s m chk e b grade hup hat hparity hfrozen hstart hgrade hfault hroom he hb hknots
  subst hb
  have hset := gradeSet_writes (passes_of_nil hparity _) hfrozen hstart hfault he hknots
  obtain ⟨hes, -, -⟩ := recordAtStart_some he
  have hw := (ListWork.readBody .edit chk e s).trans
    (.rewriteRecord (u24 m.payload 0) (nextRevision e.revision) e.knotCount (gradedBody chk e grade) _)
  obtain ⟨hstep, hsignal, hstore, -, htxq⟩ := endEdit_done (m := m) hw hup hroom (atStore_eq_some_iff.1 hat).1
    (u24 m.payload 0) (nextRevision e.revision) 0
  refine ⟨_, exec_gradeSet hat chk, ?_⟩
  rw [← hgrade, hset, ← nextRevision_eq_min]
  refine ⟨hstep, hsignal, ⟨_, htxq⟩, ?_, fun n => ?_⟩
  · rw [hstore, rewriteRecord, readBody_store]
  · obtain ⟨e', he', -⟩ := recordAtStart_readBody .edit chk e s _ he
    rw [hstore, recordAtStart_rewriteRecord _ _ _ _ he']
    split
    · rfl
    · next hn => exact recordAtStart_readBody_other .edit chk e s (by rw [hes]; exact hn)

/-! ### SCENE_MOVE (R33) -/

/-- The revision of a record counted up. -/
abbrev Entry.revised (e : Entry) : Entry := { e with revision := nextRevision e.revision }

theorem sceneMove_stays {src : Nat} {e : Entry} (hpass : Passes chk s.store.index) (h : s.store.frozen = false)
    (hsrc : src ≤ maxFrame) (he : recordAtStart src s.store.index = some e) :
    sceneMove chk src src s = ⟨{ s with store.index := updateEntry src Entry.revised s.store.index }, .ok, src,
      nextRevision e.revision, 0, true⟩ := by
  unfold sceneMove
  rw [if_neg (by simp [h]), if_neg (by omega), examineStore_passes _ hpass]
  dsimp only
  rw [he]
  dsimp only
  rw [if_pos rfl]

theorem sceneMove_moves {src dest : Nat} {e : Entry} (hpass : Passes chk s.store.index) (h : s.store.frozen = false)
    (hsrc : src ≤ maxFrame) (hdest : dest ≤ maxFrame) (hne : dest ≠ src) (he : recordAtStart src s.store.index = some e)
    (hfree : recordAtStart dest s.store.index = none) :
    sceneMove chk src dest s = ⟨{ s with store.index := moveEntry e dest s.store.index }, .ok, dest,
      nextRevision e.revision, 0, true⟩ := by
  unfold sceneMove
  rw [if_neg (by simp [h]), if_neg (by omega), examineStore_passes _ hpass]
  dsimp only
  rw [he]
  dsimp only
  rw [if_neg hne, examineStore_passes _ hpass]
  dsimp only
  rw [he, hfree]

theorem sceneMove_noScene {src dest : Nat} (hpass : Passes chk s.store.index) (h : s.store.frozen = false)
    (hsrc : src ≤ maxFrame) (hdest : dest ≤ maxFrame) (hnone : recordAtStart src s.store.index = none) :
    sceneMove chk src dest s = .refuse s .noScene dest false := by
  unfold sceneMove
  rw [if_neg (by simp [h]), if_neg (by omega), examineStore_passes _ hpass]
  dsimp only
  rw [hnone]

theorem sceneMove_duplicate {src dest : Nat} {e o : Entry} (hpass : Passes chk s.store.index)
    (h : s.store.frozen = false) (hsrc : src ≤ maxFrame) (hdest : dest ≤ maxFrame) (hne : dest ≠ src)
    (he : recordAtStart src s.store.index = some e) (ho : recordAtStart dest s.store.index = some o) :
    sceneMove chk src dest s = .refuse s .duplicate dest false := by
  unfold sceneMove
  rw [if_neg (by simp [h]), if_neg (by omega), examineStore_passes _ hpass]
  dsimp only
  rw [he]
  dsimp only
  rw [if_neg hne, examineStore_passes _ hpass]
  dsimp only
  rw [he, ho]
  rfl

theorem recordAtStart_moveEntry {e : Entry} {dest : Nat} {idx : List Entry} (hf : e.faulty = false)
    (hfree : recordAtStart dest idx = none) (n : Nat) :
    recordAtStart n (moveEntry e dest idx) = if n = dest then
      some { e with start := dest, revision := nextRevision e.revision }
      else if n = e.start then none else recordAtStart n idx := by
  have hfree' : recordAtStart dest (removeEntry e.start idx) = none := by
    rw [recordAtStart_removeEntry, hfree, ite_self]
  rw [moveEntry, recordAtStart_insertEntry n { e with start := dest, revision := nextRevision e.revision } _ hf hfree',
    recordAtStart_removeEntry]

theorem exec_sceneMove {m : Message} (hat : atStore .sceneMove s = some m) (chk : Checks) :
    exec (.sceneMove chk) s = .next (endEdit m (sceneMove chk (u24 m.payload 0) (u24 m.payload 3) s)) := by
  simp only [exec, execSceneMove, hat]

/-- Settles O42: a SCENE_MOVE counts the revision in place (`sceneMove_stays`), or re-keys the record
(`sceneMove_moves`, `recordAtStart_moveEntry`). -/
theorem sceneMoveReKeysTheRecord : Obligations.SceneMoveReKeysTheRecord := by
  intro s m chk e src dest hup hat hparity hfrozen hsrc hdest hsrc' hdest' hroom he hfree
  have hpass := passes_of_nil hparity s.store.index
  obtain ⟨hes, hef, -⟩ := recordAtStart_some he
  refine ⟨_, exec_sceneMove hat chk, ?_⟩
  rw [← hsrc, ← hdest, ← nextRevision_eq_min]
  by_cases hsame : dest = src
  · subst hsame
    rw [sceneMove_stays hpass hfrozen hdest' he]
    obtain ⟨hstep, hsignal, hstore, hevents, htxq⟩ := endEdit_done (m := m)
      (ListWork.ofStore s { s.store with index := updateEntry dest Entry.revised s.store.index }) hup hroom
      (atStore_eq_some_iff.1 hat).1 dest (nextRevision e.revision) 0
    refine ⟨hstep, hsignal, hevents, htxq, by rw [hstore], fun n => ?_⟩
    rw [hstore]
    refine (recordAtStart_updateEntry n dest Entry.revised s.store.index fun _ hf hs => ⟨hf, hs⟩).trans ?_
    split
    · next hn =>
      rw [hn, he, ← hes]
      rfl
    · rfl
  · rw [sceneMove_moves hpass hfrozen hsrc' hdest' hsame he (hfree.resolve_left hsame)]
    obtain ⟨hstep, hsignal, hstore, hevents, htxq⟩ := endEdit_done (m := m)
      (ListWork.ofStore s { s.store with index := moveEntry e dest s.store.index }) hup hroom
      (atStore_eq_some_iff.1 hat).1 dest (nextRevision e.revision) 0
    refine ⟨hstep, hsignal, hevents, htxq, by rw [hstore], fun n => ?_⟩
    rw [hstore, ← hes]
    exact recordAtStart_moveEntry hef (hfree.resolve_left hsame) n

/-! ### SCENE_DELETE (R34) -/

theorem sceneDelete_deletes {start : Nat} {e : Entry} (hpass : Passes chk s.store.index) (h : s.store.frozen = false)
    (hstart : start ≤ maxFrame) (he : recordAtStart start s.store.index = some e) :
    sceneDelete chk start s = ⟨{ s with
        store.index := removeEntry start s.store.index, store.freeKnots := s.store.freeKnots + e.knotCount },
      .ok, start, 0, 0, true⟩ := by
  unfold sceneDelete
  rw [if_neg (by simp [h]), if_neg (by omega), examineStore_passes _ hpass]
  dsimp only
  rw [he]

theorem sceneDelete_noScene {start : Nat} (hpass : Passes chk s.store.index) (h : s.store.frozen = false)
    (hstart : start ≤ maxFrame) (hnone : recordAtStart start s.store.index = none) :
    sceneDelete chk start s = .refuse s .noScene start false := by
  unfold sceneDelete
  rw [if_neg (by simp [h]), if_neg (by omega), examineStore_passes _ hpass]
  dsimp only
  rw [hnone]

theorem exec_sceneDelete {m : Message} (hat : atStore .sceneDelete s = some m) (chk : Checks) :
    exec (.sceneDelete chk) s = .next (endEdit m (sceneDelete chk (u24 m.payload 0) s)) := by
  simp only [exec, execSceneDelete, hat]

/-- Settles O43: a SCENE_DELETE takes the record out of the list (`sceneDelete_deletes`), its frames fall to the one
before (`governing_without`), and without a record it is refused (`endEdit_refused`). -/
theorem sceneDeleteRemovesTheRecord : Obligations.SceneDeleteRemovesTheRecord := by
  constructor
  · intro s m chk e start hup hat hparity hfrozen hstart hstart' hroom he
    obtain ⟨hes, -, -⟩ := recordAtStart_some he
    obtain ⟨hstep, hsignal, hstore, hevents, htxq⟩ := endEdit_done (m := m) (ListWork.ofStore s { s.store with
        index := removeEntry start s.store.index, freeKnots := s.store.freeKnots + e.knotCount }) hup hroom
      (atStore_eq_some_iff.1 hat).1 start 0 0
    refine ⟨_, exec_sceneDelete hat chk, ?_⟩
    rw [← hstart, sceneDelete_deletes (passes_of_nil hparity _) hfrozen hstart' he]
    refine ⟨hstep, hsignal, hevents, htxq, by rw [hstore], by rw [hstore]; rfl, fun hok f _ hgov => ?_⟩
    rw [hstore]
    have hout := soundEntries_removeEntry start s.store.index
    rw [← hes] at hout ⊢
    exact governing_without hok.2.2.1 hout hgov
  · intro s m chk hup hat hparity hfrozen hstart hroom hnone
    refine ⟨_, exec_sceneDelete hat chk, ?_⟩
    rw [sceneDelete_noScene (passes_of_nil hparity _) hfrozen hstart hnone]
    exact endEdit_refused hup hroom (by simp) _

/-! ### LIST_CLEAR (R38, R39) -/

theorem listClear_full (chk : Checks) (s : State) : listClear chk 0 maxFrame s
    = ⟨{ s with store := Store.empty }, .ok, 0, 0, s.store.index.length, true⟩ := by
  unfold listClear
  rw [if_neg (by omega), if_pos ⟨rfl, rfl⟩]

theorem listClear_range {first last : Nat} (hpass : Passes chk s.store.index) (hord : first ≤ last)
    (hlast : last ≤ maxFrame) (hsmall : first ≠ 0 ∨ last ≠ maxFrame) :
    listClear chk first last s = ⟨{ s with
        store.index := s.store.index.filter (fun e => !inRange first last e),
        store.freeKnots := s.store.freeKnots + heldKnots (s.store.index.filter (inRange first last)) },
      .ok, first, 0, (s.store.index.filter (inRange first last)).length, true⟩ := by
  unfold listClear
  rw [if_neg (by omega), if_neg (by omega), examineStore_passes _ hpass]

theorem exec_listClear {m : Message} (hat : atStore .listClear s = some m) (chk : Checks) :
    exec (.listClear chk) s = .next (endEdit m (listClear chk (u24 m.payload 0) (u24 m.payload 3) s)) := by
  simp only [exec, execListClear, hat]

/-- Settles O45: a full-range clear leaves the emptied store (`listClear_full`), and ends as `endEdit_done` says. -/
theorem fullClearEmptiesTheStore : Obligations.FullClearEmptiesTheStore := by
  intro s m chk hup hat hfirst hlast hroom
  obtain ⟨hstep, hsignal, hstore, hevents, htxq⟩ := endEdit_done (m := m) (ListWork.ofStore s Store.empty) hup hroom
    (atStore_eq_some_iff.1 hat).1 0 0 s.store.index.length
  refine ⟨_, exec_listClear hat chk, ?_⟩
  rw [hfirst, hlast, show 1048575 = maxFrame from rfl, listClear_full]
  refine ⟨hstep, hsignal, hevents, hstore, fun f => ?_, htxq⟩
  rw [hstore]
  rfl

/-- Settles O46: a clear of a smaller range keeps what lies outside it (`listClear_range`), and ends as `endEdit_done`
says. -/
theorem listClearDeletesTheRange : Obligations.ListClearDeletesTheRange := by
  intro s m chk first last hup hat hparity hfirst hlast hord hlast' hsmall hroom
  obtain ⟨hstep, hsignal, hstore, hevents, htxq⟩ := endEdit_done (m := m) (ListWork.ofStore s { s.store with
      index := s.store.index.filter (fun e => !inRange first last e),
      freeKnots := s.store.freeKnots + heldKnots (s.store.index.filter (inRange first last)) }) hup hroom
    (atStore_eq_some_iff.1 hat).1 first 0 (s.store.index.filter (inRange first last)).length
  refine ⟨_, exec_listClear hat chk, ?_⟩
  rw [← hfirst, ← hlast, listClear_range (passes_of_nil hparity _) hord hlast' hsmall]
  refine ⟨hstep, hsignal, hevents, by rw [hstore], by rw [hstore], fun n => ?_, ?_, ?_, ?_⟩
  · rw [hstore]
    refine (recordAtStart_filter n _ s.store.index (!decide (first ≤ n ∧ n ≤ last)) fun e _ hf hs => ?_).trans ?_
    · simp [inRange, hf, hs]
    · by_cases hn : first ≤ n ∧ n ≤ last <;> simp [hn]
  · rw [hstore]
    refine List.filter_filter.trans (List.filter_congr fun e _ => ?_)
    cases hf : e.faulty <;> simp [inRange, hf]
  · rw [hstore]
    have hsum := heldKnots_filter_add (inRange first last) s.store.index
    dsimp only
    omega
  · rw [hstore, htxq]
    have hsum := length_filter_add (inRange first last) s.store.index
    have hcount : s.store.index.length - (s.store.index.filter (fun e => !inRange first last e)).length
        = (s.store.index.filter (inRange first last)).length := by omega
    dsimp only
    rw [hcount]

end Sys2Proof.Machine
end

section
/-! PROOF. The refusals of edits, in the order of R25 (R25, R27, R120). -/

namespace Sys2Proof.Machine

variable {s : State} {m : Message}

/-! ### A frozen store, and structural faults -/

theorem gradeSet_frozen_refused (chk : Checks) (start : Nat) (grade : Option Grade) (h : s.store.frozen = true) :
    gradeSet chk start grade s = .refuse s .storeFrozen start false := by simp [gradeSet, h]

theorem sceneMove_frozen_refused (chk : Checks) (src dest : Nat) (h : s.store.frozen = true) :
    sceneMove chk src dest s = .refuse s .storeFrozen dest false := by simp [sceneMove, h]

theorem sceneDelete_frozen_refused (chk : Checks) (start : Nat) (h : s.store.frozen = true) :
    sceneDelete chk start s = .refuse s .storeFrozen start false := by simp [sceneDelete, h]

theorem gradeSet_badField (chk : Checks) {start : Nat} {grade : Option Grade} (h : s.store.frozen = false)
    (hbad : maxFrame < start ∨ gradeFault grade = true) :
    gradeSet chk start grade s = .refuse s .badField start false := by
  simp only [gradeSet, h, Bool.false_eq_true, if_false]
  rw [if_pos (by simpa using hbad)]

theorem sceneMove_badField (chk : Checks) {src dest : Nat} (h : s.store.frozen = false)
    (hbad : maxFrame < src ∨ maxFrame < dest) : sceneMove chk src dest s = .refuse s .badField dest false := by
  simp [sceneMove, h, hbad]

theorem sceneDelete_badField (chk : Checks) {start : Nat} (h : s.store.frozen = false) (hbad : maxFrame < start) :
    sceneDelete chk start s = .refuse s .badField start false := by
  simp only [sceneDelete, h, Bool.false_eq_true, if_false, if_pos hbad]

theorem listClear_badField (chk : Checks) {first last : Nat} (hbad : maxFrame < first ∨ maxFrame < last ∨ last < first) :
    listClear chk first last s = .refuse s .badField first false := by
  rw [listClear, if_pos hbad]

theorem gradeSet_noScene {chk : Checks} {start : Nat} {grade : Option Grade} (hpass : Passes chk s.store.index)
    (h : s.store.frozen = false) (hstart : start ≤ maxFrame) (hfault : gradeFault grade = false)
    (hnone : recordAtStart start s.store.index = none) :
    gradeSet chk start grade s = .refuse s .noScene start false := by
  unfold gradeSet
  rw [if_neg (by simp [h]), if_neg (by simp [hfault, hstart]), examineStore_passes _ hpass]
  dsimp only
  rw [hnone]

/-! ### RANGE_TRIM at its first grant (R35) -/

theorem exec_rangeTrim_frozen (hat : atStore .rangeTrim s = some m) (h : s.store.frozen = true) :
    exec .rangeTrim s = .next (endEdit m (.refuse s .storeFrozen (u24 m.payload 0) false)) := by
  simp only [exec, execRangeTrim, hat, h, if_true]

theorem exec_rangeTrim_badField (hat : atStore .rangeTrim s = some m) (h : s.store.frozen = false)
    (hbad : maxFrame < u24 m.payload 0 ∨ maxFrame < u24 m.payload 3 ∨ u24 m.payload 3 < u24 m.payload 0) :
    exec .rangeTrim s = .next (endEdit m (.refuse s .badField (u24 m.payload 0) false)) := by
  simp only [exec, execRangeTrim, hat, h, Bool.false_eq_true, if_false]
  rw [if_pos hbad]

/-- Where the command comes to a refusal that found nothing, it is an edit refused. -/
theorem refuses {c : Instr} {e : EditEnd} {result : ReplyResult} {key : Nat} (hup : s.up = true)
    (hroom : sharedCount s.cue.txq ≤ 3) (hresult : result ≠ .ok) (hexec : exec c s = .next (endEdit m e))
    (he : e = .refuse s result key false) : ∃ t, exec c s = .next t ∧ s.editRefused t m result key :=
  ⟨_, hexec, he ▸ endEdit_refused hup hroom hresult key⟩

/-- Settles O47: each edit comes to a refusal where its first failing check of R25 stands, and ends as
`endEdit_refused` says. -/
theorem refusedEditsWriteNothing : Obligations.RefusedEditsWriteNothing := by
  refine ⟨?frozen, ?sceneSet, ?fields, ?clear, ?others⟩
  case frozen =>
    intro s m chk hup hfrozen hroom
    refine ⟨fun hat => ?_, fun hat => ?_, fun hat => ?_, fun hat => ?_, fun hat => ?_⟩
    · exact refuses hup hroom (by simp) (exec_sceneSet hat chk) (sceneSet_frozen_refused chk _ hfrozen)
    · exact refuses hup hroom (by simp) (exec_gradeSet hat chk) (gradeSet_frozen_refused chk _ _ hfrozen)
    · exact refuses hup hroom (by simp) (exec_sceneMove hat chk) (sceneMove_frozen_refused chk _ _ hfrozen)
    · exact refuses hup hroom (by simp) (exec_sceneDelete hat chk) (sceneDelete_frozen_refused chk _ hfrozen)
    · exact refuses hup hroom (by simp) (exec_rangeTrim_frozen hat hfrozen) rfl
  case sceneSet =>
    intro s m chk r hup hfrozen hroom hat hr hparity
    have hexec := exec_sceneSet hat chk
    have hpass := passes_of_nil hparity s.store.index
    rw [hr] at hexec
    refine ⟨fun hbad => ?_, fun hfault hnone hfull => ?_, fun hfault hnone hfull hknots => ?_,
      fun e hfault he hknots => ?_⟩
    · refine refuses hup hroom (by simp) hexec (sceneSet_badField chk hfrozen ?_)
      simpa [Record.fault] using hbad
    · exact refuses hup hroom (by simp) hexec (sceneSet_listFull hpass hfrozen hfault hnone hfull)
    · exact refuses hup hroom (by simp) hexec (sceneSet_knotsFull hpass hfrozen hfault hnone hfull hknots)
    · exact refuses hup hroom (by simp) hexec (sceneSet_knotsFull_replacing hpass hfrozen hfault he hknots)
  case fields =>
    intro s m chk hup hfrozen hroom
    refine ⟨fun hat hbad => ?_, fun hat hbad => ?_, fun hat hbad => ?_, fun hat hbad => ?_⟩
    · exact refuses hup hroom (by simp) (exec_gradeSet hat chk) (gradeSet_badField chk hfrozen hbad)
    · exact refuses hup hroom (by simp) (exec_sceneMove hat chk) (sceneMove_badField chk hfrozen hbad)
    · exact refuses hup hroom (by simp) (exec_sceneDelete hat chk) (sceneDelete_badField chk hfrozen hbad)
    · exact refuses hup hroom (by simp) (exec_rangeTrim_badField hat hfrozen hbad) rfl
  case clear =>
    intro s m chk hup hroom hat hbad
    exact refuses hup hroom (by simp) (exec_listClear hat chk) (listClear_badField chk hbad)
  case others =>
    intro s m chk hup hfrozen hroom hparity
    have hpass := passes_of_nil hparity s.store.index
    refine ⟨fun hat hstart hfault hnone => ?_, fun e grade hat hstart hgrade hfault he hread hknots => ?_,
      fun hat hsrc hdest hnone => ?_, fun e o hat hsrc hdest hne he ho => ?_⟩
    · exact refuses hup hroom (by simp) (exec_gradeSet hat chk) (gradeSet_noScene hpass hfrozen hstart hfault hnone)
    · have hexec := exec_gradeSet hat chk
      rw [← hgrade] at hexec
      exact refuses hup hroom (by simp) hexec (gradeSet_knotsFull hpass hfrozen hstart hfault he hread hknots)
    · exact refuses hup hroom (by simp) (exec_sceneMove hat chk) (sceneMove_noScene hpass hfrozen hsrc hdest hnone)
    · exact refuses hup hroom (by simp) (exec_sceneMove hat chk)
        (sceneMove_duplicate hpass hfrozen hsrc hdest (Ne.symm hne) he ho)

end Sys2Proof.Machine
end

section
/-! PROOF. RANGE_TRIM and its walk (R35 to R37). -/

namespace Sys2Proof.Machine

variable {s u : State} {chk : Checks} {m : Message} {w : Walk} {e : Entry}

/-! ### The store after a release -/

theorem trigger_handlerWaits (s : State) : (trigger s).arbiter.handlerWaits = s.arbiter.handlerWaits := by
  unfold trigger
  split
  · split
    · rfl
    · unfold request
      split
      · rfl
      · rfl
  · rfl

/-- Where the handler did not wait, the release gives the store to another client, or frees it (R42). -/
theorem release_leaves_handler (h : s.arbiter.handlerWaits = false) :
    (release s).arbiter.handlerWaits = false ∧ (release s).arbiter.holder ≠ some .handler := by
  unfold release
  split
  · exact ⟨h, by simp⟩
  · rw [if_neg (by simp [h])]
    split
    · exact ⟨h, by simp⟩
    · exact ⟨h, by simp⟩

theorem releaseSignal_leaves_handler (b : Bool) (h : s.arbiter.handlerWaits = false) :
    (releaseSignal b s).arbiter.handlerWaits = false ∧ (releaseSignal b s).arbiter.holder ≠ some .handler := by
  refine release_leaves_handler ?_
  cases b
  · exact h
  · exact (trigger_handlerWaits s).trans h

/-! ### A step that ends in a refusal -/

/-- An edit that ends refused, whatever it did to the list before (R25, R37). -/
theorem endEdit_failed {result : ReplyResult} (hw : ListWork s u) (hup : s.up = true)
    (hroom : sharedCount s.cue.txq ≤ 3) (hresult : result ≠ .ok) (key revision count : Nat) (changed : Bool) :
    ∃ t, endEdit m ⟨u, result, key, revision, count, changed⟩ = t ∧ s.storeStep t ∧ t.store = u.store
      ∧ EventFlag.editRefused.isIn t.events.flags = true
      ∧ (∀ g : EventFlag, g.isIn u.events.flags = true → g.isIn t.events.flags = true)
      ∧ (∃ q, t.cue.txq = q ++ replyTo m result (.edit key revision count))
      ∧ (changed = true → s.arbiter.holder = some .handler → s.signalled t)
      ∧ (changed = false → t.resolver = { s.resolver with latch := t.resolver.latch }) := by
  have hw' : ListWork s (raise .editRefused u) := hw.trans (.raise _ u)
  have heq : endEdit m ⟨u, result, key, revision, count, changed⟩
      = atEnd m result (.edit key revision count) changed (raise .editRefused u) := by
    rw [endEdit_eq]
    exact congrArg _ (if_neg hresult)
  obtain ⟨hstep, hstore, hevents, htxq⟩ :=
    atEnd_spec (m := m) result (.edit key revision count) changed hw' hroom
  refine ⟨_, heq, hstep, hstore.trans (raise_store _ _), ?_, fun g hg => ?_, ⟨_, htxq⟩, fun hc hheld => ?_, fun hc => ?_⟩
  · rw [hevents]
    exact raise_isIn _ _ (hw.up.trans hup)
  · rw [hevents]
    exact raise_keeps _ _ _ hg
  · subst hc
    exact atEnd_signalled _ _ hw' hup hheld
  · subst hc
    exact atEnd_quiet _ _ hw'

/-! ### One step of a walk -/

/-- The record of the next step of a walk. -/
theorem recordAtStart_walkNext {first : Nat} {idx : List Entry} (h : walkNext first w idx = some e) :
    recordAtStart e.start idx = some e := by
  unfold walkNext at h
  split at h
  · exact recordAtStart_firstFrom h
  · exact recordAtStart_nextAfter h

/-- With its record out of the list a walk goes on to the next one. -/
theorem walkNext_without {first : Nat} {idx idx' : List Entry}
    (hord : (soundEntries idx).Pairwise (fun a b => a.start < b.start))
    (hout : soundEntries idx' = (soundEntries idx).filter (fun x => decide (x.start ≠ e.start)))
    (h : walkNext first w idx = some e) : walkNext first w idx' = nextAfter e.start idx := by
  unfold walkNext at h ⊢
  split at h
  · exact firstFrom_without hord hout h
  · exact nextAfter_without hord hout h

/-- No record before the one a lookup upward finds stops it. -/
theorem find_reached {L : List Entry} {p : Nat → Bool} (hord : L.Pairwise (fun a b => a.start < b.start))
    (h : L.find? (fun x => p x.start) = some e) : ∀ x ∈ L, x.start < e.start → p x.start = false := by
  obtain ⟨-, A, B, rfl, hA⟩ := List.find?_eq_some_iff_append.1 h
  intro x hx hlt
  rcases List.mem_append.1 hx with hx | hx
  · simpa using hA x hx
  · rcases List.mem_cons.1 hx with rfl | hx
    · omega
    · have := (List.pairwise_cons.1 (List.pairwise_append.1 hord).2.1).1 x hx
      omega

theorem walkNext_reached {first : Nat} {st : Store} (hok : st.ok) (h : walkNext first w st.index = some e) :
    ∀ n ∈ soundStarts st.index, n < e.start → walkStop first w n = false := by
  intro n hn hlt
  obtain ⟨x, hx, rfl⟩ := List.mem_map.1 hn
  unfold walkNext at h
  unfold walkStop
  split at h
  · rw [firstFrom_sound] at h
    exact find_reached (p := fun k => decide (first ≤ k)) hok.2.2.1 h x hx hlt
  · next c _ =>
    rw [nextAfter_sound] at h
    exact find_reached (p := fun k => decide (c < k)) hok.2.2.1 h x hx hlt

/-- A step of a walk that finds its record in range, on a sound list. -/
theorem trimStep_visits (hpass : Passes chk s.store.index) (hfrozen : s.store.frozen = false)
    (he : walkNext (u24 m.payload 0) w s.store.index = some e) (hlast : e.start ≤ u24 m.payload 3)
    {r : BodyRead} (hr : readBody .edit chk e s = r) {t : State × Bool}
    (ht : trimRecord (deltasAt m.payload) e r.view r.state = t) :
    trimStep chk m w s = releaseSignal (r.changed || t.2) { t.1 with
      handler.state := .executing m (.walk ⟨some e.start, if t.2 then w.changed + 1 else w.changed⟩) } := by
  unfold trimStep
  dsimp only
  rw [if_neg (by simp [hfrozen]), examineStore_passes _ hpass]
  dsimp only
  rw [he, Option.filter_some, if_pos (by simpa using hlast)]
  dsimp only
  rw [hr, ht]
  rfl

theorem trimRecord_ungraded (d : Deltas) (e : Entry) {v : BodyView} (s : State) (h : v.body.grade = none) :
    trimRecord d e v s = (s, false) := by
  simp [trimRecord, h]

theorem trimRecord_same {d : Deltas} (e : Entry) {v : BodyView} (s : State) {g : Grade} (h : v.body.grade = some g)
    (hsame : g.trimmed d = g) : trimRecord d e v s = (s, false) := by
  simp [trimRecord, h, hsame]

/-- The list with a grade written into one record, its other fields as read (R36). -/
def State.trimmedTo (e : Entry) (g : Grade) (s : State) : State :=
  { s with store.index := updateEntry e.start (Entry.trimmed { e.body with grade := some g }) s.store.index }

theorem ListWork.trimmedTo (e : Entry) (g : Grade) (s : State) : ListWork s (s.trimmedTo e g) := .ofStore s _

theorem trimmedTo_store (e : Entry) (g : Grade) (s : State) : (s.trimmedTo e g).store = { s.store with
    index := (s.trimmedTo e g).store.index } := rfl

theorem recordAtStart_trimmedTo (e : Entry) (g : Grade) (s : State) (n : Nat) :
    recordAtStart n (s.trimmedTo e g).store.index = if n = e.start then
      (recordAtStart n s.store.index).map (fun o => { o with
        revision := min 255 (o.revision + 1), body := { e.body with grade := some g } })
      else recordAtStart n s.store.index := by
  refine (recordAtStart_updateEntry n e.start (Entry.trimmed { e.body with grade := some g }) s.store.index
    fun _ hf hs => ⟨hf, hs⟩).trans ?_
  simp only [← nextRevision_eq_min]
  rfl

theorem trimRecord_trims {d : Deltas} (e : Entry) {v : BodyView} (s : State) {g : Grade} (hv : v.body = e.body)
    (h : e.body.grade = some g) (hdiff : g.trimmed d ≠ g) :
    trimRecord d e v s = (s.trimmedTo e (g.trimmed d), true) := by
  simp [trimRecord, hv, h, hdiff, State.trimmedTo]

/-- The deltas added and clamped, value by value (R36). -/
theorem trimmed_eq (g : Grade) (p : List Byte) : g.trimmed (deltasAt p) = { g with
    black := ⟨max 0 (min 1023 (g.black.r + s16 p 6)), max 0 (min 1023 (g.black.g + s16 p 8)),
      max 0 (min 1023 (g.black.b + s16 p 10))⟩,
    gain := ⟨max 0 (min 4095 (g.gain.r + s16 p 12)), max 0 (min 4095 (g.gain.g + s16 p 14)),
      max 0 (min 4095 (g.gain.b + s16 p 16))⟩,
    lift := ⟨max (-256) (min 255 (g.lift.r + s16 p 18)), max (-256) (min 255 (g.lift.g + s16 p 20)),
      max (-256) (min 255 (g.lift.b + s16 p 22))⟩,
    sat := max 0 (min 2047 (g.sat + s16 p 24)) } := by
  simp [Grade.trimmed, Rgb.clamped_eq, Rgb.add, deltasAt, srgbAt, clamp_eq]

/-- A released step that goes on: what it leaves alone. -/
theorem exec_trimStep_held (hheld : s.arbiter.holder = some .handler) (hwalk : s.handler.state = .executing m (.walk w))
    (chk : Checks) : exec (.trimStep chk) s = .next (trimStep chk m w s) := by
  show execTrimStep chk s = _
  rw [execTrimStep_walk chk m w s hwalk, askForStep_held s hheld, if_pos hheld]

end Sys2Proof.Machine
end

section
/-! PROOF. The clauses of a walk (R35 to R37, R168 to R173), one by one. -/

namespace Sys2Proof.Machine

variable {s u : State} {chk : Checks} {m : Message} {w : Walk} {e : Entry}

/-- The handler a step of a walk that goes on leaves. -/
theorem releaseSignal_walk (b : Bool) (hw : ListWork s u) (p : Phase) :
    (releaseSignal b { u with handler.state := .executing m p }).handler = ⟨.executing m p, s.handler.ignored⟩ := by
  rw [releaseSignal_handler, hw.handler]

theorem releaseSignal_walk_signalled (hw : ListWork s u) (hup : s.up = true) (hheld : s.arbiter.holder = some .handler)
    (p : Phase) : s.signalled (releaseSignal true { u with handler.state := .executing m p }) :=
  signalled_releaseSignal s _ hup hw.part hw.arbiter hw.resolver (congrArg Pcu.gateFrame hw.pcu) hheld

/-- A step of a walk on a graded record read clean (R36). -/
theorem trimStep_clean {g : Grade} (hup : s.up = true) (hheld : s.arbiter.holder = some .handler)
    (hpass : Passes chk s.store.index) (hfrozen : s.store.frozen = false) (hwaits : s.arbiter.handlerWaits = false)
    (he : walkNext (u24 m.payload 0) w s.store.index = some e) (hlast : e.start ≤ u24 m.payload 3)
    (hd : e.damaged = false) (hclean : bodyOutcome chk e.start = .clean) (hg : e.body.grade = some g) :
    let t := trimStep chk m w s
    t.cue = s.cue ∧ t.events = s.events ∧ t.arbiter.handlerWaits = false ∧ t.arbiter.holder ≠ some .handler
      ∧ (if g.trimmed (deltasAt m.payload) = g then
          t.store = s.store ∧ t.handler.state = .executing m (.walk ⟨some e.start, w.changed⟩)
            ∧ t.resolver = { s.resolver with latch := t.resolver.latch }
            ∧ (s.arbiter.noneWaits = true → t.arbiter.holder = none)
         else
          t.handler.state = .executing m (.walk ⟨some e.start, w.changed + 1⟩) ∧ s.signalled t
            ∧ t.store = { s.store with index := t.store.index }
            ∧ ∀ n, recordAtStart n t.store.index =
                if n = e.start then
                  (recordAtStart n s.store.index).map (fun o => { o with
                    revision := min 255 (o.revision + 1),
                    body := { e.body with grade := some (g.trimmed (deltasAt m.payload)) } })
                else recordAtStart n s.store.index) := by
  have hr := readBody_clean s .edit chk e hd hclean
  by_cases hsame : g.trimmed (deltasAt m.payload) = g
  · have hstep := trimStep_visits hpass hfrozen he hlast hr (trimRecord_same e s hg hsame)
    dsimp only at hstep ⊢
    rw [hstep, if_pos hsame]
    obtain ⟨hwait, hholder⟩ := releaseSignal_leaves_handler (s := { s with
      handler.state := .executing m (.walk ⟨some e.start, w.changed⟩) }) false hwaits
    refine ⟨releaseSignal_cue _ _, releaseSignal_events _ _, hwait, hholder, releaseSignal_store _ _, ?_,
      releaseSignal_quiet _, fun hnone => ?_⟩
    · exact congrArg Handler.state (releaseSignal_walk (m := m) false (.refl s) (.walk ⟨some e.start, w.changed⟩))
    · exact congrArg (·.arbiter.holder) (release_to_none { s with
        handler.state := .executing m (.walk ⟨some e.start, w.changed⟩) } hnone)
  · have hstep := trimStep_visits hpass hfrozen he hlast hr (trimRecord_trims e s rfl hg hsame)
    have hw := ListWork.trimmedTo e (g.trimmed (deltasAt m.payload)) s
    dsimp only [Bool.false_or, if_true] at hstep ⊢
    rw [hstep, if_neg hsame]
    obtain ⟨hwait, hholder⟩ := releaseSignal_leaves_handler (s := { s.trimmedTo e (g.trimmed (deltasAt m.payload)) with
      handler.state := .executing m (.walk ⟨some e.start, w.changed + 1⟩) }) true hwaits
    refine ⟨releaseSignal_cue _ _, releaseSignal_events _ _, hwait, hholder, ?_,
      releaseSignal_walk_signalled hw hup hheld _, ?_, fun n => ?_⟩
    · exact congrArg Handler.state (releaseSignal_walk (m := m) true hw (.walk ⟨some e.start, w.changed + 1⟩))
    · rw [releaseSignal_store]
      rfl
    · rw [releaseSignal_store]
      exact recordAtStart_trimmedTo e _ s n

/-- A record without a grade to trim, for what a client takes of it, is visited (R36). -/
theorem trimStep_visited (hpass : Passes chk s.store.index)
    (hfrozen : s.store.frozen = false) (he : walkNext (u24 m.payload 0) w s.store.index = some e)
    (hlast : e.start ≤ u24 m.payload 3) (hnone : (bodyTaken chk e).grade = none) :
    trimStep chk m w s = releaseSignal (readBody .edit chk e s).changed { (readBody .edit chk e s).state with
      handler.state := .executing m (.walk ⟨some e.start, w.changed⟩) } := by
  have htrim := trimRecord_ungraded (deltasAt m.payload) e (v := (readBody .edit chk e s).view)
    (readBody .edit chk e s).state (by rw [readBody_view_body]; exact hnone)
  have hstep := trimStep_visits hpass hfrozen he hlast rfl htrim
  rwa [Bool.or_false, if_neg (by simp)] at hstep

/-- A body read changes no revision and no body. -/
theorem recordAtStart_readBody_keeps (op : StoreOp) (chk : Checks) (e : Entry) (s : State) (n : Nat) :
    (recordAtStart n (readBody op chk e s).state.store.index).map (fun o => (o.revision, o.body))
      = (recordAtStart n s.store.index).map (fun o => (o.revision, o.body)) := by
  unfold readBody
  split
  · rfl
  · split
    · rfl
    · rw [raise_store]
    · rw [raise_store]
      dsimp only
      rw [recordAtStart_damage]
      split
      · rw [Option.map_map]
        rfl
      · rfl

/-- A step of a walk that finds a body correctable (R36, R169, R171). -/
theorem trimStep_corrects {syn : Byte} {g : Grade} (hup : s.up = true) (hheld : s.arbiter.holder = some .handler)
    (hpass : Passes chk s.store.index) (hfrozen : s.store.frozen = false)
    (he : walkNext (u24 m.payload 0) w s.store.index = some e) (hlast : e.start ≤ u24 m.payload 3)
    (hd : e.damaged = false) (hcap : s.events.capture = ⟨.empty, false⟩)
    (hout : bodyOutcome chk e.start = .correctable syn) (hg : e.body.grade = some g) :
    let t := trimStep chk m w s
    ∃ n, s.signalled t ∧ t.handler = ⟨.executing m (.walk ⟨some e.start, n⟩), s.handler.ignored⟩
      ∧ t.events = { s.events with
          flags := t.events.flags, corrected := min (s.events.corrected + 1) 65535,
          capture := ⟨.holding ⟨.corrected, .edit, e.start, syn⟩, false⟩ }
      ∧ EventFlag.storeCe.isIn t.events.flags = true
      ∧ (if g.trimmed (deltasAt m.payload) = g then n = w.changed ∧ t.store = s.store
         else n = w.changed + 1 ∧ t.store = { s.store with index := t.store.index }
           ∧ ∀ j, recordAtStart j t.store.index =
               if j = e.start then some { e with
                 revision := min 255 (e.revision + 1),
                 body := { e.body with grade := some (g.trimmed (deltasAt m.payload)) } }
               else recordAtStart j s.store.index) := by
  obtain ⟨v, hr, hw, hstore, hevents, hflag⟩ := readBody_corrects .edit hup hd hcap hout
  by_cases hsame : g.trimmed (deltasAt m.payload) = g
  · have hstep := trimStep_visits hpass hfrozen he hlast hr (trimRecord_same e v hg hsame)
    dsimp only [Bool.true_or] at hstep ⊢
    rw [hstep]
    refine ⟨_, releaseSignal_walk_signalled hw hup hheld _, releaseSignal_walk true hw _, ?_, ?_, ?_⟩
    · rw [releaseSignal_events]
      exact hevents
    · rw [releaseSignal_events]
      exact hflag
    · rw [if_pos hsame, releaseSignal_store]
      exact ⟨by simp, hstore⟩
  · have hstep := trimStep_visits hpass hfrozen he hlast hr (trimRecord_trims e v rfl hg hsame)
    have hw' := hw.trans (.trimmedTo e (g.trimmed (deltasAt m.payload)) v)
    dsimp only [Bool.true_or] at hstep ⊢
    rw [hstep]
    refine ⟨_, releaseSignal_walk_signalled hw' hup hheld _, releaseSignal_walk true hw' _, ?_, ?_, ?_⟩
    · rw [releaseSignal_events]
      exact hevents
    · rw [releaseSignal_events]
      exact hflag
    · rw [if_neg hsame, releaseSignal_store]
      refine ⟨by simp, (trimmedTo_store _ _ v).trans (by rw [hstore]), fun j => ?_⟩
      refine (recordAtStart_trimmedTo e _ v j).trans ?_
      rw [hstore]
      split
      · next hj =>
        rw [hj, recordAtStart_walkNext he]
        rfl
      · rfl

/-- A step of a walk that finds a body uncorrectable (R36, R170, R171). -/
theorem trimStep_damages {syn : Byte} (hup : s.up = true) (hheld : s.arbiter.holder = some .handler)
    (hpass : Passes chk s.store.index) (hfrozen : s.store.frozen = false)
    (he : walkNext (u24 m.payload 0) w s.store.index = some e) (hlast : e.start ≤ u24 m.payload 3)
    (hd : e.damaged = false) (hcap : s.events.capture = ⟨.empty, false⟩)
    (hout : bodyOutcome chk e.start = .uncorrectable syn) :
    let t := trimStep chk m w s
    s.signalled t ∧ t.handler = ⟨.executing m (.walk ⟨some e.start, w.changed⟩), s.handler.ignored⟩
      ∧ t.events = { s.events with
          flags := t.events.flags, damaged := min (s.events.damaged + 1) 65535,
          capture := ⟨.locked ⟨.uncorrectable, .edit, e.start, syn⟩, false⟩ }
      ∧ EventFlag.storeUe.isIn t.events.flags = true ∧ t.store = { s.store with index := t.store.index }
      ∧ ∀ j, recordAtStart j t.store.index =
          if j = e.start then some { e with damaged := true } else recordAtStart j s.store.index := by
  obtain ⟨v, hr, hw, hstore, hevents, hflag⟩ := readBody_damages .edit hup hd hcap hout
  have hstep := trimStep_visits hpass hfrozen he hlast hr
    (trimRecord_ungraded (deltasAt m.payload) e (v := BodyView.lost) v rfl)
  dsimp only [Bool.true_or] at hstep ⊢
  rw [hstep]
  refine ⟨releaseSignal_walk_signalled hw hup hheld _, releaseSignal_walk true hw _, ?_, ?_, ?_, fun j => ?_⟩
  · rw [releaseSignal_events]
    exact hevents
  · rw [releaseSignal_events]
    exact hflag
  · rw [releaseSignal_store, hstore]
  · rw [releaseSignal_store, hstore]
    refine (recordAtStart_damage j e.start _).trans ?_
    split
    · next hj =>
      rw [hj, recordAtStart_walkNext he]
      rfl
    · rfl

/-- A record read clean is trimmed where it is graded, not damaged, and a value differs (R36). -/
theorem trimRecord_cases (d : Deltas) (x : Entry) (s : State) :
    (trimRecord d x (if x.damaged then BodyView.lost else ⟨false, x.body⟩) s = (s, false)
        ∧ ∀ g, x.damaged = false → x.body.grade = some g → ¬ g.trimmed d ≠ g)
      ∨ ∃ g, x.damaged = false ∧ x.body.grade = some g ∧ g.trimmed d ≠ g
          ∧ trimRecord d x (if x.damaged then BodyView.lost else ⟨false, x.body⟩) s
              = (s.trimmedTo x (g.trimmed d), true) := by
  cases hd : x.damaged
  case true => exact .inl ⟨trimRecord_ungraded d x s rfl, by simp⟩
  case false =>
    cases hg : x.body.grade with
    | none => exact .inl ⟨trimRecord_ungraded d x s hg, by simp⟩
    | some g =>
      by_cases hsame : g.trimmed d = g
      · exact .inl ⟨trimRecord_same x s hg hsame, fun g' _ h => by cases h; simpa using hsame⟩
      · exact .inr ⟨g, rfl, rfl, hsame, trimRecord_trims x s rfl hg hsame⟩

/-- A step of a walk whose lookup finds a new faulty entry: it completes with the record after it, and the walk ends
(R37, R173). -/
theorem trimStep_new_fault (hok : s.store.ok) (hfrozen : s.store.frozen = false)
    (he : walkNext (u24 m.payload 0) w s.store.index = some e) :
    ∃ u n, trimStep ⟨[], [e.start]⟩ m w s = endEdit m ⟨u, .storeFrozen, u24 m.payload 0, 0, n, true⟩
      ∧ ListWork (s.withFaulty e) u ∧ u.events = (s.withFaulty e).events ∧ u.store.frozen = true
      ∧ recordAtStart e.start u.store.index = none
      ∧ ((∀ x, nextAfter e.start s.store.index = some x → u24 m.payload 3 < x.start) →
          n = w.changed ∧ ∀ j, j ≠ e.start → recordAtStart j u.store.index = recordAtStart j s.store.index)
      ∧ ∀ x g, nextAfter e.start s.store.index = some x → x.start ≤ u24 m.payload 3 → x.damaged = false →
          x.body.grade = some g → g.trimmed (deltasAt m.payload) ≠ g →
          n = w.changed + 1 ∧ recordAtStart x.start u.store.index = some { x with
            revision := min 255 (x.revision + 1),
            body := { x.body with grade := some (g.trimmed (deltasAt m.payload)) } } := by
  obtain ⟨hmem, hf⟩ := walkNext_some he
  have hx := examineStore_new_fault hok hmem hf (walkNext_reached hok he)
  have hrec := recordAtStart_markFaulty hok hmem hf
  have hnext : walkNext (u24 m.payload 0) w (s.withFaulty e).store.index = nextAfter e.start s.store.index := by
    rw [withFaulty_store]
    exact walkNext_without hok.2.2.1 (soundEntries_without hok hmem hf) he
  have hstep : trimStep ⟨[], [e.start]⟩ m w s =
      match (nextAfter e.start s.store.index).filter (fun x => decide (x.start ≤ u24 m.payload 3)) with
      | none => endWalk m .storeFrozen w.changed true (s.withFaulty e)
      | some x =>
        let r := readBody .edit ⟨[], [e.start]⟩ x (s.withFaulty e)
        let t := trimRecord (deltasAt m.payload) x r.view r.state
        endWalk m .storeFrozen (if t.2 then w.changed + 1 else w.changed) true t.1 := by
    unfold trimStep
    dsimp only
    rw [if_neg (by simp [hfrozen]), hx]
    dsimp only
    rw [hnext]
    cases (nextAfter e.start s.store.index).filter (fun x => decide (x.start ≤ u24 m.payload 3)) with
    | none => rfl
    | some x => rfl
  have hgone : recordAtStart e.start (s.withFaulty e).store.index = none := by
    rw [withFaulty_store, hrec, if_pos rfl]
  have hothers : ∀ j, j ≠ e.start →
      recordAtStart j (s.withFaulty e).store.index = recordAtStart j s.store.index := fun j hj => by
    rw [withFaulty_store, hrec, if_neg hj]
  have hfroze : (s.withFaulty e).store.frozen = true := by rw [withFaulty_store]
  rw [hstep]
  cases hn : nextAfter e.start s.store.index with
  | none => exact ⟨_, _, rfl, .refl _, rfl, hfroze, hgone, fun _ => ⟨rfl, hothers⟩, fun _ _ hx => by cases hx⟩
  | some x =>
    obtain ⟨hxmem, hxf, hxlt⟩ := nextAfter_some hn
    by_cases hlast : x.start ≤ u24 m.payload 3
    case neg =>
      rw [Option.filter_some, if_neg (by simpa using hlast)]
      refine ⟨_, _, rfl, .refl _, rfl, hfroze, hgone, fun _ => ⟨rfl, hothers⟩, fun y _ hy hyl => ?_⟩
      cases hy
      exact absurd hyl hlast
    rw [Option.filter_some, if_pos (by simpa using hlast)]
    dsimp only
    rw [readBody_undisturbed .edit (s.withFaulty e) (chk := ⟨[], [e.start]⟩) (e := x) (.inr rfl)]
    dsimp only
    have hcond {P : Prop} (h : ∀ y, some x = some y → u24 m.payload 3 < y.start) : P :=
      absurd (h x rfl) (Nat.not_lt.2 hlast)
    rcases trimRecord_cases (deltasAt m.payload) x (s.withFaulty e) with ⟨htrim, hnot⟩ | ⟨g, hxd, hg, hdiff, htrim⟩
    · rw [htrim]
      refine ⟨_, _, rfl, .refl _, rfl, hfroze, hgone, hcond, fun y g hy _ hyd hyg hydiff => ?_⟩
      cases hy
      exact absurd hydiff (hnot g hyd hyg)
    · rw [htrim]
      refine ⟨_, _, rfl, .trimmedTo x _ _, rfl, hfroze, ?_, hcond, fun y g' hy _ _ hyg _ => ?_⟩
      · rw [recordAtStart_trimmedTo, if_neg (by omega), hgone]
      · cases hy
        obtain rfl : g = g' := Option.some.inj (hg.symm.trans hyg)
        refine ⟨rfl, ?_⟩
        rw [recordAtStart_trimmedTo, if_pos rfl, hothers x.start (by omega), recordAtStart_nextAfter hn]
        rfl

end Sys2Proof.Machine
end

section
/-! PROOF. RANGE_TRIM, assembled (R35 to R37). -/

namespace Sys2Proof.Machine

variable {s : State} {chk : Checks} {m : Message} {w : Walk}

/-- A RANGE_TRIM accepted at its first grant begins its walk (R35). -/
theorem exec_rangeTrim_begins (hat : atStore .rangeTrim s = some m) (hfrozen : s.store.frozen = false)
    (hord : u24 m.payload 0 ≤ u24 m.payload 3) (hlast : u24 m.payload 3 ≤ maxFrame) :
    exec .rangeTrim s = .next { s with handler := ⟨.executing m (.walk ⟨none, 0⟩), s.handler.ignored⟩ } := by
  simp only [exec, execRangeTrim, hat, hfrozen, Bool.false_eq_true, if_false]
  rw [if_neg (by omega)]

/-- A step of a walk asks for a free store and is made at once, or waits for a held one (R35, R41). -/
theorem exec_trimStep_asks (hwalk : s.handler.state = .executing m (.walk w)) (hwaits : s.arbiter.handlerWaits = false) :
    (s.arbiter.holder = none → s.arbiter.noneWaits = true →
        exec (.trimStep chk) s = exec (.trimStep chk) { s with arbiter := { s.arbiter with holder := some .handler } })
      ∧ (s.arbiter.holder ≠ none → s.arbiter.holder ≠ some .handler →
        exec (.trimStep chk) s = .next { s with arbiter := { s.arbiter with handlerWaits := true } }) := by
  obtain ⟨hframe, hcases⟩ := askForStep_spec s
  have hexec : exec (.trimStep chk) s = .next (if (askForStep s).arbiter.holder = some .handler
      then trimStep chk m w (askForStep s) else askForStep s) := execTrimStep_walk chk m w s hwalk
  constructor
  · intro hfree hnone
    have hasked : askForStep s = { s with arbiter := { s.arbiter with holder := some .handler } } := by
      rcases hcases with ⟨-, h⟩ | ⟨-, -, h⟩ | ⟨h, -⟩
      · simp [hfree, hwaits] at h
      · rw [hframe, h]
      · simp [hfree, hnone] at h
    rw [hexec, hasked, if_pos rfl]
    exact (exec_trimStep_held (s := { s with arbiter := { s.arbiter with holder := some .handler } }) rfl hwalk chk).symm
  · intro hheld hother
    have hasked : askForStep s = { s with arbiter := { s.arbiter with handlerWaits := true } } := by
      rcases hcases with ⟨-, h⟩ | ⟨h, -⟩ | ⟨-, -, h⟩
      · simp [hother, hwaits] at h
      · exact absurd h hheld
      · rw [hframe, h]
    rw [hexec, hasked, if_neg hother]

/-- A walk without a further record in its range ends (R35). -/
theorem trimStep_ends (hpass : Passes chk s.store.index) (hfrozen : s.store.frozen = false)
    (hnone : ∀ e, walkNext (u24 m.payload 0) w s.store.index = some e → u24 m.payload 3 < e.start) :
    trimStep chk m w s = atEnd m .ok (.edit (u24 m.payload 0) 0 w.changed) false s := by
  have hfilter : (walkNext (u24 m.payload 0) w s.store.index).filter (fun e => decide (e.start ≤ u24 m.payload 3))
      = none := by
    cases h : walkNext (u24 m.payload 0) w s.store.index with
    | none => rfl
    | some e => rw [Option.filter_some, if_neg (by simpa using hnone e h)]
  unfold trimStep
  dsimp only
  rw [if_neg (by simp [hfrozen]), examineStore_passes _ hpass]
  dsimp only
  rw [hfilter]
  rfl

/-- Settles O44: a walk asks (`exec_trimStep_asks`), visits its records one by one (`trimStep_clean`,
`trimStep_visited`, `trimStep_corrects`, `trimStep_damages`, `trimStep_new_fault`), and ends (`trimStep_frozen`,
`trimStep_ends`). -/
theorem trimWalksTheRange : Obligations.TrimWalksTheRange := by
  refine ⟨?begins, ?clean, ?ungraded, ?errors, ?asks, ?frozen, ?faulty, ?ends⟩
  case begins =>
    intro s m hat hfrozen hord hlast
    exact exec_rangeTrim_begins hat hfrozen hord hlast
  case clean =>
    intro s m w chk e g h hup hheld hwalk hparity hfrozen hwaits he hlast hd hclean hg hh
    rw [← trimmed_eq] at hh
    subst hh
    exact ⟨_, exec_trimStep_held hheld hwalk chk,
      trimStep_clean hup hheld (passes_of_nil hparity _) hfrozen hwaits he hlast hd hclean hg⟩
  case ungraded =>
    intro s m w chk e hup hheld hwalk hparity hfrozen he hlast hnone
    refine ⟨_, exec_trimStep_held hheld hwalk chk, ?_⟩
    rw [trimStep_visited (passes_of_nil hparity _) hfrozen he hlast hnone]
    refine ⟨releaseSignal_walk _ (ListWork.readBody .edit chk e s) _, fun n => ?_⟩
    rw [releaseSignal_store]
    exact recordAtStart_readBody_keeps .edit chk e s n
  case errors =>
    intro s m w chk e syn hup hheld hwalk hparity hfrozen he hlast hd hcap
    have hpass := passes_of_nil hparity s.store.index
    have hexec := exec_trimStep_held hheld hwalk chk
    constructor
    · intro g h hout hg hh
      subst hh
      obtain ⟨n, hn⟩ := trimStep_corrects hup hheld hpass hfrozen he hlast hd hcap hout hg
      exact ⟨_, n, hexec, hn⟩
    · intro hout
      exact ⟨_, hexec, trimStep_damages hup hheld hpass hfrozen he hlast hd hcap hout⟩
  case asks =>
    intro s m w chk hwalk hwaits
    exact exec_trimStep_asks hwalk hwaits
  case frozen =>
    intro s m w chk hup hheld hwalk hfrozen hroom
    obtain ⟨t, ht, hstep, hstore, hflag, -, ⟨q, htxq⟩, -, hquiet⟩ := endEdit_failed (m := m) (ListWork.refl s) hup hroom
      (result := .storeFrozen) (by simp) (u24 m.payload 0) 0 w.changed false
    have hexec := exec_trimStep_held hheld hwalk chk
    rw [trimStep_frozen _ _ _ _ hfrozen, endWalk, ht] at hexec
    exact ⟨t, q, hexec, hstep, hstore, hquiet rfl, hflag, htxq⟩
  case faulty =>
    intro s m w e hup hheld hwalk hok hfrozen hroom he
    obtain ⟨u, n, hends, hwork, hevents, hfroze, hgone, hlast, htrims⟩ := trimStep_new_fault (m := m) hok hfrozen he
    obtain ⟨t, ht, hstep, hstore, hflag, hkeeps, ⟨q, htxq⟩, hsignal, -⟩ := endEdit_failed (m := m)
      ((ListWork.withFaulty e s).trans hwork) hup hroom (result := .storeFrozen) (by simp) (u24 m.payload 0) 0 n true
    have hexec := exec_trimStep_held hheld hwalk ⟨[], [e.start]⟩
    rw [hends, ht] at hexec
    refine ⟨t, q, n, hexec, hstep, hsignal rfl hheld, by rw [hstore]; exact hfroze, hkeeps _ ?_, hflag,
      by rw [hstore]; exact hgone, htxq, fun h => ?_, fun x g h hx hxl hxd hg hh hdiff => ?_⟩
    · rw [hevents]
      exact withFaulty_isIn e hup
    · rw [hstore]
      exact hlast h
    · subst hh
      rw [hstore]
      exact htrims x g hx hxl hxd hg hdiff
  case ends =>
    intro s m w chk hup hheld hwalk hparity hfrozen hroom hnone
    refine ⟨_, exec_trimStep_held hheld hwalk chk, ?_⟩
    rw [trimStep_ends (passes_of_nil hparity _) hfrozen hnone]
    exact atEnd_spec .ok _ false (.refl s) hroom

end Sys2Proof.Machine
end

section
/-! PROOF. The queries (R121 to R125, R168 to R173). -/

namespace Sys2Proof.Machine

variable {s : State} {m : Message} {chk : Checks}

/-! ### Queries away from the store (R122, R124, R125) -/

theorem queryOf_eq {topic : Nat} (hand : inHand .query s = some m) (h : u8 m.payload 0 = topic) :
    queryOf topic s = some m := queryOf_eq_some_iff.2 ⟨hand, h⟩

/-- The topic a REPLY carries is the one of its QUERY. -/
theorem topic_byte {b : Byte} (h : u8 m.payload 0 = b.toNat) : m.payload.getD 0 0 = b :=
  BitVec.eq_of_toNat_eq h

/-- A QUERY individually addressed is answered, and nothing else changes (R118). -/
theorem answerQuery_joins (a : Answer) (hroom : s.sharedTaken < 5) (hind : m.addressing = .individual)
    (hsource : m.source.toNat ≤ 63) : answerQuery m a s = { s with
      handler := ⟨.idle, s.handler.ignored⟩,
      cue := { s.cue with txq := s.cue.txq ++ [⟨m.source, .reply m.kind .ok (.query (m.payload.getD 0 0) a)⟩] } } := by
  rw [answerQuery, endPlain_ok_joins _ _ _ hroom, replyTo, if_pos ⟨hind, hsource⟩]

/-- With no shared place free the REPLY is dropped, counted and raises TX_ABANDON (R105). -/
theorem sendReply_full {r : ReplyResult} {body : ReplyBody} (hfull : 5 ≤ s.sharedTaken)
    (hind : m.addressing = .individual) (hsource : m.source.toNat ≤ 63) :
    sendReply m r body s = (raise .txAbandon { s with cue.txAbandons := satInc s.cue.txAbandons }, false) := by
  rw [sendReply, if_pos (And.intro hind hsource), handShared_full _ _ hfull]

/-- Settles O48: a QUERY away from the store is answered (`answerQuery_joins`); the unread mark goes with the answer,
and stands where it is dropped (`handShared_full`). -/
theorem queriesAreAnswered : Obligations.QueriesAreAnswered := by
  refine ⟨?answered, ?dropped, fun _ => rfl⟩
  case answered =>
    intro s m hroom hand hind hsource
    refine ⟨fun htopic => ?_, fun htopic => ?_, fun htopic => ?_, fun htopic => ?_⟩
    · simp only [exec, execQueryStatus, queryOf_eq hand htopic]
      rw [answerQuery_joins _ hroom hind hsource, topic_byte (b := 0) htopic]
    · simp only [exec, execQueryFetch, queryOf_eq hand htopic]
      rw [answerQuery_joins _ hroom hind hsource, topic_byte (b := 3) htopic]
    · simp only [exec, execQueryCapture, queryOf_eq hand htopic]
      rw [answerQuery_joins _ hroom hind hsource, topic_byte (b := 4) htopic]
      rfl
    · simp only [exec, execQueryPunch, queryOf_eq hand htopic]
      rw [sendReply_room _ _ _ _ ⟨hind, hsource⟩ hroom, topic_byte (b := 2) htopic]
      rfl
  case dropped =>
    intro s m hup hfull hand hind hsource htopic
    have hexec : exec .queryPunch s = .next (handlerIdle (raise .txAbandon { s with
        cue.txAbandons := satInc s.cue.txAbandons })) := by
      simp only [exec, execQueryPunch, queryOf_eq hand htopic]
      rw [sendReply_full hfull hind hsource]
      rfl
    refine ⟨_, hexec, raise_gate _ _, ?_, ?_, raise_isIn _ _ hup⟩
    · show ({ (raise .txAbandon { s with cue.txAbandons := satInc s.cue.txAbandons }).handler with
        state := .idle } : Handler) = _
      rw [raise_handler]
    · exact (raise_cue_txAbandons _ _).trans (satInc_eq_min _)

/-! ### QUERY SCENE (R123) -/

/-- A record as it is answered or sent (R24). -/
abbrev Entry.reported (e : Entry) : Record :=
  if e.damaged then ⟨e.start, 0, 0, 0, false, true, none⟩
  else ⟨e.start, e.body.sceneId, e.revision, e.body.transitionLen, e.body.omitted, false, e.body.grade⟩

theorem record_eq_reported (e : Entry) :
    e.record (if e.damaged then BodyView.lost else ⟨false, e.body⟩) = e.reported := by
  unfold Entry.reported
  cases e.damaged <;> rfl

theorem exec_queryScene (hat : atStore .query s = some m) (chk : Checks) : exec (.queryScene chk) s = .next
    (atEnd m (queryScene chk (u24 m.payload 1) s).result
      (.query (m.payload.getD 0 0) (queryScene chk (u24 m.payload 1) s).answer)
      (queryScene chk (u24 m.payload 1) s).changed (queryScene chk (u24 m.payload 1) s).state) := by
  simp only [exec, execQueryScene, hat]
  rfl

theorem queryScene_none {f : Nat} (hpass : Passes chk s.store.index) (h : governing f s.store.index = none) :
    queryScene chk f s = ⟨s, .noScene, .nothing, false⟩ := by
  unfold queryScene
  rw [examineStore_passes _ hpass]
  dsimp only
  rw [h]

theorem queryScene_reads {f : Nat} {e : Entry} (hpass : Passes chk s.store.index)
    (h : governing f s.store.index = some e) {r : BodyRead} (hr : readBody .edit chk e s = r) :
    queryScene chk f s = ⟨r.state, .ok, .scene (e.record r.view), r.changed⟩ := by
  unfold queryScene
  rw [examineStore_passes _ hpass]
  dsimp only
  rw [h]
  dsimp only
  rw [hr, Bool.false_or]

/-- The answer of a QUERY SCENE that finds no error, whatever its lookup found before (R123). -/
theorem queryScene_answers {f : Nat} (stop : Nat → Bool) {v : State} {b : Bool} (hstop : stop = fun n => decide (f < n))
    (hx : examineStore stop chk s = (v, b))
    (hread : ∀ e, governing f v.store.index = some e → e.damaged = true ∨ bodyOutcome chk e.start = .clean) :
    queryScene chk f s = match governing f v.store.index with
      | none => ⟨v, .noScene, .nothing, b⟩
      | some e => ⟨v, .ok, .scene e.reported, b⟩ := by
  subst hstop
  unfold queryScene
  rw [hx]
  dsimp only
  cases h : governing f v.store.index with
  | none => rfl
  | some e =>
    dsimp only
    rw [readBody_undisturbed _ _ (hread e h), record_eq_reported, Bool.or_false]

/-- A QUERY SCENE whose lookup finds a new faulty entry (R173). -/
theorem exec_queryScene_new_fault {e : Entry} (hat : atStore .query s = some m) (hok : s.store.ok)
    (hroom : sharedCount s.cue.txq ≤ 3) (hup : s.up = true) (he : e ∈ s.store.index) (hf : e.faulty = false)
    (hle : e.start ≤ u24 m.payload 1) :
    ∃ t q, exec (.queryScene ⟨[], [e.start]⟩) s = .next t ∧ s.storeStep t ∧ s.signalled t
      ∧ t.store = (s.withFaulty e).store ∧ t.events = (s.withFaulty e).events
      ∧ t.cue.txq = q ++ (match governing (u24 m.payload 1) (s.withFaulty e).store.index with
          | none => replyTo m .noScene (.query (m.payload.getD 0 0) .nothing)
          | some g => replyTo m .ok (.query (m.payload.getD 0 0) (.scene g.reported))) := by
  have hx := examineStore_new_fault (stop := fun n => decide (u24 m.payload 1 < n)) hok he hf
    (fun n _ hn => by simp only [decide_eq_false_iff_not]; omega)
  have hq := queryScene_answers _ rfl hx (fun g _ => .inr rfl)
  have hw := ListWork.withFaulty e s
  have hexec := exec_queryScene hat ⟨[], [e.start]⟩
  rw [hq] at hexec
  cases hg : governing (u24 m.payload 1) (s.withFaulty e).store.index with
  | none =>
    rw [hg] at hexec
    obtain ⟨hstep, hstore, hevents, htxq⟩ :=
      atEnd_spec (m := m) .noScene (.query (m.payload.getD 0 0) .nothing) true hw hroom
    exact ⟨_, _, hexec, hstep, atEnd_signalled _ _ hw hup (atStore_eq_some_iff.1 hat).1, hstore, hevents, htxq⟩
  | some g =>
    rw [hg] at hexec
    obtain ⟨hstep, hstore, hevents, htxq⟩ :=
      atEnd_spec (m := m) .ok (.query (m.payload.getD 0 0) (.scene g.reported)) true hw hroom
    exact ⟨_, _, hexec, hstep, atEnd_signalled _ _ hw hup (atStore_eq_some_iff.1 hat).1, hstore, hevents, htxq⟩

/-- Settles O49: a QUERY SCENE finds no record (`queryScene_none`), reads it clean or in error (`queryScene_reads`), or
passes over a new faulty entry (`exec_queryScene_new_fault`). -/
theorem querySceneReadsTheGoverningRecord : Obligations.QuerySceneReadsTheGoverningRecord := by
  refine ⟨?reads, ?errors, ?faulty⟩
  case reads =>
    intro s m chk hup hat hparity hroom
    have hpass := passes_of_nil hparity s.store.index
    constructor
    · intro hnone
      refine ⟨_, exec_queryScene hat chk, ?_⟩
      rw [queryScene_none hpass hnone]
      obtain ⟨hstep, hstore, hevents, htxq⟩ :=
        atEnd_spec (m := m) .noScene (.query (m.payload.getD 0 0) .nothing) false (.refl s) hroom
      exact ⟨hstep, hstore, hevents, htxq, atEnd_quiet _ _ (.refl s)⟩
    · intro e he hread
      refine ⟨_, exec_queryScene hat chk, ?_⟩
      rw [queryScene_reads hpass he (readBody_undisturbed .edit s hread), record_eq_reported]
      obtain ⟨hstep, hstore, hevents, htxq⟩ :=
        atEnd_spec (m := m) .ok (.query (m.payload.getD 0 0) (.scene e.reported)) false (.refl s) hroom
      exact ⟨hstep, hstore, hevents, atEnd_quiet _ _ (.refl s), htxq⟩
  case errors =>
    intro s m chk e syn hup hat hparity hroom he hd hcap
    have hpass := passes_of_nil hparity s.store.index
    have hheld := (atStore_eq_some_iff.1 hat).1
    constructor
    · intro hout
      obtain ⟨v, hr, hw, hstore, hevents, hflag⟩ := readBody_corrects .edit hup hd hcap hout
      refine ⟨_, exec_queryScene hat chk, ?_⟩
      rw [queryScene_reads hpass he hr]
      obtain ⟨hstep, hstore', hevents', -⟩ :=
        atEnd_spec (m := m) .ok (.query (m.payload.getD 0 0) (.scene (e.record ⟨false, e.body⟩))) true hw hroom
      rw [hstore', hevents']
      exact ⟨hstep, atEnd_signalled _ _ hw hup hheld, hstore, by rw [hevents], by rw [hevents], by rw [hevents], hflag⟩
    · intro hout
      obtain ⟨v, hr, hw, hstore, hevents, hflag⟩ := readBody_damages .edit hup hd hcap hout
      refine ⟨_, exec_queryScene hat chk, ?_⟩
      rw [queryScene_reads hpass he hr]
      obtain ⟨hstep, hstore', hevents', -⟩ :=
        atEnd_spec (m := m) .ok (.query (m.payload.getD 0 0) (.scene (e.record BodyView.lost))) true hw hroom
      have hrec : ∀ n, recordAtStart n v.store.index = if n = e.start then
          (recordAtStart n s.store.index).map (fun o => { o with damaged := true })
          else recordAtStart n s.store.index := fun n => by
        rw [hstore]
        exact recordAtStart_damage n e.start _
      rw [hstore', hevents']
      exact ⟨hstep, atEnd_signalled _ _ hw hup hheld, by rw [hstore], by rw [hrec, if_pos rfl],
        fun n hn => by rw [hrec, if_neg hn], by rw [hevents], by rw [hevents], by rw [hevents], hflag⟩
  case faulty =>
    intro s m e hup hat hok hroom he hf hle
    obtain ⟨t, q, hexec, hstep, hsignal, hstore, hevents, htxq⟩ :=
      exec_queryScene_new_fault hat hok hroom hup he hf hle
    rw [withFaulty_store] at hstore
    have hindex : t.store.index = markFaulty e s.store.index := by rw [hstore]
    refine ⟨t, q, hexec, hstep, hsignal, by rw [hstore], hindex, fun n => ?_, ?_, ?_, ?_, fun hgov => ?_⟩
    · rw [hindex]
      exact recordAtStart_markFaulty hok he hf n
    · rw [hevents]
      exact withFaulty_events e s
    · rw [hevents]
      exact withFaulty_isIn e hup
    · have hmarked : (s.withFaulty e).store.index = t.store.index := by rw [withFaulty_store, hindex]
      rw [hmarked] at htxq
      exact htxq
    · rw [hindex]
      exact governing_without hok.2.2.1 (soundEntries_without hok he hf) hgov

end Sys2Proof.Machine
end

section
/-! PROOF. The requester of a scene list transfer, and the partner check (R133, R134, R138 to R146). -/

namespace Sys2Proof.Machine

variable {s : State} {m : Message}

/-! ### The partner check (R133, R134) -/

theorem exec_partnerCheck {chk : Checks} (hat : atStore .sceneEntered s = some m) (hparity : chk.parity = []) :
    exec (.partnerCheck chk) s = .next (handlerIdle
      (if (governing (u24 m.payload 0) s.store.index).map Entry.start = optFrame (u24 m.payload 3) then release s
       else partnerMismatch m.source (release s))) := by
  simp only [exec, execPartnerCheck, hat]
  rw [examineStore_unfailing _ _ _ hparity]
  rfl

/-- A mismatch raises its flag, and starts the fetch that is configured (R134, R138). -/
theorem partnerMismatch_room (partner : Byte) (h : s.sharedTaken < 5) : partnerMismatch partner s =
    if s.config.autoFetchMismatch = true ∧ s.requester.fetching = false then
      { raise .partnerMismatch s with
        requester := ⟨true, .noResult, some partner, s.requester.tag + 1, 0, maxFrame, 0, 0, 0, 0, 0, 0, true⟩,
        cue := { (raise .partnerMismatch s).cue with
          txq := (raise .partnerMismatch s).cue.txq ++ [⟨partner, .listQuery (s.requester.tag + 1) 0 maxFrame⟩] } }
    else raise .partnerMismatch s := by
  have hroom : (raise .partnerMismatch s).sharedTaken < 5 := by
    rw [raise_sharedTaken]
    exact h
  unfold partnerMismatch
  have hcond : ((raise .partnerMismatch s).config.autoFetchMismatch && !(raise .partnerMismatch s).requester.fetching)
      = (s.config.autoFetchMismatch && !s.requester.fetching) := by rw [raise_config, raise_requester]
  have htag : (raise .partnerMismatch s).requester.tag = s.requester.tag := by rw [raise_requester]
  dsimp only
  rw [hcond, startFetch_room _ _ _ hroom, htag]
  by_cases h : s.config.autoFetchMismatch = true ∧ s.requester.fetching = false
  · rw [if_pos h, if_pos (by simp [h])]
  · rw [if_neg h, if_neg (by simpa using h)]

/-- A mismatch leaves alone what neither the release nor its flag touches. -/
theorem mismatch_keeps (s : State) :
    let t := raise .partnerMismatch (release s)
    t.store = s.store ∧ t.handler = s.handler ∧ t.resolver = { s.resolver with latch := t.resolver.latch }
      ∧ t.pcu = s.pcu ∧ t.pipeline = s.pipeline ∧ t.gate = s.gate ∧ t.cue = { s.cue with txq := t.cue.txq }
      ∧ t.events = { s.events with flags := t.events.flags } := by
  refine ⟨by simp, by simp, ?_, by simp, by simp, by simp, ?_, ?_⟩
  · rw [raise_resolver]
    exact releaseSignal_quiet s
  · rw [raise_cue, release_cue]
  · rw [raise_events, release_events]

/-- Settles O54: the check releases the store, and at a mismatch raises its flag and starts its fetch
(`partnerMismatch_room`). -/
theorem partnerCheckCompares : Obligations.PartnerCheckCompares := by
  intro s m chk hup hat hparity hroom
  have hexec := exec_partnerCheck hat hparity
  have hresolver := releaseSignal_quiet s
  have hcheck : optFrame (u24 m.payload 3) = if u24 m.payload 3 = 0xFFFFFF then none else some (u24 m.payload 3) := rfl
  rw [hcheck] at hexec
  by_cases hsame : (governing (u24 m.payload 0) s.store.index).map Entry.start
      = if u24 m.payload 3 = 0xFFFFFF then none else some (u24 m.payload 3)
  case pos =>
    rw [if_pos hsame] at hexec
    refine ⟨_, hexec, ?_⟩
    rw [if_pos hsame]
    refine ⟨release_store s, ?_, hresolver, release_pcu s, release_pipeline s, release_gate s, ?_, ?_, release_events s,
      release_requester s, ?_⟩
    · rw [handlerIdle, release_handler]
    · show (release s).cue = _
      rw [handlerIdle, release_cue]
    · show (release s).events = _
      rw [handlerIdle, release_events]
    · rw [handlerIdle, release_cue]
  case neg =>
    have htaken : (release s).sharedTaken < 5 := sharedTaken_lt _ (by rw [release_cue]; exact hroom)
    have hupr : (release s).up = true := (up_of_part (release_part s)).trans hup
    have hflag := raise_isIn (release s) .partnerMismatch hupr
    have hrequester : (raise .partnerMismatch (release s)).requester = s.requester := by simp
    obtain ⟨hstore, hhandler, hres, hpcu, hpipe, hgate, hcue, hevents⟩ := mismatch_keeps s
    rw [if_neg hsame, partnerMismatch_room m.source htaken, release_config, release_requester] at hexec
    generalize raise .partnerMismatch (release s) = v at *
    refine ⟨_, hexec, ?_⟩
    rw [if_neg hsame]
    by_cases hfetch : s.config.autoFetchMismatch = true ∧ s.requester.fetching = false
    · rw [if_pos hfetch, if_pos hfetch]
      refine ⟨hstore, by rw [handlerIdle, hhandler], hres, hpcu, hpipe, hgate, ?_, hevents, hflag, rfl, _, rfl⟩
      show ({ v.cue with txq := _ } : CueLine) = _
      rw [hcue]
      rfl
    · rw [if_neg hfetch, if_neg hfetch]
      exact ⟨hstore, by rw [handlerIdle, hhandler], hres, hpcu, hpipe, hgate, hcue, hevents, hflag, hrequester⟩

/-! ### FETCH_FROM (R138, R139) -/

theorem exec_fetchFrom (hand : inHand .fetchFrom s = some m) : exec .fetchFrom s = .next (endPlain m
    (fetchResultOf m.payload s) .plain (if fetchResultOf m.payload s = .ok then
      startFetch (m.payload.getD 0 0) (u24 m.payload 1) (u24 m.payload 4) s else s)) := by
  simp only [exec, execFetchFrom, hand]

/-- Settles O55: the checks of R138 in their order, and the start of R139 (`startFetch_room`). -/
theorem fetchIsStarted : Obligations.FetchIsStarted := by
  intro s m first last station hand hroom hstation hfirst hlast
  subst hstation hfirst hlast
  have hexec := exec_fetchFrom hand
  have hlt : s.sharedTaken < 5 := by omega
  by_cases hbad : 63 < (m.payload.getD 0 0).toNat ∨ m.payload.getD 0 0 = s.address.setWidth 8
      ∨ 1048575 < u24 m.payload 1 ∨ 1048575 < u24 m.payload 4 ∨ u24 m.payload 4 < u24 m.payload 1
  case pos =>
    have hresult : fetchResultOf m.payload s = .badField := if_pos hbad
    rw [hresult, if_neg (by simp), endPlain_refused_joins _ _ _ (by simp) hlt] at hexec
    refine ⟨_, hexec, rfl, rfl, ?_⟩
    rw [if_pos hbad]
    exact ⟨rfl, rfl⟩
  case neg =>
    cases hfetching : s.requester.fetching
    case true =>
      have hresult : fetchResultOf m.payload s = .busy := (if_neg hbad).trans (if_pos hfetching)
      rw [hresult, if_neg (by simp), endPlain_refused_joins _ _ _ (by simp) hlt] at hexec
      refine ⟨_, hexec, rfl, rfl, ?_⟩
      rw [if_neg hbad, if_pos rfl]
      exact ⟨rfl, rfl⟩
    case false =>
      have hresult : fetchResultOf m.payload s = .ok := (if_neg hbad).trans (if_neg (by simp [hfetching]))
      rw [hresult, if_pos rfl, startFetch_room _ _ _ hlt, endPlain_ok_joins _ _ _ ?_] at hexec
      · refine ⟨_, hexec, rfl, rfl, ?_⟩
        rw [if_neg hbad, if_neg (by simp)]
        exact ⟨rfl, rfl, rfl⟩
      · show sharedCount (s.cue.txq ++ [_]) + (if s.responder.placeHeld then 1 else 0) < 5
        rw [sharedCount_append, if_neg (by simp [TxContent.reserved])]
        unfold State.sharedTaken at hroom
        omega

/-! ### The end of a fetch (R144 to R146) -/

/-- A fetch ended: its result, and FETCH_END raised. -/
theorem endFetch_spec (hup : s.up = true) (r : FetchResult) : endFetch r s = { s with
      requester := { s.requester with fetching := false, gapTimer := false, result := r },
      events := { s.events with flags := (endFetch r s).events.flags },
      cue := { s.cue with txq := (endFetch r s).cue.txq } }
    ∧ EventFlag.fetchEnd.isIn (endFetch r s).events.flags = true :=
  ⟨raise_spec _ _, raise_isIn _ _ hup⟩

/-- A stray LIST_REC or LIST_END (R140). -/
theorem unexpected_spec (hup : s.up = true) : unexpected s = { s with
      handler := ⟨.idle, s.handler.ignored⟩,
      events := { s.events with flags := (unexpected s).events.flags },
      cue := { s.cue with txq := (unexpected s).cue.txq } }
    ∧ EventFlag.unexpectedReply.isIn (unexpected s).events.flags = true := by
  refine ⟨?_, raise_isIn _ _ hup⟩
  exact congrArg handlerIdle (raise_spec s .unexpectedReply)

theorem listEndResult_eq (p : List Byte) (received : Nat) : listEndResult p received =
    if u8 p 1 = 1 then .refused else if u16 p 2 % 65536 = received % 65536 then .done else .count := by
  have h := u16_le p 2
  unfold listEndResult
  split
  · rfl
  · rw [Nat.mod_eq_of_lt (a := u16 p 2) (by omega)]
    split
    · rfl
    · next heq => rw [if_pos (Classical.not_not.1 heq)]

theorem matchesFetch_iff : matchesFetch m s = true ↔
    s.requester.fetching = true ∧ s.requester.partner = some m.source ∧ s.requester.tag = m.payload.getD 0 0 := by
  simp [matchesFetch, and_assoc]

theorem not_matchesFetch
    (h : s.requester.fetching = false ∨ s.requester.partner ≠ some m.source ∨ s.requester.tag ≠ m.payload.getD 0 0) :
    matchesFetch m s = false := by
  rw [← Bool.not_eq_true, matchesFetch_iff]
  rintro ⟨hf, hp, ht⟩
  rcases h with h | h | h
  · rw [hf] at h; cases h
  · exact h hp
  · exact h ht

/-- Settles O56: a matching LIST_END ends the fetch (`endFetch_spec`) with the result of `listEndResult_eq`. -/
theorem listEndEndsTheFetch : Obligations.ListEndEndsTheFetch := by
  intro s m hup hand hfetching hpartner htag
  obtain ⟨hends, hflag⟩ := endFetch_spec hup (listEndResult m.payload s.requester.received)
  have hexec : exec .listEnd s = .next (handlerIdle (endFetch (listEndResult m.payload s.requester.received) s)) := by
    simp only [exec, execListEnd, hand]
    rw [if_pos (matchesFetch_iff.2 ⟨hfetching, hpartner, htag⟩)]
  refine ⟨_, hexec, ?_, ?_, hflag, ?_⟩
  · rw [hends]
    rfl
  · rw [hends]
    rfl
  · rw [hends, listEndResult_eq]
    rfl

/-! ### LIST_REC (R140, R141) -/

/-- In sequence: the index carried is the one expected. -/
theorem inSequence_iff : BitVec.ofNat 16 (u16 m.payload 1) = s.requester.expected
    ↔ u16 m.payload 1 = s.requester.expected.toNat := by
  have h := u16_le m.payload 1
  rw [← BitVec.toNat_inj, BitVec.toNat_ofNat, Nat.mod_eq_of_lt (by omega)]

/-- Settles O57: the timer and a LIST_REC out of sequence end the fetch (`endFetch_spec`), a stray message is discarded
(`unexpected_spec`), and one in sequence asks for the store. -/
theorem listRecIsMatchedAndSequenced : Obligations.ListRecIsMatchedAndSequenced := by
  refine ⟨⟨?timer, ?stray⟩, ?matched⟩
  case timer =>
    intro s hup hfetching htimer
    obtain ⟨hends, hflag⟩ := endFetch_spec hup .timeout
    refine ⟨endFetch .timeout s, ?_, hends, hflag⟩
    show execGapTimerExpiry s = _
    rw [execGapTimerExpiry, if_pos (by simp [hfetching, htimer])]
  case stray =>
    intro s m hup hstray
    obtain ⟨hstands, hflag⟩ := unexpected_spec hup
    have hno := not_matchesFetch hstray
    constructor
    · intro hand
      refine ⟨unexpected s, ?_, by rw [hstands], ?_, hflag⟩
      · simp only [exec, execListRec, hand]
        rw [if_neg (by simp [hno])]
      · exact hstands.trans (by rw [hstands])
    · intro hand
      refine ⟨unexpected s, ?_, by rw [hstands], ?_, hflag⟩
      · simp only [exec, execListEnd, hand]
        rw [if_neg (by simp [hno])]
      · exact hstands.trans (by rw [hstands])
  case matched =>
    intro s m hup hand hfetching hpartner htag
    have hmatch := matchesFetch_iff.2 ⟨hfetching, hpartner, htag⟩
    by_cases hseq : u16 m.payload 1 = s.requester.expected.toNat
    · have hexec : exec .listRec s = .next (request .handler { s with
          requester := { s.requester with
            gapTimer := true, received := min (s.requester.received + 1) 65535, expected := s.requester.expected + 1 },
          handler := ⟨.executing m (.merging s.requester.tag), s.handler.ignored⟩ }) := by
        simp only [exec, execListRec, hand]
        rw [if_pos hmatch, if_pos (inSequence_iff.2 hseq), ← satInc_eq_min]
      refine ⟨_, hexec, request_store _ _, request_handler_resolver _, ?_⟩
      rw [if_pos hseq]
      refine ⟨request_requester _ _, request_handler _ _, request_events _ _, request_cue _ _, ?_⟩
      unfold request
      split
      · exact .inr rfl
      · exact .inl rfl
    · obtain ⟨hends, hflag⟩ := endFetch_spec (s := { s with requester.gapTimer := true }) hup .sequence
      have hexec : exec .listRec s = .next (handlerIdle (endFetch .sequence { s with requester.gapTimer := true })) := by
        simp only [exec, execListRec, hand]
        rw [if_pos hmatch, if_neg (fun h => hseq (inSequence_iff.1 h))]
      refine ⟨_, hexec, ?_, ?_, ?_⟩
      · rw [hends]
        rfl
      · rw [hends]
        rfl
      · rw [if_neg hseq]
        refine ⟨by rw [hends]; rfl, by rw [hends]; rfl, hflag⟩

end Sys2Proof.Machine
end

section
/-! PROOF. The merge of a record (R142, R143, R168 to R173). -/

namespace Sys2Proof.Machine

variable {s u : State} {chk : Checks} {r : Record} {m : Message}

/-! ### The count of a merge (R142) -/

/-- The fetch status record with an outcome counted. -/
def Requester.counted (q : Requester) : MergeOutcome → Requester
  | .inserted => { q with inserted := min (q.inserted + 1) 65535 }
  | .replaced => { q with replaced := min (q.replaced + 1) 65535 }
  | .keptLocal => { q with keptLocal := min (q.keptLocal + 1) 65535 }
  | .refused => { q with refused := min (q.refused + 1) 65535 }

theorem countMerge_counts (o : MergeOutcome) (s : State) :
    countMerge s.requester.tag o s = { s with requester := s.requester.counted o } := by
  unfold countMerge Requester.counted
  rw [if_pos rfl]
  cases o <;> simp only [satInc_eq_min]

/-! ### The table of R142 -/

/-- What refuses a merge. -/
abbrev mergeRefuses (r : Record) (st : Store) : Prop :=
  st.frozen = true ∨ r.fault = true ∨ r.damaged = true
    ∨ (recordAtStart r.start st.index = none ∧ (1024 ≤ st.index.length ∨ st.freeKnots < r.body.knotCount))
    ∨ (∃ e, recordAtStart r.start st.index = some e ∧ e.revision < r.revision
        ∧ st.freeKnots + e.knotCount < r.body.knotCount)

theorem mergeOutcome_refused {st : Store} (h : mergeRefuses r st) : mergeOutcome r st = .refused := by
  unfold mergeOutcome
  split
  · rfl
  · next hfrozen =>
    split
    · rfl
    · next hfault =>
      split
      · rfl
      · next hdamaged =>
        rcases h with h | h | h | ⟨hnone, hfull⟩ | ⟨e, he, hrev, hknots⟩
        · exact absurd h hfrozen
        · exact absurd h hfault
        · exact absurd h hdamaged
        · rw [hnone]
          dsimp only
          split
          · rfl
          · next hroom => rw [if_pos (hfull.resolve_left hroom)]
        · rw [he]
          dsimp only
          rw [if_pos hrev, if_pos hknots]

theorem mergeOutcome_of_none {st : Store} (h : ¬ mergeRefuses r st) (hnone : recordAtStart r.start st.index = none) :
    mergeOutcome r st = .inserted := by
  simp only [mergeRefuses, hnone, not_or, not_and] at h
  obtain ⟨hfrozen, hfault, hdamaged, hroom, -⟩ := h
  obtain ⟨hfull, hknots⟩ := hroom trivial
  unfold mergeOutcome
  rw [if_neg hfrozen, if_neg hfault, if_neg hdamaged, hnone]
  dsimp only
  rw [if_neg hfull, if_neg hknots]

theorem mergeOutcome_of_some {st : Store} {e : Entry} (h : ¬ mergeRefuses r st)
    (he : recordAtStart r.start st.index = some e) :
    mergeOutcome r st = if e.revision < r.revision then .replaced else .keptLocal := by
  simp only [mergeRefuses, he, not_or, not_exists, not_and] at h
  obtain ⟨hfrozen, hfault, hdamaged, -, hknots⟩ := h
  unfold mergeOutcome
  rw [if_neg hfrozen, if_neg hfault, if_neg hdamaged, he]
  dsimp only
  split
  · next hrev => rw [if_neg (hknots e rfl hrev)]
  · rfl

/-! ### The merge at the store -/

theorem mergeRecord_refuses {stop : Nat → Bool} (hstop : stop = fun n => decide (r.start ≤ n)) {b : Bool}
    (hx : examineStore stop chk s = (u, b)) (ho : mergeOutcome r u.store = .refused) :
    mergeRecord chk r s = (u, .refused, b) := by
  subst hstop
  unfold mergeRecord
  dsimp only
  rw [hx]
  dsimp only
  rw [ho]

theorem mergeRecord_keeps (hpass : Passes chk s.store.index) (ho : mergeOutcome r s.store = .keptLocal) :
    mergeRecord chk r s = (s, .keptLocal, false) := by
  unfold mergeRecord
  dsimp only
  rw [examineStore_passes _ hpass]
  dsimp only
  rw [ho]

theorem mergeRecord_inserts (hpass : Passes chk s.store.index) (ho : mergeOutcome r s.store = .inserted) :
    mergeRecord chk r s = (insertRecord r r.revision s, .inserted, true) := by
  unfold mergeRecord
  dsimp only
  rw [examineStore_passes _ hpass]
  dsimp only
  rw [ho]

theorem mergeRecord_replaces {e : Entry} (hpass : Passes chk s.store.index) (ho : mergeOutcome r s.store = .replaced)
    (he : recordAtStart r.start s.store.index = some e) : mergeRecord chk r s =
      (rewriteRecord r.start r.revision e.knotCount r.body (readBody .merge chk e s).state, .replaced, true) := by
  unfold mergeRecord
  dsimp only
  rw [examineStore_passes _ hpass]
  dsimp only
  rw [ho, he]

/-- The end of a merge that worked on the list as `u` and came to `o`: the store released, the outcome counted. -/
theorem exec_merge {o : MergeOutcome} {b : Bool} (hheld : s.arbiter.holder = some .handler)
    (hmerge : s.handler.state = .executing m (.merging s.requester.tag)) (hw : ListWork s u)
    (hrecord : mergeRecord chk (recordAt m.payload 3) s = (u, o, b)) :
    ∃ t, exec (.merge chk) s = .next t ∧ t.handler = ⟨.idle, s.handler.ignored⟩ ∧ t.cue = u.cue ∧ t.events = u.events
      ∧ t.store = u.store ∧ t.requester = s.requester.counted o
      ∧ (s.up = true → b = true → s.signalled t) := by
  have hreq : u.requester = s.requester := by rw [hw.frame]
  have hexec : exec (.merge chk) s
      = .next (handlerIdle (releaseSignal b { u with requester := s.requester.counted o })) := by
    simp only [exec, execMerge, hheld, hmerge]
    rw [hrecord, ← hreq]
    exact congrArg (fun v => Host.Outcome.next (handlerIdle (releaseSignal b v))) (countMerge_counts o u)
  refine ⟨_, hexec, ?_, releaseSignal_cue _ b, releaseSignal_events _ b, releaseSignal_store _ b,
    releaseSignal_requester _ b, fun hup hb => ?_⟩
  · rw [handlerIdle, releaseSignal_handler, hw.handler]
  · subst hb
    exact signalled_releaseSignal s { u with requester := s.requester.counted o } hup hw.part hw.arbiter hw.resolver
      (congrArg Pcu.gateFrame hw.pcu) hheld

/-- Settles O58: the table of R142 (`mergeOutcome_refused`, `mergeOutcome_of_none`, `mergeOutcome_of_some`) says what
a merge does to the list, and `exec_merge` how it ends. -/
theorem mergeDecidesByRevision : Obligations.MergeDecidesByRevision := by
  refine ⟨?table, ?errors, ?faulty⟩
  case table =>
    intro s m chk r hup hheld hmerge hr hchk
    subst hr hchk
    have hpass := passes_of_nil (chk := Checks.clean) rfl s.store.index
    by_cases hrefuse : mergeRefuses (recordAt m.payload 3) s.store
    case pos =>
      obtain ⟨t, hexec, hhandler, hcue, hevents, hstore, hreq, -⟩ := exec_merge hheld hmerge (.refl s)
        (mergeRecord_refuses rfl (examineStore_passes _ hpass) (mergeOutcome_refused hrefuse))
      refine ⟨t, hexec, hhandler, hcue, hevents, ?_⟩
      rw [if_pos hrefuse]
      exact ⟨hstore, hreq⟩
    case neg =>
      rcases Option.eq_none_or_eq_some (recordAtStart (recordAt m.payload 3).start s.store.index) with he | ⟨e, he⟩
      · obtain ⟨t, hexec, hhandler, hcue, hevents, hstore, hreq, hsignal⟩ := exec_merge hheld hmerge
          (ListWork.insertRecord _ _ s) (mergeRecord_inserts hpass (mergeOutcome_of_none hrefuse he))
        refine ⟨t, hexec, hhandler, hcue, hevents, ?_⟩
        rw [if_neg hrefuse, he]
        refine ⟨hreq, hsignal hup rfl, ?_, fun n => ?_⟩
        · rw [hstore]
          rfl
        · rw [hstore]
          exact recordAtStart_insertRecord _ _ s he n
      · have ho := mergeOutcome_of_some hrefuse he
        by_cases hrev : e.revision < (recordAt m.payload 3).revision
        · rw [if_pos hrev] at ho
          have hrecord := mergeRecord_replaces hpass ho he
          rw [readBody_undisturbed .merge s (.inr rfl)] at hrecord
          obtain ⟨t, hexec, hhandler, hcue, hevents, hstore, hreq, hsignal⟩ := exec_merge hheld hmerge
            (ListWork.rewriteRecord _ _ _ _ s) hrecord
          refine ⟨t, hexec, hhandler, hcue, hevents, ?_⟩
          rw [if_neg hrefuse, he]
          dsimp only
          rw [if_pos hrev]
          refine ⟨hreq, hsignal hup rfl, ?_, fun n => ?_⟩
          · rw [hstore]
            rfl
          · rw [hstore]
            exact recordAtStart_rewriteRecord _ _ _ s he n
        · rw [if_neg hrev] at ho
          obtain ⟨t, hexec, hhandler, hcue, hevents, hstore, hreq, -⟩ := exec_merge hheld hmerge (.refl s)
            (mergeRecord_keeps hpass ho)
          refine ⟨t, hexec, hhandler, hcue, hevents, ?_⟩
          rw [if_neg hrefuse, he]
          dsimp only
          rw [if_neg hrev]
          exact ⟨hstore, hreq⟩
  case errors =>
    intro s m chk r e syn hup hheld hmerge hr hparity hfrozen hfault hdamaged he hrev hknots hd hcap hout
    subst hr
    have hpass := passes_of_nil hparity s.store.index
    obtain ⟨hes, -, -⟩ := recordAtStart_some he
    have hrefuse : ¬ mergeRefuses (recordAt m.payload 3) s.store := by
      rintro (h | h | h | ⟨h, -⟩ | ⟨o, ho, -, h⟩)
      · rw [hfrozen] at h; cases h
      · rw [hfault] at h; cases h
      · rw [hdamaged] at h; cases h
      · rw [he] at h; cases h
      · rw [he] at ho; cases ho; omega
    have ho := mergeOutcome_of_some hrefuse he
    rw [if_pos hrev] at ho
    obtain ⟨t, hexec, hhandler, -, hevents, hstore, hreq, hsignal⟩ := exec_merge hheld hmerge
      ((ListWork.readBody .merge chk e s).trans (.rewriteRecord _ _ _ _ _)) (mergeRecord_replaces hpass ho he)
    have hevents : t.events = (readBody .merge chk e s).state.events := hevents
    refine ⟨t, hexec, hhandler, hsignal hup rfl, hreq, ?_, fun n => ?_, fun hc => ?_, fun hu => ?_⟩
    · rw [hstore, rewriteRecord, readBody_store]
    · obtain ⟨e', he', -⟩ := recordAtStart_readBody .merge chk e s _ he
      rw [hstore, recordAtStart_rewriteRecord _ _ _ _ he']
      split
      · rfl
      · next hn => exact recordAtStart_readBody_other .merge chk e s (by rw [hes]; exact hn)
    · obtain ⟨v, hr, -, -, hev, hflag⟩ := readBody_corrects .merge hup hd hcap hc
      rw [hevents, hr]
      exact ⟨hev, hflag⟩
    · obtain ⟨v, hr, -, -, hev, hflag⟩ := readBody_damages .merge hup hd hcap hu
      rw [hevents, hr]
      exact ⟨hev, hflag⟩
  case faulty =>
    intro s m r e hup hheld hmerge hr hok he hf hle
    subst hr
    have hx := examineStore_new_fault (stop := fun n => decide ((recordAt m.payload 3).start ≤ n)) hok he hf
      (fun n _ hn => by simp only [decide_eq_false_iff_not]; omega)
    have ho : mergeOutcome (recordAt m.payload 3) (s.withFaulty e).store = .refused :=
      mergeOutcome_refused (.inl (by rw [withFaulty_store]))
    obtain ⟨t, hexec, hhandler, -, hevents, hstore, hreq, hsignal⟩ := exec_merge hheld hmerge
      (ListWork.withFaulty e s) (mergeRecord_refuses rfl hx ho)
    rw [withFaulty_store] at hstore
    refine ⟨t, hexec, hhandler, hsignal hup rfl, hreq, by rw [hstore], by rw [hstore], ?_, ?_⟩
    · rw [hevents]
      exact withFaulty_events e s
    · rw [hevents]
      exact withFaulty_isIn e hup

end Sys2Proof.Machine
end

section
/-! PROOF. The responder of a scene list transfer (R148 to R150, R168 to R173). -/

namespace Sys2Proof.Machine

variable {s t u v : State} {chk : Checks} {c : Stream} {e : Entry} {m : Message}

/-! ### A signal of a client other than the handler -/

/-- The release of a step that changed the list signals the resolver, whichever client held the store (R55). -/
theorem signalled_releaseSignal_held {d : Client} (hup : s.up = true) (hp : u.part = s.part)
    (ha : u.arbiter = s.arbiter) (hr : u.resolver = s.resolver) (hg : u.pcu.gateFrame = s.pcu.gateFrame)
    (hheld : s.arbiter.holder = some d) : s.signalled (releaseSignal true u) := by
  have hupu : u.up = true := (up_of_part hp).trans hup
  have hheldu : u.arbiter.holder = some d := by rw [ha, hheld]
  show s.signalled (release (trigger u))
  cases hf : s.resolver.inFlight
  · rw [trigger_starts _ hupu (by rw [hr, hf]), request_held _ .resolver d (by exact hheldu),
      release_to_resolver _ (by simp [Arbiter.wait])]
    exact ⟨by simp [← hr], by simp [hf], fun _ => ⟨by simp [← hr], by simp, by simp [hr, hg]⟩⟩
  · rw [trigger_rerun _ hupu (by rw [hr, hf])]
    refine ⟨?_, by simp, by simp [hf]⟩
    ext <;> simp [hr, hf]

/-- What the responder asks for next leaves a signal as it is. -/
theorem signalled_pokeResponder (h : s.signalled t) : s.signalled (pokeResponder t) := by
  obtain ⟨hres, hrerun, hstarts⟩ := h
  have hkeeps : t.arbiter.holder = some .resolver → (pokeResponder t).arbiter.holder = some .resolver := by
    intro hheld
    unfold pokeResponder
    split
    · rw [request_held _ _ .resolver hheld]
      exact hheld
    · exact hheld
  unfold State.signalled
  rw [pokeResponder_resolver]
  exact ⟨hres, hrerun, fun hf => ⟨(hstarts hf).1, hkeeps (hstarts hf).2.1, (hstarts hf).2.2⟩⟩

/-! ### LIST_QUERY (R148) -/

/-- What the responder asks for touches the arbiter and the place held alone. -/
theorem pokeResponder_spec (s : State) : pokeResponder s = { s with
    arbiter := (pokeResponder s).arbiter,
    responder := { s.responder with placeHeld := (pokeResponder s).responder.placeHeld } } := by
  unfold pokeResponder request
  split
  · split
    · rfl
    · rfl
  · rfl

/-- Streaming with room offered, it is granted a free store, with its place held (R149). -/
theorem pokeResponder_granted (hs : s.responder.streaming = true) (hfree : s.arbiter.holder = none)
    (hnone : s.arbiter.noneWaits = true) (hroom : offersRoom s.cue.txq = true) :
    (pokeResponder s).arbiter.holder = some .responder ∧ (pokeResponder s).responder.placeHeld = true := by
  have hwaits : s.arbiter.responderWaits = false := by
    simp only [Arbiter.noneWaits, Bool.and_eq_true, Bool.not_eq_true'] at hnone
    exact hnone.2
  unfold pokeResponder
  rw [if_pos (by simp [hs, hfree, hwaits, hroom]), request_free _ _ hfree hnone]
  exact ⟨rfl, hroom⟩

/-! ### A step of a stream (R149, R150) -/

/-- A stream walks the list as an edit's walk does. -/
theorem streamNext_eq_walkNext (c : Stream) (idx : List Entry) :
    streamNext c idx = walkNext c.first ⟨c.cursor, 0⟩ idx := rfl

theorem streamStop_eq_walkStop (c : Stream) : streamStop c = walkStop c.first ⟨c.cursor, 0⟩ := rfl

/-- The next record of the range goes out, as its body read gives it. -/
theorem streamStep_sends {b : Bool} {r : BodyRead} (hx : examineStore (streamStop c) chk s = (v, b))
    (hn : streamNext c v.store.index = some e) (hle : e.start ≤ c.last) (hr : readBody .send chk e v = r)
    (hroom : r.state.sharedTaken < 5) :
    streamStep chk c s = ({ r.state with cue := { r.state.cue with
        txq := r.state.cue.txq ++ [⟨c.station, .listRec c.tag c.sent (e.record r.view)⟩] } },
      b || r.changed, some e.start) := by
  unfold streamStep
  rw [hx]
  dsimp only
  rw [hn]
  dsimp only
  rw [if_pos hle, hr, handShared_room _ _ hroom]

/-- With no further record the stream comes to its LIST_END. -/
theorem streamStep_ends {b : Bool} (hx : examineStore (streamStop c) chk s = (v, b))
    (hn : ∀ e, streamNext c v.store.index = some e → c.last < e.start) (hroom : v.sharedTaken < 5) :
    streamStep chk c s = ({ v with cue := { v.cue with
        txq := v.cue.txq ++ [⟨c.station, .listEnd c.tag false c.sent⟩] } }, b, none) := by
  unfold streamStep
  rw [hx]
  dsimp only
  cases h : streamNext c v.store.index with
  | none =>
    dsimp only
    rw [handShared_room _ _ hroom]
  | some e =>
    dsimp only
    rw [if_neg (Nat.not_le.2 (hn e h)), handShared_room _ _ hroom]

/-- The place held is given up as the step begins: one is free for what it hands over. -/
theorem dropPlace_room (hw : ListWork (dropPlace s) v) (h : sharedCount s.cue.txq ≤ 4) : v.sharedTaken < 5 := by
  have hcount : sharedCount v.cue.txq = sharedCount s.cue.txq := hw.sharedCount
  have hplace : v.responder.placeHeld = false := by rw [hw.responder]; rfl
  unfold State.sharedTaken
  rw [hcount, hplace]
  simp only [Bool.false_eq_true, if_false]
  omega

/-- A responder's step that worked on the list as `v` and handed one message over. -/
theorem exec_responderStep {b : Bool} {sent : Option Nat} {x : TxMsg} (hheld : s.arbiter.holder = some .responder)
    (hstream : s.responder.streaming = true) (hunfinished : s.responder.unfinished = none)
    (hplace : s.responder.placeHeld = true) (hw : ListWork (dropPlace s) v)
    (hstep : streamStep chk s.responder.stream (dropPlace s)
      = ({ v with cue := { v.cue with txq := v.cue.txq ++ [x] } }, b, sent)) :
    ∃ t, exec (.responderStep chk) s = .next t ∧ t.store = v.store ∧ t.events = v.events ∧ t.handler = s.handler
      ∧ t.responder.streaming = sent.isSome
      ∧ (∀ n, sent = some n → t.responder.stream = { s.responder.stream with
          cursor := some n, sent := s.responder.stream.sent + 1 })
      ∧ t.cue = { v.cue with txq := v.cue.txq ++ [x] }
      ∧ (s.up = true → b = true → s.signalled t) := by
  have hresponder : v.responder = (dropPlace s).responder := hw.responder
  have hexec : exec (.responderStep chk) s = .next (pokeResponder (releaseSignal b (advanceStream sent
      { v with cue := { v.cue with txq := v.cue.txq ++ [x] } }))) := by
    show execResponderStep chk s = _
    rw [execResponderStep, if_pos hheld, responderStep, if_pos hplace, hunfinished]
    dsimp only
    rw [if_pos hstream]
    show Host.Outcome.next (pokeResponder (releaseSignal (streamStep chk s.responder.stream (dropPlace s)).2.1
      (advanceStream (streamStep chk s.responder.stream (dropPlace s)).2.2
        (streamStep chk s.responder.stream (dropPlace s)).1))) = _
    rw [hstep]
  have hadvance := advanceStream_frame sent { v with cue := { v.cue with txq := v.cue.txq ++ [x] } }
  refine ⟨_, hexec, ?_, ?_, ?_, ?_, fun n hn => ?_, ?_, fun hup hb => ?_⟩
  · rw [pokeResponder_store, releaseSignal_store, hadvance]
  · rw [pokeResponder_events, releaseSignal_events, hadvance]
  · rw [pokeResponder_handler, releaseSignal_handler, hadvance]
    exact hw.handler
  · rw [pokeResponder_responder_streaming, releaseSignal_responder_streaming]
    cases sent with
    | none => rfl
    | some n => exact (congrArg Responder.streaming hresponder).trans hstream
  · subst hn
    rw [pokeResponder_responder_stream, releaseSignal_responder_stream]
    show ({ v.responder.stream with cursor := some n, sent := v.responder.stream.sent + 1 } : Stream) = _
    rw [hresponder]
    rfl
  · rw [pokeResponder_cue, releaseSignal_cue, hadvance]
  · subst hb
    refine signalled_pokeResponder (signalled_releaseSignal_held hup ?_ ?_ ?_ ?_ hheld)
    · rw [hadvance]; exact hw.part
    · rw [hadvance]; exact hw.arbiter
    · rw [hadvance]; exact hw.resolver
    · rw [hadvance]; exact congrArg Pcu.gateFrame hw.pcu

end Sys2Proof.Machine
end

section
/-! PROOF. The responder, assembled (R148 to R150). -/

namespace Sys2Proof.Machine

variable {s : State} {m : Message}

theorem exec_listQuery_ignored (hand : inHand .listQuery s = some m) (h : 63 < m.source.toNat) :
    exec .listQuery s = .next { s with handler := ⟨.idle, min (s.handler.ignored + 1) 65535⟩ } := by
  simp only [exec, execListQuery, hand]
  rw [if_pos h, ← satInc_eq_min]
  rfl

theorem exec_listQuery_busy (hand : inHand .listQuery s = some m) (h : m.source.toNat ≤ 63)
    (hs : s.responder.streaming = true) (hroom : s.sharedTaken < 5) : exec .listQuery s = .next { s with
      handler := ⟨.idle, s.handler.ignored⟩,
      cue := { s.cue with txq := s.cue.txq ++ [⟨m.source, .listEnd (m.payload.getD 0 0) true 0⟩] } } := by
  simp only [exec, execListQuery, hand]
  rw [if_neg (Nat.not_lt.2 h), if_pos hs, handShared_room _ _ hroom]
  rfl

/-- The stream a LIST_QUERY starts (R148). -/
def State.streamingTo (m : Message) (s : State) : State :=
  { s with responder := { s.responder with
      streaming := true,
      stream := ⟨m.source, m.payload.getD 0 0, u24 m.payload 1, u24 m.payload 4, none, 0⟩ } }

theorem exec_listQuery_starts (hand : inHand .listQuery s = some m) (h : m.source.toNat ≤ 63)
    (hs : s.responder.streaming = false) :
    exec .listQuery s = .next (handlerIdle (pokeResponder (s.streamingTo m))) := by
  simp only [exec, execListQuery, hand]
  rw [if_neg (Nat.not_lt.2 h), if_neg (by simp [hs])]
  rfl

/-- Settles O59: a LIST_QUERY starts its stream or is answered (`exec_listQuery_starts`, `exec_listQuery_busy`); a step
reads its record, or comes to its end (`streamStep_sends`, `streamStep_ends`), and hands one message over
(`exec_responderStep`). -/
theorem responderServesAStream : Obligations.ResponderServesAStream := by
  refine ⟨?query, ?clean, ?errors, ?faulty⟩
  case query =>
    intro s m hand
    refine ⟨exec_listQuery_ignored hand, exec_listQuery_busy hand, fun hsource hs => ?_⟩
    have hpoke := pokeResponder_spec (s.streamingTo m)
    refine ⟨_, exec_listQuery_starts hand hsource hs, ?_, ?_, fun hfree hnone hroom => ?_⟩
    · rw [hpoke]
      rfl
    · rw [hpoke]
      rfl
    · exact pokeResponder_granted (s := s.streamingTo m) rfl hfree hnone hroom
  case clean =>
    intro s chk c hup hheld hs hunfinished hplace hc hroom hparity
    subst hc
    have hx := examineStore_unfailing (streamStop s.responder.stream) chk (dropPlace s) hparity
    have hw := ListWork.refl (dropPlace s)
    have hlt := dropPlace_room hw hroom
    constructor
    · intro e hn hle hread
      have hr := readBody_undisturbed .send (dropPlace s) hread
      have hstep := streamStep_sends hx hn hle hr hlt
      rw [record_eq_reported] at hstep
      obtain ⟨t, hexec, hstore, hevents, hhandler, hstreaming, hstream, hcue, -⟩ :=
        exec_responderStep hheld hs hunfinished hplace hw hstep
      exact ⟨t, hexec, hstore, hevents, hhandler, hstreaming, hstream _ rfl, hcue⟩
    · intro hn
      obtain ⟨t, hexec, hstore, hevents, hhandler, hstreaming, -, hcue, -⟩ :=
        exec_responderStep hheld hs hunfinished hplace hw (streamStep_ends hx hn hlt)
      exact ⟨t, hexec, hstore, hevents, hhandler, hstreaming, hcue⟩
  case errors =>
    intro s chk c e syn hup hheld hs hunfinished hplace hc hroom hparity hn hle hd hcap
    subst hc
    have hx := examineStore_unfailing (streamStop s.responder.stream) chk (dropPlace s) hparity
    constructor
    · intro hout
      obtain ⟨v, hr, hw, hstore, hevents, hflag⟩ := readBody_corrects (s := dropPlace s) .send hup hd hcap hout
      have hstep := streamStep_sends hx hn hle hr (dropPlace_room hw hroom)
      rw [show e.record ⟨false, e.body⟩ = ⟨e.start, e.body.sceneId, e.revision, e.body.transitionLen, e.body.omitted,
        false, e.body.grade⟩ from rfl] at hstep
      obtain ⟨t, hexec, hstore', hevents', hhandler, hstreaming, hstream, hcue, hsignal⟩ :=
        exec_responderStep hheld hs hunfinished hplace hw hstep
      refine ⟨t, v.cue.txq, hexec, hsignal hup rfl, hstore'.trans hstore, hhandler, hstreaming, hstream _ rfl,
        by rw [hcue], ?_, ?_⟩
      · rw [hevents']
        exact hevents
      · rw [hevents']
        exact hflag
    · intro hout
      obtain ⟨v, hr, hw, hstore, hevents, hflag⟩ := readBody_damages (s := dropPlace s) .send hup hd hcap hout
      have hstep := streamStep_sends hx hn hle hr (dropPlace_room hw hroom)
      rw [show e.record BodyView.lost = ⟨e.start, 0, 0, 0, false, true, none⟩ from rfl] at hstep
      obtain ⟨t, hexec, hstore', hevents', hhandler, hstreaming, hstream, hcue, hsignal⟩ :=
        exec_responderStep hheld hs hunfinished hplace hw hstep
      refine ⟨t, v.cue.txq, hexec, hsignal hup rfl, hhandler, ?_, fun n => ?_, hstreaming, hstream _ rfl,
        by rw [hcue], ?_, ?_⟩
      · rw [hstore', hstore]
        rfl
      · rw [hstore', hstore]
        refine (recordAtStart_damage n e.start s.store.index).trans ?_
        split
        · next hne =>
          rw [hne, recordAtStart_walkNext (first := s.responder.stream.first) (w := ⟨s.responder.stream.cursor, 0⟩) hn]
          rfl
        · rfl
      · rw [hevents']
        exact hevents
      · rw [hevents']
        exact hflag
  case faulty =>
    intro s c e hup hheld hs hunfinished hplace hc hroom hok hn
    subst hc
    have hok' : (dropPlace s).store.ok := hok
    obtain ⟨hmem, hf⟩ := walkNext_some (first := s.responder.stream.first) (w := ⟨s.responder.stream.cursor, 0⟩) hn
    have hx := examineStore_new_fault (s := dropPlace s) (stop := streamStop s.responder.stream) hok' hmem hf
      (walkNext_reached (w := ⟨s.responder.stream.cursor, 0⟩) hok hn)
    have hw := ListWork.withFaulty e (dropPlace s)
    have hlt := dropPlace_room hw hroom
    have hstore : ((dropPlace s).withFaulty e).store = { s.store with index := markFaulty e s.store.index, frozen := true } :=
      withFaulty_store e (dropPlace s)
    have hevents : ((dropPlace s).withFaulty e).events = { s.events with
        flags := ((dropPlace s).withFaulty e).events.flags } := withFaulty_events e (dropPlace s)
    have hflag := withFaulty_isIn (s := dropPlace s) e hup
    by_cases hnext : ∃ x, streamNext s.responder.stream ((dropPlace s).withFaulty e).store.index = some x
        ∧ x.start ≤ s.responder.stream.last
    · obtain ⟨x, hxn, hxle⟩ := hnext
      have hr := readBody_undisturbed (chk := ⟨[], [e.start]⟩) (e := x) .send ((dropPlace s).withFaulty e) (.inr rfl)
      have hstep := streamStep_sends hx hxn hxle hr hlt
      rw [record_eq_reported] at hstep
      obtain ⟨t, hexec, hstore', hevents', hhandler, -, hstream, hcue, hsignal⟩ :=
        exec_responderStep hheld hs hunfinished hplace hw hstep
      have hindex : t.store.index = ((dropPlace s).withFaulty e).store.index := by rw [hstore']
      refine ⟨t, ((dropPlace s).withFaulty e).cue.txq, hexec, hsignal hup rfl, hhandler, ?_, ?_, ?_, ?_,
        fun y hy _ => ?_, fun hnone => ?_⟩
      · rw [hstore', hstore]
      · rw [hstore', hstore]
      · rw [hevents']
        exact hevents
      · rw [hevents']
        exact hflag
      · rw [hindex, hxn] at hy
        cases hy
        exact ⟨hstream _ rfl, by rw [hcue]⟩
      · exact absurd (hnone x (by rw [hindex]; exact hxn)) (Nat.not_lt.2 hxle)
    · have hends : ∀ x, streamNext s.responder.stream ((dropPlace s).withFaulty e).store.index = some x →
          s.responder.stream.last < x.start := fun x hx => Nat.lt_of_not_le fun hle => hnext ⟨x, hx, hle⟩
      obtain ⟨t, hexec, hstore', hevents', hhandler, hstreaming, -, hcue, hsignal⟩ :=
        exec_responderStep hheld hs hunfinished hplace hw (streamStep_ends hx hends hlt)
      have hindex : t.store.index = ((dropPlace s).withFaulty e).store.index := by rw [hstore']
      refine ⟨t, ((dropPlace s).withFaulty e).cue.txq, hexec, hsignal hup rfl, hhandler, ?_, ?_, ?_, ?_,
        fun y hy hyle => ?_, fun _ => ⟨hstreaming, by rw [hcue]⟩⟩
      · rw [hstore', hstore]
      · rw [hstore', hstore]
      · rw [hevents']
        exact hevents
      · rw [hevents']
        exact hflag
      · exact absurd ⟨y, by rw [← hindex]; exact hy, hyle⟩ hnext

end Sys2Proof.Machine
end

section
/-! PROOF. The run of a resolution (R47 to R58, R168 to R173). -/

namespace Sys2Proof.Machine

variable {s u : State} {chk : Checks} {l : Latch} {g : Entry} {back : List Entry}

/-! ### The reading -/

/-- What a resolution reads of its governing record, taken as `v`, and the records behind it (R47 to R54). -/
def readingOf (l : Latch) (base : Grade) (g : Entry) (back : List Entry) (v : BodyView) (next : Option Entry) : Reading :=
  let scene : SceneDesc := ⟨some g.start, v.body.sceneId, if v.damaged then 0 else g.revision, v.body.omitted, v.damaged,
    g.start, spanEnd next⟩
  match v.body.grade with
  | none => ⟨l.frame, l.mode, 256, effectiveGrade base back, none, true, scene⟩
  | some grade =>
    if 1 ≤ v.body.transitionLen ∧ l.frame - g.start < v.body.transitionLen then
      ⟨l.frame, l.mode, mixWeight v.body.transitionLen (l.frame - g.start), grade, some (effectiveGrade base back), false,
        scene⟩
    else ⟨l.frame, l.mode, 256, grade, none, false, scene⟩

/-- The reading of a frame that no record governs (R47, R54). -/
def readingOfNone (l : Latch) (base : Grade) (next : Option Entry) : Reading :=
  ⟨l.frame, l.mode, 256, base, none, true, ⟨none, 0, 0, false, false, 0, spanEnd next⟩⟩

/-- The walk back over records read clean finds the effective grade (R47, R48). -/
theorem walkBack_clean (es : List Entry) (s : State) (h : ∀ x ∈ es, bodyOutcome chk x.start = .clean) :
    walkBack chk es s = (s, effectiveGrade s.config.baseGrade es) := by
  induction es with
  | nil => rfl
  | cons e es ih =>
    have ih := ih fun x hx => h x (List.mem_cons_of_mem _ hx)
    unfold walkBack effectiveGrade
    rw [readBody_undisturbed _ _ (.inr (h e List.mem_cons_self))]
    dsimp only
    cases e.damaged with
    | true => exact ih
    | false =>
      cases hg : e.body.grade with
      | none => simp only [hg, Bool.false_eq_true, if_false]; exact ih
      | some grade => simp only [hg, Bool.false_eq_true, if_false]

theorem readGrade_governed {r : BodyRead} (hb : backFrom l.frame s.store.index = g :: back)
    (hr : readBody .resolve chk g s = r) (hback : ∀ x ∈ back, bodyOutcome chk x.start = .clean) :
    readGrade chk l s = (r.state,
      readingOf l r.state.config.baseGrade g back r.view (nextAfter l.frame s.store.index)) := by
  unfold readGrade readingOf
  dsimp only
  rw [hb]
  dsimp only
  rw [hr, walkBack_clean back r.state hback]
  cases r.view.body.grade with
  | none => rfl
  | some grade =>
    dsimp only
    split
    · rfl
    · rfl

theorem readGrade_ungoverned (hb : backFrom l.frame s.store.index = []) (chk : Checks) :
    readGrade chk l s = (s, readingOfNone l s.config.baseGrade (nextAfter l.frame s.store.index)) := by
  unfold readGrade
  dsimp only
  rw [hb]
  rfl

/-- What a reading that finds no error depends on. -/
def readingAt (l : Latch) (base : Grade) (idx : List Entry) : Reading :=
  match backFrom l.frame idx with
  | [] => readingOfNone l base (nextAfter l.frame idx)
  | g :: back =>
    readingOf l base g back (if g.damaged then BodyView.lost else ⟨false, g.body⟩) (nextAfter l.frame idx)

theorem readGrade_clean (h : ∀ n, bodyOutcome chk n = .clean) (l : Latch) (s : State) :
    readGrade chk l s = (s, readingAt l s.config.baseGrade s.store.index) := by
  unfold readingAt
  cases hb : backFrom l.frame s.store.index with
  | nil => exact readGrade_ungoverned hb chk
  | cons g back =>
    exact readGrade_governed hb (readBody_undisturbed .resolve s (.inr (h g.start))) fun x _ => h x.start

/-! ### The step of the resolver -/

/-- The resolver's step, on the list as its lookup left it: the bank fills, and the store is released (R57, R58). -/
theorem exec_resolutionRead {v : State} {b : Bool} {r : Reading} (hheld : s.arbiter.holder = some .resolver)
    (hlatch : s.resolver.latch = some l) (hx : examineStore (fun x => decide (l.frame < x)) chk s = (u, b))
    (hr : readGrade chk l u = (v, r)) : exec (.resolutionRead chk) s = .next (release { v with
      pipeline := { v.pipeline with pendingBank := .filling r },
      resolver := { v.resolver with latch := none } }) := by
  simp only [exec, execResolutionRead, hheld, hlatch]
  rw [resolve, hx]
  dsimp only
  rw [hr]

/-- What a step of the resolver leaves: the bank filling, and besides the list what its findings touched. -/
theorem exec_resolutionRead_keeps {v : State} {b : Bool} {r : Reading} (hheld : s.arbiter.holder = some .resolver)
    (hlatch : s.resolver.latch = some l) (hx : examineStore (fun x => decide (l.frame < x)) chk s = (u, b))
    (hr : readGrade chk l u = (v, r)) (hw : ListWork s v) :
    ∃ t, exec (.resolutionRead chk) s = .next t ∧ t.pipeline = { s.pipeline with pendingBank := .filling r }
      ∧ t.store = v.store ∧ t.events = v.events ∧ t.cue = v.cue ∧ t.handler = s.handler
      ∧ t.resolver.inFlight = s.resolver.inFlight ∧ t.resolver.rerun = s.resolver.rerun
      ∧ t.arbiter = (release { v with
          pipeline := { v.pipeline with pendingBank := .filling r },
          resolver := { v.resolver with latch := none } }).arbiter := by
  refine ⟨_, exec_resolutionRead hheld hlatch hx hr, ?_, release_store _, release_events _, release_cue _, ?_, ?_, ?_,
    rfl⟩
  · rw [release_pipeline]
    show ({ v.pipeline with pendingBank := .filling r } : Pipeline) = _
    rw [show v.pipeline = s.pipeline by rw [hw.frame]]
  · rw [release_handler]
    exact hw.handler
  · rw [release_resolver_inFlight]
    show v.resolver.inFlight = _
    rw [hw.resolver]
  · rw [release_resolver_rerun]
    show v.resolver.rerun = _
    rw [hw.resolver]

/-- The store goes to the next waiting client in order (R42). -/
theorem release_arbiter_of (h : s.arbiter.resolverWaits = false) : (release s).arbiter =
    (if s.arbiter.handlerWaits then { s.arbiter with holder := some .handler, handlerWaits := false }
     else if s.arbiter.responderWaits then { s.arbiter with holder := some .responder, responderWaits := false }
     else { s.arbiter with holder := none }) := by
  unfold release
  rw [if_neg (by simp [h])]
  split
  · rfl
  · split
    · rfl
    · rfl

theorem spanEnd_eq (o : Option Entry) : spanEnd o = match o with
    | none => 1048575
    | some n => n.start - 1 := by cases o <;> rfl

/-! ### The filling -/

/-- A filling completes (R58): the bank is READY, and a rerun asked for starts at once. -/
theorem exec_fillingComplete {r : Reading} (hup : s.up = true) (h : s.pipeline.pendingBank = .filling r) :
    ∃ t, exec .fillingComplete s = .next t ∧ t.pipeline = { s.pipeline with pendingBank := .ready (fillBank r) }
      ∧ t.store = s.store ∧ t.cue = s.cue ∧ t.events = s.events ∧ t.resolver.rerun = false
      ∧ (if s.resolver.rerun = true then t.resolver.inFlight = true
           ∧ (t.arbiter.holder = some .resolver ∨ t.arbiter.resolverWaits = true)
         else t.resolver.inFlight = false ∧ t.arbiter = s.arbiter) := by
  let v : State := { s with
    pipeline.pendingBank := .ready (fillBank r), resolver.inFlight := false, resolver.rerun := false }
  have hexec : exec .fillingComplete s = .next (triggerIf s.resolver.rerun v) := by
    simp only [exec, execFillingComplete, h]
    rfl
  refine ⟨_, hexec, triggerIf_pipeline _ _, triggerIf_store _ _, triggerIf_cue _ _, triggerIf_events _ _, ?_⟩
  cases s.resolver.rerun
  · exact ⟨rfl, rfl, rfl⟩
  · rw [triggerIf, if_pos rfl, trigger_starts v hup rfl, if_pos rfl]
    refine ⟨request_resolver_rerun _ _, request_resolver_inFlight _ _, ?_⟩
    unfold request
    split
    · exact .inl rfl
    · exact .inr rfl

end Sys2Proof.Machine
end

section
/-! PROOF. The run of a resolution, assembled (R47 to R58). -/

namespace Sys2Proof.Machine

variable {s : State} {chk : Checks} {l : Latch} {g : Entry} {back : List Entry}

/-- What the reading of a governing record read clean, or damaged before, holds (R47 to R51, R54). -/
theorem readingOf_spec (l : Latch) (base : Grade) (g : Entry) (back : List Entry) (next : Option Entry) :
    let r := readingOf l base g back (if g.damaged then BodyView.lost else ⟨false, g.body⟩) next
    r.frame = l.frame ∧ r.mode = l.mode ∧ r.toGrade = effectiveGrade base (g :: back)
      ∧ r.inherited = (g.damaged || g.body.grade.isNone)
      ∧ r.scene.start = some g.start ∧ r.scene.damaged = g.damaged ∧ r.scene.spanFirst = g.start
      ∧ r.scene.spanLast = spanEnd next
      ∧ r.scene.sceneId = (if g.damaged then 0 else g.body.sceneId)
      ∧ r.scene.revision = (if g.damaged then 0 else g.revision)
      ∧ r.scene.omitted = (!g.damaged && g.body.omitted)
      ∧ (if g.damaged = false ∧ g.body.grade.isSome = true ∧ l.frame - g.start < g.body.transitionLen then
           r.w = (l.frame - g.start + 1) * 256 / (g.body.transitionLen + 1)
             ∧ r.fromGrade = some (effectiveGrade base back)
         else r.w = 256 ∧ r.fromGrade = none) := by
  unfold readingOf
  cases hd : g.damaged with
  | true => simp [BodyView.lost, Body.lost, effectiveGrade, hd]
  | false =>
    cases hg : g.body.grade with
    | none => simp [hg, effectiveGrade, hd]
    | some grade =>
      by_cases hj : l.frame - g.start < g.body.transitionLen
      · have hlen : 1 ≤ g.body.transitionLen ∧ l.frame - g.start < g.body.transitionLen := ⟨by omega, hj⟩
        simp [hg, effectiveGrade, hd, hlen, mixWeight]
      · simp [hg, effectiveGrade, hd, hj]

/-- A resolution whose governing record is found correctable reads it as a clean one does (R169). -/
theorem resolution_corrects {syn : Byte} (hup : s.up = true) (hheld : s.arbiter.holder = some .resolver)
    (hlatch : s.resolver.latch = some l) (hb : backFrom l.frame s.store.index = g :: back) (hparity : chk.parity = [])
    (hback : ∀ x ∈ back, bodyOutcome chk x.start = .clean) (hd : g.damaged = false)
    (hcap : s.events.capture = ⟨.empty, false⟩) (hout : bodyOutcome chk g.start = .correctable syn) :
    ∃ t u, exec (.resolutionRead chk) s = .next t ∧ exec (.resolutionRead Checks.clean) s = .next u
      ∧ t.pipeline = u.pipeline ∧ t.store = s.store
      ∧ t.events = { s.events with
          flags := t.events.flags, corrected := min (s.events.corrected + 1) 65535,
          capture := ⟨.holding ⟨.corrected, .resolve, g.start, syn⟩, false⟩ }
      ∧ EventFlag.storeCe.isIn t.events.flags = true := by
  obtain ⟨v, hr, hw, hstore, hevents, hflag⟩ := readBody_corrects .resolve hup hd hcap hout
  have hconfig : v.config = s.config := by rw [hw.frame]
  have hclean := readBody_undisturbed (chk := Checks.clean) (e := g) .resolve s (.inr rfl)
  rw [hd, if_neg (by simp)] at hclean
  have hread := readGrade_governed hb hr hback
  have hreadc := readGrade_governed hb hclean fun _ _ => rfl
  rw [hconfig] at hread
  obtain ⟨t, hexec, hpipe, hstore', hevents', -⟩ :=
    exec_resolutionRead_keeps hheld hlatch (examineStore_unfailing _ _ s hparity) hread hw
  obtain ⟨u, hexecu, hpipeu, -⟩ :=
    exec_resolutionRead_keeps hheld hlatch (examineStore_unfailing _ Checks.clean s rfl) hreadc (.refl s)
  refine ⟨t, u, hexec, hexecu, hpipe.trans hpipeu.symm, hstore'.trans hstore, ?_, ?_⟩
  · rw [hevents']
    exact hevents
  · rw [hevents']
    exact hflag

/-- One found uncorrectable is taken as damaged (R24, R170). -/
theorem resolution_damages {syn : Byte} (hup : s.up = true) (hheld : s.arbiter.holder = some .resolver)
    (hlatch : s.resolver.latch = some l) (hb : backFrom l.frame s.store.index = g :: back) (hparity : chk.parity = [])
    (hback : ∀ x ∈ back, bodyOutcome chk x.start = .clean) (hd : g.damaged = false)
    (hcap : s.events.capture = ⟨.empty, false⟩) (hout : bodyOutcome chk g.start = .uncorrectable syn) :
    ∃ t r, exec (.resolutionRead chk) s = .next t ∧ t.pipeline = { s.pipeline with pendingBank := .filling r }
      ∧ r = readingOf l s.config.baseGrade g back BodyView.lost (nextAfter l.frame s.store.index)
      ∧ t.store = { s.store with index := updateEntry g.start (fun e => { e with damaged := true }) s.store.index }
      ∧ t.events = { s.events with
          flags := t.events.flags, damaged := min (s.events.damaged + 1) 65535,
          capture := ⟨.locked ⟨.uncorrectable, .resolve, g.start, syn⟩, false⟩ }
      ∧ EventFlag.storeUe.isIn t.events.flags = true := by
  obtain ⟨v, hr, hw, hstore, hevents, hflag⟩ := readBody_damages .resolve hup hd hcap hout
  have hconfig : v.config = s.config := by rw [hw.frame]
  have hread := readGrade_governed hb hr hback
  rw [hconfig] at hread
  obtain ⟨t, hexec, hpipe, hstore', hevents', -⟩ :=
    exec_resolutionRead_keeps hheld hlatch (examineStore_unfailing _ _ s hparity) hread hw
  refine ⟨t, _, hexec, hpipe, rfl, hstore'.trans hstore, ?_, ?_⟩
  · rw [hevents']
    exact hevents
  · rw [hevents']
    exact hflag

/-- A new faulty entry is passed over: the reading is that of the list without it (R173). -/
theorem resolution_new_fault {e : Entry} (hup : s.up = true) (hheld : s.arbiter.holder = some .resolver)
    (hlatch : s.resolver.latch = some l) (hok : s.store.ok) (he : e ∈ s.store.index) (hf : e.faulty = false)
    (hle : e.start ≤ l.frame) :
    ∃ t u, exec (.resolutionRead ⟨[], [e.start]⟩) s = .next t
      ∧ exec (.resolutionRead Checks.clean) { s with store := t.store } = .next u ∧ t.pipeline = u.pipeline
      ∧ t.store = { s.store with frozen := true, index := t.store.index }
      ∧ t.store.index = markFaulty e s.store.index
      ∧ t.events = { s.events with flags := t.events.flags } ∧ EventFlag.indexFault.isIn t.events.flags = true := by
  have hx := examineStore_new_fault (stop := fun x => decide (l.frame < x)) hok he hf
    (fun n _ hn => by simp only [decide_eq_false_iff_not]; omega)
  have hw := ListWork.withFaulty e s
  have hread := readGrade_clean (chk := ⟨[], [e.start]⟩) (fun _ => rfl) l (s.withFaulty e)
  obtain ⟨t, hexec, hpipe, hstore, hevents, -⟩ := exec_resolutionRead_keeps hheld hlatch hx hread hw
  obtain ⟨u, hexecu, hpipeu, -⟩ := exec_resolutionRead_keeps (s := { s with store := t.store }) hheld hlatch
    (examineStore_unfailing _ Checks.clean _ rfl) (readGrade_clean (fun _ => rfl) l _) (.refl _)
  have hconfig : (s.withFaulty e).config = s.config := raise_config _ _
  rw [hconfig, ← hstore] at hpipe
  have hmarked := hstore.trans (withFaulty_store e s)
  refine ⟨t, u, hexec, hexecu, hpipe.trans hpipeu.symm, by rw [hmarked], by rw [hmarked], ?_, ?_⟩
  · rw [hevents]
    exact withFaulty_events e s
  · rw [hevents]
    exact withFaulty_isIn e hup

/-- Settles O60: a resolution reads its grade (`readGrade_governed`, `readGrade_ungoverned`, `readingOf_spec`) and
fills its bank (`exec_resolutionRead_keeps`, `exec_fillingComplete`), whatever its checks find (`resolution_corrects`,
`resolution_damages`, `resolution_new_fault`). -/
theorem resolutionFillsTheBank : Obligations.ResolutionFillsTheBank := by
  refine ⟨?governed, ⟨?ungoverned, ?filling⟩, ?errors, ?faulty, ?run⟩
  case governed =>
    intro s l g back hheld hlatch hb
    have hr := readBody_undisturbed (chk := Checks.clean) (e := g) .resolve s (.inr rfl)
    have hread := readGrade_governed hb hr fun _ _ => rfl
    obtain ⟨t, hexec, hpipe, hstore, hevents, hcue, hhandler, hflight, hrerun, harb⟩ :=
      exec_resolutionRead_keeps hheld hlatch (examineStore_unfailing _ Checks.clean s rfl) hread (.refl s)
    refine ⟨t, _, hexec, hpipe, hstore, hevents, hcue, hhandler, hflight, hrerun, fun hwaits => ?_, ?_⟩
    · rw [harb]
      exact release_arbiter_of hwaits
    · have hspec := readingOf_spec l s.config.baseGrade g back (nextAfter l.frame s.store.index)
      dsimp only at hspec
      rw [spanEnd_eq] at hspec
      exact hspec
  case ungoverned =>
    intro s l hheld hlatch hb
    obtain ⟨t, hexec, hpipe, hstore, -⟩ := exec_resolutionRead_keeps hheld hlatch
      (examineStore_unfailing _ Checks.clean s rfl) (readGrade_ungoverned hb Checks.clean) (.refl s)
    rw [readingOfNone, spanEnd_eq] at hpipe
    exact ⟨t, hexec, hstore, hpipe⟩
  case filling =>
    intro s r hup h
    obtain ⟨t, hexec, hpipe, hstore, hcue, hevents, hrerun, hnext⟩ := exec_fillingComplete hup h
    refine ⟨t, fillBank r, hexec, hpipe, hstore, hcue, hevents, hrerun, hnext, ?_⟩
    unfold fillBank
    cases r.fromGrade with
    | none => exact ⟨rfl, rfl, rfl, rfl, rfl, rfl, rfl, rfl, rfl, rfl, rfl⟩
    | some f => exact ⟨rfl, rfl, rfl, rfl, rfl, rfl, rfl, rfl, rfl, rfl, rfl⟩
  case errors =>
    intro s l chk g back syn hup hheld hlatch hb hparity hback hd hcap
    constructor
    · exact resolution_corrects hup hheld hlatch hb hparity hback hd hcap
    · intro hout
      obtain ⟨t, r, hexec, hpipe, hr, hstore, hevents, hflag⟩ :=
        resolution_damages hup hheld hlatch hb hparity hback hd hcap hout
      subst hr
      refine ⟨t, _, hexec, hpipe, rfl, rfl, rfl, rfl, rfl, rfl, rfl, rfl, rfl, rfl, rfl, by rw [hstore], fun n => ?_,
        hevents, hflag⟩
      rw [hstore]
      exact recordAtStart_damage n g.start s.store.index
  case faulty =>
    intro s l e hup hheld hlatch hok he hf hle
    exact resolution_new_fault hup hheld hlatch hok he hf hle
  case run =>
    intro s l chk hheld hlatch
    obtain ⟨t, hexec, -, -, -, -, -, hflight, hrerun, -⟩ := exec_resolutionRead_keeps (chk := chk) hheld hlatch rfl rfl
      ((ListWork.examineStore _ chk s).trans (.readGrade chk l _))
    exact ⟨t, hexec, hflight, hrerun⟩

end Sys2Proof.Machine
end

section
/-! PROOF. The line resets (R18, R45, R46, R69, R92, R112, R130 to R132, R136, R147, R152, R167, R178, R180). -/

namespace Sys2Proof.Machine

variable {s u v : State} {chk : Checks} {m : Message} {c : Stream}

/-! ### The blocks -/

/-- The state of a line reset, before its trigger: every block as its chapter gives it, the store as `st`. -/
def State.resetWith (st : Store) (s : State) : State := { lineReset s with store := st }

theorem stopped_eq (x : Transmitter) : x.stopped = match x with
    | .sending _ _ => .stopping
    | .stopping => .stopping
    | .empty => .empty
    | .waiting _ _ => .empty := by cases x <;> rfl

theorem lineReset_events (e : Events) (c : Config) : e.lineReset c = { e with
    flags := 0, corrected := 0, damaged := 0, enable := c.enableMask, statusEnable := decide (1 ≤ c.statusInterval),
    statusCountdown := if 1 ≤ c.statusInterval then 16 * c.statusInterval else e.statusCountdown } := by
  by_cases h : 1 ≤ c.statusInterval
  · have h' : decide (0 < c.statusInterval) = true := decide_eq_true h
    simp only [Events.lineReset, h', if_true, h, decide_true]
  · have h' : decide (0 < c.statusInterval) = false := decide_eq_false h
    simp only [Events.lineReset, h', Bool.false_eq_true, if_false, h, decide_false]

/-- A line reset triggered and answered is what the table after R132 says. -/
theorem lineResetTo_of {st : Store} (hw : WorkAtStore (s.resetWith st) u) (hcue : u.cue = s.cue.lineReset)
    (hevents : u.events = s.events.lineReset s.config) (hhandler : u.handler = { s.handler with ignored := 0 })
    (hflight : u.resolver.inFlight = true) (hrerun : s.resolver.inFlight = true → u.resolver.rerun = true)
    (hwaits : u.arbiter.responderWaits = false) :
    endPlain m .ok .plain u = { u with handler := ⟨.idle, 0⟩, cue := { u.cue with txq := replyTo m .ok .plain } }
      ∧ s.lineResetTo (endPlain m .ok .plain u) m := by
  have htxq : u.cue.txq = [] := by rw [hcue]; rfl
  have hroom : u.sharedTaken < 5 := sharedTaken_lt _ (by rw [htxq]; decide)
  have hends : endPlain m .ok .plain u
      = { u with handler := ⟨.idle, 0⟩, cue := { u.cue with txq := replyTo m .ok .plain } } := by
    rw [endPlain_ok_joins _ _ _ hroom, htxq, hhandler]
    rfl
  refine ⟨hends, ?_⟩
  have hres := hw.resolver
  have hresp := hw.responder
  rw [hends]
  refine ⟨?_, hw.pcu, ?_, ?_, ?_, ?_, ?_, hflight, hrerun, hw.pipeline, ?_, hw.requester, ?_, ?_, hwaits, ?_⟩
  · ext1
    all_goals dsimp only
    case part => exact hw.part
    case address => exact hw.address
    case config => exact hw.config
    case configSource => exact hw.configSource
    case gate => exact hw.gate
    case pending => exact hw.pending
  · show u.resolver.lastScene = none
    rw [hres]; rfl
  · show u.resolver.slot = none
    rw [hres]; rfl
  · show u.resolver.countdown = 0
    rw [hres]; rfl
  · show u.resolver.late = 0
    rw [hres]; rfl
  · show u.resolver.mode = ⟨.off, 0⟩
    rw [hres]; rfl
  · show ({ u.cue with txq := replyTo m .ok .plain } : CueLine) = _
    rw [hcue]
    exact congrArg (fun x => { s.cue with
      inbound := [], txq := replyTo m .ok .plain, kindFlags := 0, lineErrors := 0, rxDrops := 0, txAbandons := 0,
      yieldMark := false, tx := x }) (stopped_eq s.cue.tx)
  · show u.responder.streaming = false
    rw [hresp]; rfl
  · show u.responder.stream.cursor = none
    rw [hresp]; rfl
  · show u.events = _
    rw [hevents]
    exact lineReset_events s.events s.config

/-! ### RESET SOFT (R131) -/

theorem exec_resetSoft (hand : inHand .reset s = some m) :
    exec .resetSoft s = .next (endPlain m .ok .plain (trigger (lineReset s))) := by
  simp only [exec, execResetSoft, hand]

theorem lineReset_up (s : State) : (lineReset s).up = s.up := rfl

/-- The trigger of a SOFT reset (R45, R55, R69). -/
theorem trigger_lineReset (hup : s.up = true) : (trigger (lineReset s)).resolver.inFlight = true
      ∧ (s.resolver.inFlight = true → (trigger (lineReset s)).resolver.rerun = true)
      ∧ (trigger (lineReset s)).arbiter =
          (if s.resolver.inFlight = true then { s.arbiter with responderWaits := false }
           else if s.arbiter.holder = none ∧ s.arbiter.resolverWaits = false ∧ s.arbiter.handlerWaits = false then
             { s.arbiter with holder := some .resolver, responderWaits := false }
           else { s.arbiter with resolverWaits := true, responderWaits := false }) := by
  cases hf : s.resolver.inFlight
  case true =>
    rw [trigger_rerun _ (by exact hup) (by exact hf), if_pos rfl]
    exact ⟨hf, fun _ => rfl, rfl⟩
  case false =>
    rw [trigger_starts _ (by exact hup) (by exact hf), if_neg (by simp)]
    refine ⟨request_resolver_inFlight _ _, by simp, ?_⟩
    by_cases hfree : s.arbiter.holder = none ∧ s.arbiter.resolverWaits = false ∧ s.arbiter.handlerWaits = false
    · obtain ⟨hholder, hresolver, hhandler⟩ := hfree
      rw [if_pos ⟨hholder, hresolver, hhandler⟩, request_free _ .resolver (by exact hholder)
        (by simp [lineReset, resetPosition, Arbiter.noneWaits, hresolver, hhandler])]
      rfl
    · rw [if_neg hfree, request, if_neg]
      · rfl
      · intro h
        obtain ⟨hholder, hwaits⟩ := Bool.and_eq_true_iff.1 h
        exact hfree ⟨of_decide_eq_true hholder, by simpa [lineReset, resetPosition, Arbiter.noneWaits] using hwaits⟩

/-! ### RESET LIST (R46, R132) -/

theorem exec_resetList (hat : atStore .reset s = some m) :
    exec .resetList s = .next (endPlain m .ok .plain (releaseSignal true (s.resetWith Store.empty))) := by
  simp only [exec, execResetList, hat]
  rfl

theorem trigger_responderWaits (s : State) : (trigger s).arbiter.responderWaits = s.arbiter.responderWaits := by
  unfold trigger
  split
  · split
    · rfl
    · unfold request
      split
      · rfl
      · rfl
  · rfl

theorem releaseSignal_responderWaits (h : s.arbiter.responderWaits = false) :
    (releaseSignal true s).arbiter.responderWaits = false := by
  have h' := (trigger_responderWaits s).trans h
  show (release (trigger s)).arbiter.responderWaits = false
  unfold release
  split
  · exact h'
  · split
    · exact h'
    · rw [if_neg (by simp [h'])]
      exact h'

/-! ### A responder's step kept over a SOFT reset (R152) -/

/-- A step kept with its stream hands its message over and changes nothing in the stream. -/
theorem exec_responderStep_kept {b : Bool} {sent : Option Nat} {x : TxMsg} (hheld : s.arbiter.holder = some .responder)
    (hunfinished : s.responder.unfinished = some c) (hplace : s.responder.placeHeld = true)
    (hstep : streamStep chk c (dropPlace s)
      = ({ dropPlace s with cue := { s.cue with txq := s.cue.txq ++ [x] } }, b, sent)) :
    ∃ t, exec (.responderStep chk) s = .next t ∧ t.store = s.store ∧ t.events = s.events
      ∧ t.responder.streaming = s.responder.streaming ∧ t.responder.stream = s.responder.stream
      ∧ t.responder.unfinished = none ∧ t.cue = { s.cue with txq := s.cue.txq ++ [x] } := by
  have hexec : exec (.responderStep chk) s = .next (pokeResponder (releaseSignal b
      { dropPlace s with cue := { s.cue with txq := s.cue.txq ++ [x] } })) := by
    show execResponderStep chk s = _
    rw [execResponderStep, if_pos hheld, responderStep, if_pos hplace, hunfinished]
    dsimp only
    show Host.Outcome.next (pokeResponder (releaseSignal (streamStep chk c (dropPlace s)).2.1
      (streamStep chk c (dropPlace s)).1)) = _
    rw [hstep]
  refine ⟨_, hexec, ?_, ?_, ?_, ?_, ?_, ?_⟩
  · rw [pokeResponder_store, releaseSignal_store]
    rfl
  · rw [pokeResponder_events, releaseSignal_events]
    rfl
  · rw [pokeResponder_responder_streaming, releaseSignal_responder_streaming]
    rfl
  · rw [pokeResponder_responder_stream, releaseSignal_responder_stream]
    rfl
  · rw [pokeResponder_responder_unfinished, releaseSignal_responder_unfinished]
    rfl
  · rw [pokeResponder_cue, releaseSignal_cue]

/-- Settles O51: both resets end as `lineResetTo_of` says of their trigger (`trigger_lineReset`,
`signalled_releaseSignal`); the step kept is `exec_responderStep_kept`. -/
theorem lineResetsResetEveryBlock : Obligations.LineResetsResetEveryBlock := by
  refine ⟨?soft, ?list, ?kept⟩
  case soft =>
    intro s m hup hand
    obtain ⟨hflight, hrerun, harb⟩ := trigger_lineReset hup
    have hw : WorkAtStore (s.resetWith s.store) (trigger (lineReset s)) := .trigger (lineReset s)
    obtain ⟨hends, hto⟩ := lineResetTo_of (m := m) hw (trigger_cue _) (trigger_events _) (trigger_handler _) hflight hrerun
      ((trigger_responderWaits _).trans rfl)
    refine ⟨_, exec_resetSoft hand, hto, ?_, ?_, fun hheld hs hnone => ?_, fun hother => ?_, ?_⟩
    · rw [endPlain_store, trigger_store]
      rfl
    · rw [endPlain_responder, trigger_responder]
      rfl
    · rw [endPlain_responder, trigger_responder]
      simp [lineReset, Responder.lineReset, hheld, hs, hnone]
    · rw [endPlain_responder, trigger_responder]
      cases hunf : s.responder.unfinished <;> simp [lineReset, Responder.lineReset, hother, hunf]
    · rw [hends]
      exact harb
  case list =>
    intro s m hup hat
    have hheld := (atStore_eq_some_iff.1 hat).1
    have hw : WorkAtStore (s.resetWith Store.empty) (releaseSignal true (s.resetWith Store.empty)) := .releaseSignal _ _
    obtain ⟨hres, hrerun, hstarts⟩ := signalled_releaseSignal (s.resetWith Store.empty) (s.resetWith Store.empty) hup rfl
      rfl rfl rfl hheld
    obtain ⟨hends, hto⟩ := lineResetTo_of (m := m) hw (releaseSignal_cue _ _) (releaseSignal_events _ _)
      (releaseSignal_handler _ _) (by rw [hres]) hrerun (releaseSignal_responderWaits rfl)
    refine ⟨_, exec_resetList hat, hto, ?_, fun hf => ?_, fun hf hresolver hhandler => ?_⟩
    · rw [endPlain_store, releaseSignal_store]
      rfl
    · rw [hends]
      exact ⟨(hstarts hf).2.1, (hstarts hf).2.2⟩
    · rw [hends]
      show (release (trigger (s.resetWith Store.empty))).arbiter.holder = none
      rw [trigger_rerun _ (by exact hup) (by exact hf), release_to_none _ ?_]
      simp [State.resetWith, lineReset, resetPosition, Arbiter.noneWaits, hresolver, hhandler]
  case kept =>
    intro s chk c hup hheld hunfinished hplace hroom hparity
    have hx := examineStore_unfailing (streamStop c) chk (dropPlace s) hparity
    have hlt := dropPlace_room (.refl (dropPlace s)) hroom
    constructor
    · intro e hn hle hread
      have hstep := streamStep_sends hx hn hle (readBody_undisturbed .send (dropPlace s) hread) hlt
      rw [record_eq_reported] at hstep
      exact exec_responderStep_kept hheld hunfinished hplace hstep
    · intro hn
      exact exec_responderStep_kept hheld hunfinished hplace (streamStep_ends hx hn hlt)

end Sys2Proof.Machine
end

section
/-! PROOF. Receive errors, the receive filter and routing (R93 to R104, R108). -/

namespace Sys2Proof.Machine

variable {s : State} {c : RxChar} {a : Assembly}

/-! ### Faults of a character (R93) -/

theorem charFault_eq_none_iff : charFault c = none ↔ c.stop = true ∧ c.parity = parityOf c.data c.mark := by
  unfold charFault framingFault parityFault
  by_cases hp : parityOf c.data c.mark = c.parity
  · rw [hp, bne_self_eq_false]
    cases c.stop <;> simp
  · rw [bne_iff_ne.2 hp]
    simp only [Ne.symm hp, and_false, iff_false]
    cases c.stop
    · simp only [Bool.not_false]
      split <;> simp
    · simp

theorem charFault_framing (hstop : c.stop = false) (hparity : c.parity = parityOf c.data c.mark) :
    charFault c = some .framing := by
  simp [charFault, framingFault, parityFault, hstop, hparity]

theorem charFault_parity (hstop : c.stop = true) (hparity : c.parity ≠ parityOf c.data c.mark) :
    charFault c = some .parity := by
  have hbad : parityFault c = true := bne_iff_ne.2 (Ne.symm hparity)
  simp [charFault, framingFault, hbad, hstop]

/-! ### Receive errors (R98, R100) -/

/-- A receive error taken with the idle measure at `i`. -/
theorem receiveError_taken (hup : s.up = true) (k : LineErrorKind) (chars : List Byte) (i : IdleMeasure) :
    s.errorTaken (receiveError k chars { s with cue.idle := i }) k chars
      ∧ (receiveError k chars { s with cue.idle := i }).cue.idle = i := by
  unfold receiveError
  refine ⟨⟨?_, ?_, raise_isIn _ _ hup⟩, raise_cue_idle _ _⟩
  · rw [raise_spec]
  · rw [raise_cue, satInc_eq_min]
    unfold LineCapture.load
    cases s.cue.capture.record <;> rfl

/-- A character that is a receive error is taken with either command. -/
theorem exec_receiveError {k : LineErrorKind} {chars : List Byte} (hup : s.up = true) (hon : s.cue.receiverOn = true)
    (h : rxOutcome s.cue.rx c = .error k chars) :
    exec (.receiveError c) s = .next (receiveError k chars { s with cue.idle := ⟨true, 0⟩ })
      ∧ exec (.characterTaken c) s = .next (receiveError k chars { s with cue.idle := ⟨true, 0⟩ }) := by
  have htake : takeCharacter c s = receiveError k chars { s with cue.idle := ⟨true, 0⟩ } := by
    rw [takeCharacter_on hup hon, h]
    rfl
  have hwould : (s.rxWould c).isError = true := by
    rw [State.rxWould, hup, hon, h]
    rfl
  constructor
  · show execReceiveError c s = _
    rw [execReceiveError, if_pos hwould, htake]
  · show Host.Outcome.next (takeCharacter c s) = _
    rw [htake]

theorem crc_ne_iff {x : BitVec 16} {p : List Byte} {i : Nat} :
    x = BitVec.ofNat 16 (u16 p i) ↔ x.toNat = u16 p i := by
  have h := u16_le p i
  rw [← BitVec.toNat_inj, BitVec.toNat_ofNat, Nat.mod_eq_of_lt (by omega)]

theorem addChar_tooLong {data : Byte} (h : (a.chars ++ [data]).length = 4) (hlong : 64 < data.toNat) :
    addChar a data = .error .length (a.chars ++ [data]) := by
  simp only [addChar, if_pos (And.intro h hlong)]

/-- The character that completes a message of another station (R96, R97). -/
theorem addChar_completes {data : Byte} (hown : a.own = false) (hsix : 6 ≤ (a.chars ++ [data]).length)
    (hlen : (a.chars ++ [data]).length = 6 + u8 (a.chars ++ [data]) 3) :
    addChar a data = if crcChecks (a.chars ++ [data]) then .accepted (messageOf a (a.chars ++ [data]))
      else .error .crc (a.chars ++ [data]) := by
  have hlimit : ¬ ((a.chars ++ [data]).length = 4 ∧ 64 < data.toNat) := fun h => by omega
  simp only [addChar, if_neg hlimit, if_pos (And.intro hsix hlen), hown, Bool.false_eq_true, if_false]

theorem rxOutcome_markless (hrx : s.cue.rx = .assembling a) (hstop : c.stop = true) (hmark : c.mark = false)
    (hparity : c.parity = parityOf c.data false) : rxOutcome s.cue.rx c = addChar a c.data := by
  have hfault : charFault c = none := charFault_eq_none_iff.2 ⟨hstop, by rw [hmark]; exact hparity⟩
  rw [hrx]
  simp [rxOutcome, hfault, hmark]

theorem accepts_eq (s : State) (d : Byte) : accepts s d =
    if d = s.address.setWidth 8 then some .individual
    else if 0x40 ≤ d.toNat ∧ d.toNat ≤ 0x7F ∧ s.config.groups.getLsbD (d.toNat - 0x40) = true then some .group
    else if d = 0xFF ∧ s.config.broadcast = true then some .broadcast
    else none := by
  have hstation : (s.address.setWidth 8).toNat ≤ 0x3F := by
    have := s.address.isLt
    simp
    omega
  unfold accepts State.station
  by_cases hlow : d.toNat ≤ 0x3F
  · rw [if_pos hlow]
    by_cases hd : d = s.address.setWidth 8
    · rw [if_pos hd, if_pos hd]
    · have hff : ¬ (d = 0xFF ∧ s.config.broadcast = true) := fun h => by rw [h.1] at hlow; simp at hlow
      rw [if_neg hd, if_neg hd, if_neg (by omega), if_neg hff]
  · have hd : d ≠ s.address.setWidth 8 := fun h => hlow (h ▸ hstation)
    rw [if_neg hlow, if_neg hd]
    by_cases hmid : d.toNat ≤ 0x7F
    · have hff : ¬ (d = 0xFF ∧ s.config.broadcast = true) := fun h => by rw [h.1] at hmid; simp at hmid
      rw [if_pos hmid]
      by_cases hgroup : s.config.groups.getLsbD (d.toNat - 0x40) = true
      · rw [if_pos hgroup, if_pos ⟨by omega, hmid, hgroup⟩]
      · rw [if_neg hgroup, if_neg (fun h => hgroup h.2.2), if_neg hff]
    · have hgroup : ¬ (0x40 ≤ d.toNat ∧ d.toNat ≤ 0x7F ∧ s.config.groups.getLsbD (d.toNat - 0x40) = true) :=
        fun h => hmid h.2.1
      rw [if_neg hmid, if_neg hgroup]
      by_cases hff : d = 0xFF
      · simp [hff]
      · rw [if_neg hff, if_neg (fun h => hff h.1)]

/-- The filter applied to a destination character behind which the idle measure starts again (R95, R108). -/
theorem applyFilter_restartIdle (d : Byte) (s : State) :
    applyFilter d (restartIdle s) = { s with cue := { s.cue with
      idle := ⟨true, 0⟩,
      rx :=
        if d = s.address.setWidth 8 then .assembling ⟨.individual, [d], s.driving⟩
        else if 0x40 ≤ d.toNat ∧ d.toNat ≤ 0x7F ∧ s.config.groups.getLsbD (d.toNat - 0x40) = true then
          .assembling ⟨.group, [d], s.driving⟩
        else if d = 0xFF ∧ s.config.broadcast = true then .assembling ⟨.broadcast, [d], s.driving⟩
        else .discarding } } := by
  have haccepts : accepts (restartIdle s) d = accepts s d := rfl
  unfold applyFilter
  rw [haccepts, accepts_eq]
  by_cases hstation : d = s.address.setWidth 8
  · rw [if_pos hstation, if_pos hstation]
    rfl
  rw [if_neg hstation, if_neg hstation]
  by_cases hgroup : 0x40 ≤ d.toNat ∧ d.toNat ≤ 0x7F ∧ s.config.groups.getLsbD (d.toNat - 0x40) = true
  · rw [if_pos hgroup, if_pos hgroup]
    rfl
  rw [if_neg hgroup, if_neg hgroup]
  by_cases hbroadcast : d = 0xFF ∧ s.config.broadcast = true
  · rw [if_pos hbroadcast, if_pos hbroadcast]
    rfl
  · rw [if_neg hbroadcast, if_neg hbroadcast]
    rfl

/-- The filter writes the receiver alone. -/
theorem applyFilter_spec (d : Byte) (s : State) :
    applyFilter d s = { s with cue := { s.cue with rx := (applyFilter d s).cue.rx } }
      ∧ ((applyFilter d s).cue.rx = .discarding ∨ ∃ how own, (applyFilter d s).cue.rx = .assembling ⟨how, [d], own⟩) := by
  unfold applyFilter
  split
  · exact ⟨rfl, .inl rfl⟩
  · exact ⟨rfl, .inr ⟨_, _, rfl⟩⟩

/-- Settles O34: each error comes to `receiveError` (`exec_receiveError`), and `receiveError_taken` says what that
does. -/
theorem receiveErrorsAreCaptured : Obligations.ReceiveErrorsAreCaptured := by
  refine ⟨?fault, ?complete, ?breaks, ?gap⟩
  case fault =>
    intro s c a k hup hon hrx hk
    have hfault : charFault c = some k := by
      rcases hk with ⟨hstop, hparity, rfl⟩ | ⟨hstop, hparity, rfl⟩
      · exact charFault_framing hstop hparity
      · exact charFault_parity hstop hparity
    have hout : rxOutcome s.cue.rx c = .error k a.chars := by
      rw [hrx]
      simp [rxOutcome, hfault]
    obtain ⟨hexec, htaken⟩ := exec_receiveError hup hon hout
    obtain ⟨herror, hidle⟩ := receiveError_taken hup k a.chars ⟨true, 0⟩
    exact ⟨_, hexec, htaken, herror, hidle⟩
  case complete =>
    intro s c a k chars hup hon hrx hown hstop hmark hparity hchars hk
    subst hchars
    have hout : rxOutcome s.cue.rx c = .error k (a.chars ++ [c.data]) := by
      rw [rxOutcome_markless hrx hstop hmark hparity]
      rcases hk with ⟨hfour, hlong, rfl⟩ | ⟨hlen, hsix, hcrc, rfl⟩
      · exact addChar_tooLong hfour hlong
      · have hbad : crcChecks (a.chars ++ [c.data]) = false := decide_eq_false fun h => hcrc (crc_ne_iff.2 h)
        rw [addChar_completes hown hsix hlen, hbad]
        rfl
    obtain ⟨hexec, -⟩ := exec_receiveError hup hon hout
    obtain ⟨herror, hidle⟩ := receiveError_taken hup k (a.chars ++ [c.data]) ⟨true, 0⟩
    exact ⟨_, hexec, herror, hidle⟩
  case breaks =>
    intro s c a hup hon hrx hstop hmark hparity
    have hfault : charFault c = none := charFault_eq_none_iff.2 ⟨hstop, by rw [hmark]; exact hparity⟩
    have hout : rxOutcome s.cue.rx c = .filter (some a) := by
      rw [hrx]
      simp [rxOutcome, hfault, hmark]
    obtain ⟨herror, hidle⟩ := receiveError_taken hup .breakErr a.chars ⟨true, 0⟩
    have hwould : (s.rxWould c).isError = true := by
      rw [State.rxWould, hup, hon, hout]
      rfl
    have hexec : exec (.receiveError c) s
        = .next (applyFilter c.data (receiveError .breakErr a.chars { s with cue.idle := ⟨true, 0⟩ })) := by
      show execReceiveError c s = _
      rw [execReceiveError, if_pos hwould, takeCharacter_on hup hon, hout]
      rfl
    obtain ⟨hrest, hrx'⟩ := applyFilter_spec c.data (receiveError .breakErr a.chars { s with cue.idle := ⟨true, 0⟩ })
    exact ⟨_, _, hexec, herror, hidle, hrest, hrx'⟩
  case gap =>
    intro s waited a hup hrx hrun hgap
    obtain ⟨herror, hidle⟩ := receiveError_taken hup .gap a.chars ⟨true, s.cue.idle.bits + waited⟩
    refine ⟨_, ?_, herror, hidle⟩
    show execGapExpiry waited s = _
    unfold execGapExpiry
    rw [hrx]
    dsimp only
    have hexpired : (s.cue.idle.running && decide (12 < s.quiet waited)) = true :=
      Bool.and_eq_true_iff.2 ⟨hrun, decide_eq_true hgap⟩
    rw [if_pos hexpired]
    rfl

/-! ### A message accepted (R96, R103, R104) -/

theorem ofCode_position_iff (b : Byte) : MsgKind.ofCode b = some .position ↔ b = 0x10 := by
  revert b
  decide

/-- Settles O35: the last character of a message is routed (`addChar_completes`, `route`), a destination filtered
(`accepts_eq`), and any other character added. -/
theorem charactersAreFilteredAndRouted : Obligations.CharactersAreFilteredAndRouted := by
  refine ⟨?accepted, ?filtered, ?added⟩
  case accepted =>
    intro s c a chars m hup hon hrx hown hstop hmark hparity hchars hsix hlen hcrc hm
    subst hchars
    have hgood : crcChecks (a.chars ++ [c.data]) = true := decide_eq_true (crc_ne_iff.1 hcrc)
    have hout : rxOutcome s.cue.rx c = .accepted m := by
      rw [rxOutcome_markless hrx hstop hmark hparity, addChar_completes hown hsix hlen, hgood, hm]
      rfl
    have htake : takeCharacter c s = route m { s with cue.idle := ⟨true, 0⟩, cue.rx := .idle } := by
      rw [takeCharacter_on hup hon, hout]
      rfl
    have hwould : (s.rxWould c).isAccepted = true := by
      rw [State.rxWould, hup, hon, hout]
      rfl
    have hexec : exec (.messageAccepted c) s = .next (takeCharacter c s) := by
      show execMessageAccepted c s = _
      rw [execMessageAccepted, if_pos hwould]
    rw [htake] at hexec
    have hexec' : exec (.characterTaken c) s = .next (route m { s with cue.idle := ⟨true, 0⟩, cue.rx := .idle }) :=
      congrArg Host.Outcome.next htake
    refine ⟨_, hexec, hexec', ?_⟩
    unfold route
    by_cases hpos : m.kind = 0x10
    · rw [if_pos ((ofCode_position_iff _).2 hpos), if_pos hpos]
      exact ⟨rfl, rfl, rfl, rfl⟩
    · rw [if_neg (fun h => hpos ((ofCode_position_iff _).1 h)), if_neg hpos]
      by_cases hroom : s.cue.inbound.length < 8
      · rw [if_pos hroom, if_pos hroom]
        exact ⟨rfl, rfl, rfl, rfl⟩
      · rw [if_neg hroom, if_neg hroom]
        refine ⟨raise_cue_rx _ _, raise_cue_idle _ _, ?_, raise_cue_inbound _ _, ?_, raise_isIn _ _ hup⟩
        · rw [raise_spec]
        · exact (raise_cue_rxDrops _ _).trans (satInc_eq_min _)
  case filtered =>
    intro s c hup hon hrx
    have hexec : exec (.characterTaken c) s = .next (takeCharacter c s) := rfl
    rw [hexec, takeCharacter_on hup hon]
    by_cases hgood : charFault c = none ∧ c.mark = true
    · obtain ⟨hfault, hmark⟩ := hgood
      obtain ⟨hstop, hparity⟩ := charFault_eq_none_iff.1 hfault
      have hout : rxOutcome s.cue.rx c = .filter none := by
        rcases hrx with hrx | hrx <;> simp [hrx, rxOutcome, hfault, hmark]
      rw [hout, if_pos ⟨hstop, hparity, hmark⟩]
      exact congrArg Host.Outcome.next (applyFilter_restartIdle c.data s)
    · have hpassed : rxOutcome s.cue.rx c = .passed := by
        have hopen : rxOutcome .idle c = .passed ∧ rxOutcome .discarding c = .passed := by
          unfold rxOutcome
          rcases Option.eq_none_or_eq_some (charFault c) with hfault | ⟨k, hfault⟩
          · have hmark : c.mark = false := Bool.eq_false_iff.2 fun h => hgood ⟨hfault, h⟩
            simp [hfault, hmark]
          · simp [hfault]
        rcases hrx with hrx | hrx <;> rw [hrx]
        · exact hopen.1
        · exact hopen.2
      rw [hpassed, if_neg fun h => hgood ⟨charFault_eq_none_iff.2 ⟨h.1, h.2.1⟩, h.2.2⟩]
      rfl
  case added =>
    intro s c a hup hon hrx hstop hmark hparity hlong hopen
    have hout : rxOutcome s.cue.rx c = .added { a with chars := a.chars ++ [c.data] } := by
      rw [rxOutcome_markless hrx hstop hmark hparity]
      have hlen : (a.chars ++ [c.data]).length = a.chars.length + 1 := by simp
      have hlimit : ¬ ((a.chars ++ [c.data]).length = 4 ∧ 64 < c.data.toNat) := fun h => by
        have := hlong (by omega)
        omega
      have hnot : ¬ (6 ≤ (a.chars ++ [c.data]).length ∧ (a.chars ++ [c.data]).length = 6 + u8 (a.chars ++ [c.data]) 3) :=
        fun h => by omega
      simp only [addChar, if_neg hlimit, if_neg hnot]
    show Host.Outcome.next (takeCharacter c s) = _
    rw [takeCharacter_on hup hon, hout]
    rfl

end Sys2Proof.Machine
end

section
/-! PROOF. Attempts on the cue line (R108 to R110, R112). -/

namespace Sys2Proof.Machine

variable {s : State} {m : TxMsg} {n : Nat}

theorem pokeResponder_idle (h : s.responder.streaming = false) : pokeResponder s = s := by
  have hnot : ¬ (s.responder.streaming && s.arbiter.holder != some .responder && !s.arbiter.responderWaits
      && offersRoom s.cue.txq) = true := by
    rw [h]
    exact Bool.false_ne_true
  rw [pokeResponder, if_neg hnot]

/-- CUE_TXEN is active exactly while the part drives the line (R109, R112). -/
theorem driving_eq_txEnable (s : State) : s.driving = s.txEnable := by
  unfold State.driving State.txEnable
  cases s.cue.tx <;> rfl

/-- At a start opportunity the message that is next begins its attempt (R108, R109). -/
theorem exec_attemptStart {waited : Nat} {q : List TxMsg} (hpart : s.part = .running) (hnext : s.nextMessage = some (m, n, q))
    (hstream : s.responder.streaming = false) (hrun : s.cue.idle.running = true)
    (hwait : s.waitBits ≤ s.cue.idle.bits + waited) :
    exec (.attemptStart waited) s = .next { s with cue := { s.cue with
      tx := .sending m n, txq := q, yieldMark := false, idle := ⟨false, s.cue.idle.bits + waited⟩ } } := by
  have hstart : (decide (s.part = .running) && s.cue.idle.running && decide (s.waitBits ≤ s.quiet waited)) = true := by
    rw [hrun, decide_eq_true hpart]
    exact decide_eq_true hwait
  show execAttemptStart waited s = _
  unfold execAttemptStart
  rw [hnext]
  dsimp only
  rw [if_pos hstart]
  exact congrArg Host.Outcome.next (pokeResponder_idle hstream)

/-- A collision before the eighth attempt (R110). -/
theorem exec_collision_again (htx : s.cue.tx = .sending m n) (hn : n + 1 < 8) :
    exec .collision s = .next { s with cue := { s.cue with tx := .waiting m (n + 1), rx := disown s.cue.rx } } := by
  show execCollision s = _
  unfold execCollision
  rw [htx]
  exact if_pos hn

/-- The collision of the eighth attempt (R110). -/
theorem exec_collision_last (htx : s.cue.tx = .sending m n) (hn : ¬ n + 1 < 8) :
    exec .collision s = .next (raise .txAbandon { s with cue := { s.cue with
      tx := .empty, rx := disown s.cue.rx, txAbandons := satInc s.cue.txAbandons } }) := by
  show execCollision s = _
  unfold execCollision
  rw [htx]
  exact if_neg hn

/-- Settles O36, a lemma for each event of the transmitter. -/
theorem attemptsSendOrCollide : Obligations.AttemptsSendOrCollide := by
  refine ⟨?first, ?again, ?complete, ?collision, ?stopped, ?startBit⟩
  case first =>
    intro s waited m q hpart htx hq hstream hrun hwait
    have hnext : s.nextMessage = some (m, 0, q) := by
      unfold State.nextMessage
      rw [htx, hq]
    refine exec_attemptStart hpart hnext hstream hrun ?_
    rw [State.waitBits, State.failedAttempts, htx]
    exact hwait
  case again =>
    intro s waited n m hpart htx hstream hrun hwait
    have hnext : s.nextMessage = some (m, n, s.cue.txq) := by
      unfold State.nextMessage
      rw [htx]
    refine exec_attemptStart hpart hnext hstream hrun ?_
    rw [State.waitBits, State.failedAttempts, htx]
    exact hwait
  case complete =>
    intro s m n htx
    show execAttemptComplete s = _
    unfold execAttemptComplete
    rw [htx]
    dsimp only [restartIdle]
    unfold dropOwn
    cases s.cue.rx <;> rfl
  case collision =>
    intro s m n hup htx hn
    by_cases hseven : n < 7
    · refine ⟨_, exec_collision_again htx (by omega), rfl, ?_⟩
      rw [if_pos hseven]
      exact ⟨rfl, rfl, rfl⟩
    · refine ⟨_, exec_collision_last htx (by omega), ?_, ?_⟩
      · rw [raise_spec]
      · rw [if_neg hseven]
        exact ⟨raise_cue_tx _ _, (raise_cue_txAbandons _ _).trans (satInc_eq_min _), raise_isIn _ _ hup⟩
  case stopped =>
    intro s htx
    show execStoppedCharacterEnd s = _
    unfold execStoppedCharacterEnd
    rw [htx]
    dsimp only [restartIdle]
    unfold dropOwn
    cases s.cue.rx <;> rfl
  case startBit =>
    intro s hup
    rw [← driving_eq_txEnable]
    exact if_pos hup

end Sys2Proof.Machine
end

section
/-! PROOF. MH_TAKE and UNKNOWN_KIND (R114 to R119, R121, R130, R133, R190, R191). -/

namespace Sys2Proof.Machine

variable {s : State} {m : Message} {rest : List Message} {k : MsgKind}

/-! ### The judgement of a message -/

theorem exec_mhTake (hup : s.up = true) (hidle : s.handler.state = .idle) (hq : s.cue.inbound = m :: rest) :
    exec .mhTake s = .next (applyVerdict m (judge m s) { s with cue := { s.cue with inbound := rest } }) := by
  show execMhTake s = _
  unfold execMhTake
  rw [hidle, hq]
  exact if_pos hup

theorem judge_short (hk : MsgKind.ofCode m.kind = some k) (h : m.payload.length < requiredLength k m.payload) :
    judge m s = .ignored := by
  unfold judge
  rw [hk]
  exact if_pos h

theorem judge_misaddressed (hk : MsgKind.ofCode m.kind = some k) (h : k.carriedUnder m.addressing = false) :
    judge m s = .ignored := by
  unfold judge
  rw [hk]
  dsimp only
  rw [h, if_neg Bool.false_ne_true, ite_self]

theorem judge_known (hk : MsgKind.ofCode m.kind = some k) (hlen : requiredLength k m.payload ≤ m.payload.length)
    (h : k.carriedUnder m.addressing = true) : judge m s = judgeKind k m s := by
  unfold judge
  rw [hk]
  dsimp only
  rw [if_neg (Nat.not_lt.2 hlen), if_pos h]

/-- A message of a known kind that its kind's judgement ignores is ignored, whatever its length and addressing. -/
theorem judge_ignored (hk : MsgKind.ofCode m.kind = some k) (h : judgeKind k m s = .ignored) : judge m s = .ignored := by
  unfold judge
  rw [hk]
  dsimp only
  rw [h, ite_self, ite_self]

theorem judge_unknown (hk : MsgKind.ofCode m.kind = none) :
    judge m s = if m.addressing = .individual then .atOnce else .ignored := by
  unfold judge
  rw [hk]

/-! ### The fields a kind is judged by -/

/-- The source, the frame and the start of a SCENE_ENTERED that the partner check takes (R133). -/
theorem takesPartner_iff : takesPartner m s = true ↔ s.partner = some m.source ∧ u24 m.payload 0 ≤ 1048575
    ∧ (u24 m.payload 3 ≤ 1048575 ∨ u24 m.payload 3 = 0xFFFFFF) := by
  have hstart : optFrame (u24 m.payload 3) = none ↔ u24 m.payload 3 = 0xFFFFFF := by
    unfold optFrame
    by_cases h : u24 m.payload 3 = 0xFFFFFF <;> simp [h]
  rw [takesPartner, Bool.and_eq_true_iff, Bool.and_eq_true_iff, Bool.or_eq_true_iff, decide_eq_true_iff, decide_eq_true_iff,
    decide_eq_true_iff, decide_eq_true_iff, hstart, and_assoc, or_comm]

theorem judgeQuery_scene {p : List Byte} (htopic : u8 p 0 = 1) (hframe : u24 p 1 ≤ 1048575) : judgeQuery p = .store := by
  have hgood : ¬ (4 < u8 p 0 ∨ u8 p 0 = 1 ∧ maxFrame < u24 p 1) := by
    rintro (h | ⟨-, h⟩)
    · omega
    · exact absurd hframe (Nat.not_le.2 h)
  rw [judgeQuery, if_neg hgood, if_pos htopic]

theorem judgeQuery_other {p : List Byte} (htopic : u8 p 0 ≤ 4) (hother : u8 p 0 ≠ 1) : judgeQuery p = .atOnce := by
  have hgood : ¬ (4 < u8 p 0 ∨ u8 p 0 = 1 ∧ maxFrame < u24 p 1) := by
    rintro (h | ⟨h, -⟩)
    · omega
    · exact hother h
  rw [judgeQuery, if_neg hgood, if_neg hother]

theorem judgeQuery_bad {p : List Byte} (h : 4 < u8 p 0 ∨ (u8 p 0 = 1 ∧ 1048575 < u24 p 1)) :
    judgeQuery p = .refused .badField (.query (p.getD 0 0) .nothing) := if_pos h

theorem judgeReset_soft {p : List Byte} (h : u8 p 0 = 0) : judgeReset p = .atOnce := by
  unfold judgeReset
  rw [h]
  rfl

theorem judgeReset_list {p : List Byte} (h : u8 p 0 = 1) : judgeReset p = .store := by
  unfold judgeReset
  rw [h]
  rfl

theorem judgeReset_bad {p : List Byte} (h : 1 < u8 p 0) : judgeReset p = .refused .badField .plain := by
  obtain ⟨scope, hscope⟩ : ∃ scope, u8 p 0 = scope + 2 := ⟨u8 p 0 - 2, by omega⟩
  unfold judgeReset
  rw [hscope]
  rfl

/-- The kinds judged for the store, where their fields allow it. -/
theorem judgeKind_store
    (h : k ∈ [MsgKind.sceneSet, .gradeSet, .sceneMove, .sceneDelete, .rangeTrim, .listClear]
      ∨ (k = .query ∧ m.addressing = .individual ∧ u8 m.payload 0 = 1 ∧ u24 m.payload 1 ≤ 1048575)
      ∨ (k = .reset ∧ m.addressing ≠ .broadcast ∧ u8 m.payload 0 = 1)
      ∨ (k = .sceneEntered ∧ s.partner = some m.source ∧ u24 m.payload 0 ≤ 1048575
        ∧ (u24 m.payload 3 ≤ 1048575 ∨ u24 m.payload 3 = 0xFFFFFF))) :
    k.carriedUnder m.addressing = true ∧ judgeKind k m s = .store := by
  rcases h with hedit | ⟨rfl, hind, htopic, hframe⟩ | ⟨rfl, haddr, hscope⟩ | ⟨rfl, hpartner⟩
  · simp only [List.mem_cons, List.not_mem_nil, or_false] at hedit
    rcases hedit with rfl | rfl | rfl | rfl | rfl | rfl <;> exact ⟨rfl, rfl⟩
  · exact ⟨decide_eq_true hind, judgeQuery_scene htopic hframe⟩
  · exact ⟨decide_eq_true haddr, judgeReset_list hscope⟩
  · exact ⟨rfl, if_pos (takesPartner_iff.2 hpartner)⟩

/-- The kinds judged to be carried out at once, where their fields allow it. -/
theorem judgeKind_atOnce
    (h : k ∈ [MsgKind.clear, .setMode, .fetchFrom]
      ∨ (k = .query ∧ m.addressing = .individual ∧ u8 m.payload 0 ≤ 4 ∧ u8 m.payload 0 ≠ 1)
      ∨ (k = .reset ∧ m.addressing ≠ .broadcast ∧ u8 m.payload 0 = 0)
      ∨ (k ∈ [MsgKind.punchArm, .punchAbort] ∧ (s.config.recorder = none ∨ s.config.recorder = some m.source))
      ∨ (k ∈ [MsgKind.listQuery, .listRec, .listEnd] ∧ m.addressing = .individual)) :
    k.carriedUnder m.addressing = true ∧ judgeKind k m s = .atOnce := by
  rcases h with hplain | ⟨rfl, hind, htopic, hother⟩ | ⟨rfl, haddr, hscope⟩ | ⟨hpunch, hsource⟩ | ⟨hlist, hind⟩
  · simp only [List.mem_cons, List.not_mem_nil, or_false] at hplain
    rcases hplain with rfl | rfl | rfl <;> exact ⟨rfl, rfl⟩
  · exact ⟨decide_eq_true hind, judgeQuery_other htopic hother⟩
  · exact ⟨decide_eq_true haddr, judgeReset_soft hscope⟩
  · have hallowed := (sourceAllowed_iff _ _).2 hsource
    simp only [List.mem_cons, List.not_mem_nil, or_false] at hpunch
    rcases hpunch with rfl | rfl <;> exact ⟨rfl, if_pos hallowed⟩
  · simp only [List.mem_cons, List.not_mem_nil, or_false] at hlist
    rcases hlist with rfl | rfl | rfl <;> exact ⟨decide_eq_true hind, rfl⟩

/-- What the take ignores for its length, its kind or its addressing (R115, R116). -/
theorem judge_not_carried
    (h : (∃ k, MsgKind.ofCode m.kind = some k ∧ m.payload.length < requiredLength k m.payload)
      ∨ MsgKind.ofCode m.kind ∈ [some MsgKind.eventReport, some .status, some .reply]
      ∨ (MsgKind.ofCode m.kind ∈ [some MsgKind.query, some .listQuery, some .listRec, some .listEnd]
          ∧ m.addressing ≠ .individual)
      ∨ (MsgKind.ofCode m.kind = some .reset ∧ m.addressing = .broadcast)
      ∨ (MsgKind.ofCode m.kind = none ∧ m.addressing ≠ .individual)) :
    judge m s = .ignored := by
  rcases h with ⟨k, hk, hshort⟩ | hnever | ⟨hdirect, haddr⟩ | ⟨hreset, haddr⟩ | ⟨hunknown, haddr⟩
  · exact judge_short hk hshort
  · simp only [List.mem_cons, List.not_mem_nil, or_false] at hnever
    rcases hnever with hk | hk | hk <;> exact judge_misaddressed hk rfl
  · simp only [List.mem_cons, List.not_mem_nil, or_false] at hdirect
    rcases hdirect with hk | hk | hk | hk <;> exact judge_misaddressed hk (decide_eq_false haddr)
  · exact judge_misaddressed hreset (decide_eq_false (Classical.not_not.2 haddr))
  · rw [judge_unknown hunknown, if_neg haddr]

/-- What the take ignores for its source or, of a SCENE_ENTERED, its fields (R117, R133). -/
theorem judge_not_allowed
    (h : (MsgKind.ofCode m.kind ∈ [some MsgKind.punchArm, some .punchAbort]
        ∧ ∃ a, s.config.recorder = some a ∧ a ≠ m.source)
      ∨ (MsgKind.ofCode m.kind = some .sceneEntered
        ∧ (s.partner ≠ some m.source ∨ 1048575 < u24 m.payload 0
          ∨ (1048575 < u24 m.payload 3 ∧ u24 m.payload 3 ≠ 0xFFFFFF)))) :
    judge m s = .ignored := by
  rcases h with ⟨hpunch, a, ha, hother⟩ | ⟨hentered, hbad⟩
  · have hdenied : ¬ sourceAllowed s.config.recorder m.source = true := by
      rw [sourceAllowed_iff, ha]
      simpa using hother
    simp only [List.mem_cons, List.not_mem_nil, or_false] at hpunch
    rcases hpunch with hk | hk <;> exact judge_ignored hk (if_neg hdenied)
  · have hdenied : ¬ takesPartner m s = true := by
      rw [takesPartner_iff]
      rintro ⟨hpartner, hframe, hstart⟩
      rcases hbad with hbad | hbad | ⟨hoff, hsome⟩
      · exact hbad hpartner
      · omega
      · rcases hstart with hstart | hstart
        · omega
        · exact hsome hstart
    exact judge_ignored hentered (if_neg hdenied)

/-! ### The take -/

theorem exec_mhTake_ignored (hup : s.up = true) (hidle : s.handler.state = .idle) (hq : s.cue.inbound = m :: rest)
    (h : judge m s = .ignored) : exec .mhTake s = .next { s with
      cue := { s.cue with inbound := rest },
      handler := { s.handler with ignored := min (s.handler.ignored + 1) 65535 } } := by
  rw [exec_mhTake hup hidle hq, h, ← satInc_eq_min]
  rfl

theorem exec_mhTake_refused {r : ReplyResult} {body : ReplyBody} (hup : s.up = true) (hidle : s.handler.state = .idle)
    (hq : s.cue.inbound = m :: rest) (hr : r ≠ .ok) (hroom : s.sharedTaken < 5) (h : judge m s = .refused r body) :
    exec .mhTake s = .next { s with
      cue := { s.cue with inbound := rest, txq := s.cue.txq ++ replyTo m r body },
      handler := ⟨.idle, if m.addressing = .individual then s.handler.ignored else min (s.handler.ignored + 1) 65535⟩ } := by
  have hend := endPlain_refused_joins m body { s with cue := { s.cue with inbound := rest } } hr hroom
  rw [exec_mhTake hup hidle hq, h]
  exact congrArg Host.Outcome.next hend

/-- Settles O37: `judgeKind_store`, `judgeKind_atOnce` and `judge_not_carried` say what the head is judged to be. -/
theorem handlerTakesTheHead : Obligations.HandlerTakesTheHead := by
  refine ⟨?store, ?atOnce, ?ignored, ?codes, ?lengths⟩
  case store =>
    intro s m rest k hup hidle hq hk h hlen
    obtain ⟨hcarried, hjudged⟩ := judgeKind_store h
    have hexec := exec_mhTake hup hidle hq
    rw [judge_known hk hlen hcarried, hjudged] at hexec
    refine ⟨_, hexec, ?_⟩
    by_cases hfree : s.arbiter.holder = none ∧ s.arbiter.noneWaits = true
    · have hgrant : (decide (s.arbiter.holder = none) && s.arbiter.noneWaits) = true :=
        Bool.and_eq_true_iff.2 ⟨decide_eq_true hfree.1, hfree.2⟩
      rw [if_pos hfree, applyVerdict, request, if_pos (by exact hgrant)]
      exact ⟨rfl, rfl, rfl⟩
    · have hwait : ¬ (decide (s.arbiter.holder = none) && s.arbiter.noneWaits) = true := fun h =>
        hfree ⟨of_decide_eq_true (Bool.and_eq_true_iff.1 h).1, (Bool.and_eq_true_iff.1 h).2⟩
      rw [if_neg hfree, applyVerdict, request, if_neg (by exact hwait)]
      exact ⟨rfl, rfl, rfl⟩
  case atOnce =>
    intro s m rest k hup hidle hq hk h hlen
    obtain ⟨hcarried, hjudged⟩ := judgeKind_atOnce h
    rw [exec_mhTake hup hidle hq, judge_known hk hlen hcarried, hjudged]
    rfl
  case ignored =>
    intro s m rest hup hidle hq h
    exact exec_mhTake_ignored hup hidle hq (judge_not_carried h)
  case codes => decide
  case lengths =>
    intro p knots record hknots hrecord
    have hknot : ∀ i, knotBytes p i = knots i := fun i => (hknots i).symm
    have hrec : ∀ i, recordBytes p i = record i := by
      intro i
      rw [hrecord, recordBytes, hknot]
      cases bitAt p (i + 7) 1
      · rfl
      · rw [if_pos rfl, if_pos rfl]
        omega
    refine ⟨rfl, hrec 0, ?_, rfl, rfl, rfl, rfl, rfl, rfl, rfl, rfl, rfl, rfl, rfl, rfl, ?_, rfl, rfl, rfl, rfl⟩
    · rw [requiredLength, hknot]
    · rw [requiredLength, hrec]

/-- Settles O38: `judgeQuery_bad` and `judgeReset_bad` are answered in the take, `judge_not_allowed` is ignored, and a
kind the part does not know is carried out at once, by UNKNOWN_KIND. -/
theorem handlerRefusesAtTheTake : Obligations.HandlerRefusesAtTheTake := by
  refine ⟨⟨?query, ?reset, ?source⟩, ?unknown⟩
  case query =>
    intro s m rest hup hidle hq hind hsource hroom hk hlen hbad
    have hjudge : judge m s = .refused .badField (.query (m.payload.getD 0 0) .nothing) :=
      (judge_known hk hlen (decide_eq_true hind)).trans (judgeQuery_bad hbad)
    rw [exec_mhTake_refused hup hidle hq (by decide) hroom hjudge, replyTo, if_pos ⟨hind, hsource⟩, if_pos hind, ← hidle]
  case reset =>
    intro s m rest hup hidle hq haddr hroom hk hlen hscope
    have hjudge : judge m s = .refused .badField .plain :=
      (judge_known hk hlen (decide_eq_true haddr)).trans (judgeReset_bad hscope)
    rw [exec_mhTake_refused hup hidle hq (by decide) hroom hjudge, ← hidle]
  case source =>
    intro s m rest hup hidle hq h
    exact exec_mhTake_ignored hup hidle hq (judge_not_allowed h)
  case unknown =>
    intro s m rest hup hidle hq hk hind hsource hroom
    have hjudge : judge m s = .atOnce := (judge_unknown hk).trans (if_pos hind)
    have hexec := exec_mhTake hup hidle hq
    rw [hjudge] at hexec
    have hanswer := endPlain_refused_joins m (r := .unknownKind) .plain
      (hold m .carry { s with cue := { s.cue with inbound := rest } }) (by decide) hroom
    refine ⟨_, hexec, rfl, ?_⟩
    show execUnknownKind (hold m .carry { s with cue := { s.cue with inbound := rest } }) = _
    unfold execUnknownKind
    dsimp only [hold]
    rw [if_pos hk]
    refine (congrArg Host.Outcome.next hanswer).trans ?_
    rw [replyTo, if_pos ⟨hind, hsource⟩, if_pos hind, ← hidle]
    rfl

end Sys2Proof.Machine
end
